-- ==== Sys2Proof/Word.lean ====
section
/-! DEFINITION. The words of the GW-816: bytes as they cross a line (R194), the counts that wrap
(round number, epoch, sequence number), the station serial, and the byte-order helpers of R194
("All multi-byte integers are sent high byte first"). -/

namespace Sys2Proof

/-- One byte of a frame (R194). -/
abbrev Byte := BitVec 8

/-- The round number, a 32-bit count that wraps to 0 (R2). -/
abbrev Round := BitVec 32

/-- The sequence number of a record entry, 32 bits, counted modulo 2^32 (R184). -/
abbrev Seq := BitVec 32

/-- The epoch, an 8-bit count that wraps (section 3.3, R187). -/
abbrev Epoch := BitVec 8

/-- A station serial, 24 bits, never 0 for a configured station (section 4, R25). -/
abbrev Identity := BitVec 24

/-- A moment, in microseconds since POWER.  The resolution is a DESIGN CHOICE (log entry 1). -/
abbrev Time := Nat

/-- A count of the site clock, in seconds since POWER (section 3.2). -/
abbrev Seconds := Nat

/-- A 16-bit value from its high and its low byte (R194). -/
def word16 (hi lo : Byte) : Nat := hi.toNat * 256 + lo.toNat

/-- A 24-bit value from three bytes, high byte first (R194). -/
def word24 (b2 b1 b0 : Byte) : Nat := b2.toNat * 65536 + b1.toNat * 256 + b0.toNat

/-- One byte holding `n` (R196: the narrowest width that holds the field's range). -/
def bytes1 (n : Nat) : List Byte := [BitVec.ofNat 8 n]

/-- Two bytes holding `n`, high byte first. -/
def bytes2 (n : Nat) : List Byte := [BitVec.ofNat 8 (n / 256), BitVec.ofNat 8 n]

/-- Three bytes holding `n`, high byte first. -/
def bytes3 (n : Nat) : List Byte :=
  [BitVec.ofNat 8 (n / 65536), BitVec.ofNat 8 (n / 256), BitVec.ofNat 8 n]

/-- Four bytes holding `n`, high byte first. -/
def bytes4 (n : Nat) : List Byte :=
  [BitVec.ofNat 8 (n / 16777216), BitVec.ofNat 8 (n / 65536), BitVec.ofNat 8 (n / 256), BitVec.ofNat 8 n]

end Sys2Proof
end

