-- ==== Sys2Proof/Syntax.lean ====
section
/-! DEFINITION. The commands of the GW-816: one constructor for each row of spec/opcode_table.json,
with the operands that the row's rule names.  The table gives no bits, so operands are typed; those
that a master sends are the raw bytes of the frame (section 11.3), so that values outside their
ranges can be said (log entry 6). -/

namespace Sys2Proof

/-- A supervisory port, and the role of its master (R170). -/
inductive Port where
  | t
  | q
  | s
  deriving DecidableEq, Repr, Inhabited

/-- An end of the field loop at the coordinator. -/
inductive Side where
  | a
  | b
  deriving DecidableEq, Repr, Inhabited

/-- A window of the round (R1). -/
inductive Window where
  /-- Beacon window, phase A-out, 0 to 2.5 ms. -/
  | phaseA
  /-- Beacon window, phase B-out, 2.5 to 5 ms. -/
  | phaseB
  /-- Slot n, 1 to 48. -/
  | slot (n : Nat)
  /-- Admission window, 197 to 229 ms. -/
  | admission
  /-- Quiet gap, 229 to 250 ms. -/
  | quietGap
  deriving DecidableEq, Repr, Inhabited

/-- Where a loop copy completes (R7): before the end of the window that its opening flag fell in, after
it while the same round is timed, or when a later round has begun. -/
inductive CopyEnd where
  | inWindow
  | afterWindow
  | afterRound
  deriving DecidableEq, Repr, Inhabited

/-- A pattern generator of the Output Driver Array (R138). -/
inductive Generator where
  | slow
  | fast
  deriving DecidableEq, Repr, Inhabited

/-- The commands: the rows of spec/opcode_table.json. -/
inductive Instr where
  /-- Power-up or assertion of the reset pin (R187). -/
  | power
  /-- The RESTART command, taken from a port (R181). -/
  | restart (port : Port) (tag : Byte)
  /-- A port's watchdog reaches its expiry time (R180). -/
  | masterSilenceExpiry (port : Port)
  /-- The 2 s listen period ends (R16). -/
  | listenPeriodEnd
  /-- A BEACON copy passes its checks in a listen period (R15). -/
  | foreignBeaconHeard
  /-- The 1 s back-off ends (R15). -/
  | backOffEnd
  /-- The quiet gap ends and a new round begins (R4). -/
  | roundStart
  /-- A frame copy on a side (R7): the window its opening flag fell in, where it completed, and the
  bytes between its flags as they were on the line. -/
  | loopCopy (side : Side) (window : Window) (ending : CopyEnd) (bytes : List Byte)
  /-- The end of slot n (R9). -/
  | slotEnd (slot : Nat)
  /-- The end of the admission window (R3). -/
  | roundClose
  /-- An overcurrent is detected on a line (R140). -/
  | short (line : Nat)
  /-- A line's retry end tick (R141). -/
  | retryWaitEnd (line : Nat)
  /-- A phase change of a pattern generator (R139). -/
  | patternPhaseChange (gen : Generator)
  /-- A check of the line check period (R144): bit l-1 is set when SNS l shows load current. -/
  | lineCheck (sense : BitVec 32)
  /-- The clean-count step of a site-clock tick (R142). -/
  | cleanCountTick
  /-- A floor of a zone, of the role T or Q, reaches its expiry time (R122). -/
  | floorExpiry (zone : Nat) (role : Port)
  /-- A zone's silence reaches its expiry time (R125). -/
  | silenceExpiry (zone : Nat)
  /-- A zone test reaches its end time (R128). -/
  | testEnd (zone : Nat)
  /-- The idle expiry of the pending set (R157). -/
  | idleExpiry
  /-- The proposal expiry of the pending set (R161). -/
  | proposalExpiry
  /-- A frame is closed on a port (R171, R172): the bytes between its flags as they were on the line,
  and whether one of them had a stop-bit error. -/
  | portFrame (port : Port) (bytes : List Byte) (stopBitError : Bool)
  /-- A frame is still incomplete 100 ms after its opening flag (R171). -/
  | portFrameTimeout (port : Port)
  /-- A port finishes sending a frame (R176). -/
  | transmitComplete (port : Port)
  /-- STATUS (R191). -/
  | status (port : Port) (tag : Byte)
  /-- READ ZONE (R192). -/
  | readZone (port : Port) (tag : Byte) (zone : Byte)
  /-- READ PILE (R192). -/
  | readPile (port : Port) (tag : Byte)
  /-- READ STATIONS (R42). -/
  | readStations (port : Port) (tag : Byte)
  /-- READ STRANGERS (R42). -/
  | readStrangers (port : Port) (tag : Byte)
  /-- READ GUSTS (R68). -/
  | readGusts (port : Port) (tag : Byte)
  /-- READ PATHS (R111). -/
  | readPaths (port : Port) (tag : Byte)
  /-- READ CONFIG ITEM (R168): source, item kind and the two key bytes. -/
  | readConfigItem (port : Port) (tag : Byte) (source kind key1 key2 : Byte)
  /-- READ LOOP (R23). -/
  | readLoop (port : Port) (tag : Byte)
  /-- REPORT WETTING (R81). -/
  | reportWetting (port : Port) (tag : Byte) (pile : Byte)
  /-- REPORT ACTIVITY (R82). -/
  | reportActivity (port : Port) (tag : Byte) (pile activity : Byte)
  /-- FLOOR (R121). -/
  | floor (port : Port) (tag : Byte) (zone level : Byte) (minutes : BitVec 16)
  /-- ACK ALERT (R124). -/
  | ackAlert (port : Port) (tag : Byte) (zone : Byte)
  /-- SILENCE (R125). -/
  | silence (port : Port) (tag : Byte) (zone : Byte) (minutes : BitVec 16)
  /-- SERVICE (R126). -/
  | service (port : Port) (tag : Byte) (zone state : Byte)
  /-- TEST (R127). -/
  | test (port : Port) (tag : Byte) (zone : Byte)
  /-- CLEAR LINE (R146). -/
  | clearLine (port : Port) (tag : Byte) (line : Byte)
  /-- ACK LOSS (R39). -/
  | ackLoss (port : Port) (tag : Byte) (slot : Byte)
  /-- STAGE (R155): the bytes of the item, its kind byte first. -/
  | stage (port : Port) (tag : Byte) (item : List Byte)
  /-- DISCARD (R156). -/
  | discard (port : Port) (tag : Byte)
  /-- PROPOSE (R158). -/
  | propose (port : Port) (tag : Byte)
  /-- ACCEPT (R159). -/
  | accept (port : Port) (tag : Byte) (number : Byte)
  /-- REFUSE (R160). -/
  | refuse (port : Port) (tag : Byte) (number : Byte)
  /-- READ LOG NEXT (R189). -/
  | readLogNext (port : Port) (tag : Byte)
  /-- READ LOG AT (R190). -/
  | readLogAt (port : Port) (tag : Byte) (seq : BitVec 32)
  /-- A flag reaches a port's receiver with no byte since the last one, or while it hunts (R171). -/
  | portOpeningFlag (port : Port)
  /-- The byte beyond 72 content bytes and the CRC arrives (R171). -/
  | portFrameOverlength (port : Port)
  /-- Phase B-out of the beacon window begins (R5). -/
  | phaseBOut
  deriving DecidableEq, Repr

end Sys2Proof
end

