-- ==== Sys2Proof/Decode.lean ====
section
/-! DEFINITION. The table's words.  No row of spec/opcode_table.json gives bits ("fields" is empty and
no row has "fixed"), so no word spells a command: the commands reach the coordinator as events and as
frames, and the frames are read in Machine/Frames.lean and Machine/Operands.lean. -/

namespace Sys2Proof

/-- The command that a word spells by the table's bits.  No row gives bits, so none does. -/
def decodeTableWord (_nbits _w : Nat) : Option Instr := none

end Sys2Proof
end

