-- ==== Sys2Proof/Config.lean ====
section
/-! DEFINITION. The free values: what the manual leaves open and the coordinator nevertheless has.
Each is an opaque constant, so that no proof can lean on a value of it. -/

namespace Sys2Proof.Config

/-- The load currents seen at SNS1 to SNS32 at the n-th line check that the coordinator takes by
itself (bit l-1 for line l, set when current flows).  They come from outside the part (R144), so
nothing constrains them (log entry 3). -/
opaque senseInput : Nat → BitVec 32

/-- Whether a remaining time of the given number of seconds, which is not a whole number of minutes,
is reported by the next higher number of minutes.  R131 reports "the remaining minutes" of a floor
and does not say how a part of a minute is rounded (log entry 4). -/
opaque minutesRoundUp : Nat → Bool

/-- The byte that a MALFORMED response carries in place of the code (index 0) or the tag (index 1) of
a well-formed frame that is too short to hold it.  R196 sends both "as received" and does not say
what stands there when nothing was received (log entry 5). -/
opaque missingHeaderByte : Nat → Byte

end Sys2Proof.Config
end

