-- ==== Sys2Proof/Machine/State.lean ====
section
/-! DEFINITION. The state of the GW-816, block by block as section 2 of the overview divides it, and
its state right after POWER.  Everything here is plain data: tables are lists of entries in ascending
order of their key, and an entry that is not configured is not listed. -/

namespace Sys2Proof.Machine

/-! ## Stopping -/

/-- The reasons for a fault.  There are none: the manual names no event that stops the coordinator, and
every command of the table has an effect in every state, so no meaning raises one. -/
inductive Fault where
  deriving DecidableEq, Repr

/-- The reasons for a refusal. -/
inductive Refusal where
  /-- Raised by exec for a command whose meaning is not written yet; safe, because nothing can be
  proved of a run that goes on past it.  No arm of this model raises it. -/
  | notModelled (mnemonic : String)
  deriving DecidableEq, Repr

/-! ## Field Loop Controller (chapter 1) -/

/-- The loop mode (section 1.5). -/
inductive LoopMode where
  | listen
  | running
  | degraded
  | halted
  deriving DecidableEq, Repr, Inhabited

/-- What the loop does in LISTEN (R14, R15): a listen period or a back-off, with its end. -/
inductive ListenPhase where
  | listening (ends : Time)
  | backOff (ends : Time)
  deriving DecidableEq, Repr, Inhabited

/-- The degraded reason set: which of RING_OPEN, NOISY_A and NOISY_B it holds (section 1.5). -/
structure Reasons where
  ringOpen : Bool
  noisyA : Bool
  noisyB : Bool
  deriving DecidableEq, Repr, Inhabited

/-- The halt reason (section 1.5); absent is `none` in the state. -/
inductive HaltReason where
  | foreignBeacon
  deriving DecidableEq, Repr, Inhabited

/-- The four counts of a side (R12). -/
structure Counts where
  valid : Nat
  syntaxErrors : Nat
  content : Nat
  boundary : Nat
  deriving DecidableEq, Repr, Inhabited

/-- One value for each side of the loop. -/
structure Sides (α : Type) where
  a : α
  b : α
  deriving DecidableEq, Repr, Inhabited

/-- The class that a copy is put into (R7). -/
inductive CopyClass where
  | valid
  | syntaxError
  | contentError
  | boundaryViolation
  deriving DecidableEq, Repr, Inhabited

/-- The kind of a station (section 4). -/
inductive Kind where
  | mast
  | dust
  | gauge
  deriving DecidableEq, Repr, Inhabited

/-- The reading of a STATION frame, as received (11.2.2). -/
inductive Reading where
  | mast (speed direction : Nat)
  | dust (concentration : Nat)
  | gauge (humidity : Nat) (rain : Bool)
  deriving DecidableEq, Repr, Inhabited

/-- A STATION frame: identity, condition code and reading; the reading tells the kind. -/
structure StationFrame where
  identity : Identity
  code : Nat
  reading : Reading
  deriving DecidableEq, Repr, Inhabited

/-- The copy taken on a side in a slot (R8), and whether it passed the slot's content checks. -/
structure TakenCopy where
  slot : Nat
  side : Side
  frame : StationFrame
  ok : Bool
  deriving DecidableEq, Repr, Inhabited

/-- An ANNOUNCE copy that passed the content checks of R10. -/
structure AnnounceCopy where
  side : Side
  identity : Identity
  kind : Kind
  deriving DecidableEq, Repr, Inhabited

/-- An announce as the FLC hands it to the SRG (R10). -/
structure Announce where
  identity : Identity
  kind : Kind
  heardA : Bool
  heardB : Bool
  deriving DecidableEq, Repr, Inhabited

/-- A delivered verdict of the round, as the ring-break estimate needs it (R13): the ring position
configured for the slot, and the sides that heard it. -/
structure RoundVerdict where
  ring : Nat
  heardA : Bool
  heardB : Bool
  deriving DecidableEq, Repr, Inhabited

/-- The content of a beacon (R4).  `openWindow` is the admission-window-open indication. -/
structure Beacon where
  round : BitVec 16
  mode : LoopMode
  epoch : Epoch
  openWindow : Bool
  grants : List (Identity × Nat)
  revocations : List Nat
  deriving DecidableEq, Repr, Inhabited

/-- The round in progress (R1): when it started, whether phase B-out has begun, the last slot that
has ended, and whether its round close has taken place. -/
structure Progress where
  start : Time
  phaseB : Bool
  slotsEnded : Nat
  closed : Bool
  deriving DecidableEq, Repr, Inhabited

/-- The state of the Field Loop Controller (section 1.5, R24). -/
structure Flc where
  mode : LoopMode
  listen : Option ListenPhase
  attempts : Nat
  reasons : Reasons
  halt : Option HaltReason
  round : Round
  progress : Option Progress
  beacon : Option Beacon
  echoAB : Bool
  echoBA : Bool
  missAB : Nat
  missBA : Nat
  noisy : Sides Nat
  foreignHeard : Bool
  foreignCount : Nat
  recovery : Nat
  running : Sides Counts
  last : Sides Counts
  taken : List TakenCopy
  announced : List (Side × Identity)
  announces : List AnnounceCopy
  verdicts : List RoundVerdict
  breakA : Option Nat
  breakB : Option Nat
  deriving DecidableEq, Repr, Inhabited

/-! ## Station Registry (chapter 2) -/

/-- The live state of a station (R25). -/
inductive LiveState where
  | silent
  | heard
  | warming
  | active
  | suspect
  | quieting
  | lost
  | returned
  deriving DecidableEq, Repr, Inhabited

/-- The configured part of a station-table entry (R25). -/
structure StationCfg where
  slot : Nat
  identity : Identity
  kind : Kind
  ring : Nat
  deriving DecidableEq, Repr, Inhabited

/-- A configured entry of the station table (R25). -/
structure Station where
  cfg : StationCfg
  live : LiveState
  grant : Option Round
  warm : Nat
  missed : Nat
  code : Option Nat
  heardA : Option Round
  heardB : Option Round
  fresh : Bool
  deriving DecidableEq, Repr, Inhabited

/-- A record of the stranger list (R38). -/
structure Stranger where
  identity : Identity
  kind : Kind
  firstEpoch : Epoch
  firstRound : Round
  last : Round
  count : Nat
  deriving DecidableEq, Repr, Inhabited

/-- The state of the Station Registry (R25, R26). -/
structure Srg where
  stations : List Station
  queue : List Nat
  revocations : List Nat
  strangers : List Stranger
  deriving DecidableEq, Repr, Inhabited

/-! ## Wind and Gust Tracker (chapter 3) -/

/-- A present ring entry (R45). -/
structure Sample where
  speed : Nat
  direction : Nat
  deriving DecidableEq, Repr, Inhabited

/-- The round reading of a mast (R45): speed, direction as received, heater-fault flag. -/
structure MastReading where
  speed : Nat
  direction : Nat
  heater : Bool
  deriving DecidableEq, Repr, Inhabited

/-- The summary of a mast at the last round close (R54). -/
structure MastSummary where
  present : Nat
  available : Bool
  peak : Option Nat
  gustDir : Option Nat
  latestDir : Option Nat
  mean : Option Nat
  disagree : Nat
  doubtful : Bool
  effGust : Option Nat
  effLatest : Option Nat
  gusting : Bool
  heater : Bool
  counted : Option Nat
  deriving DecidableEq, Repr, Inhabited

/-- A mast record (R45). -/
structure Mast where
  slot : Nat
  reading : Option MastReading
  ring : List (Option Sample)
  acc : Option Nat
  disagree : Nat
  heater : Bool
  summary : MastSummary
  deriving DecidableEq, Repr, Inhabited

/-- The state of a gust record (R55). -/
inductive GustState where
  | opened
  | confirmed
  | closed
  deriving DecidableEq, Repr, Inhabited

/-- A gust record (R55). -/
structure Gust where
  id : Nat
  state : GustState
  openEpoch : Epoch
  openRound : Round
  origin : Nat
  direction : Nat
  peak : Nat
  members : List Nat
  lastActive : Round
  closedRound : Option Round
  merged : Bool
  deriving DecidableEq, Repr, Inhabited

/-- The site part of the summary (R54): the lead mast with its mean and latest direction, and the
number of available masts. -/
structure WindSite where
  lead : Option Nat
  leadMean : Option Nat
  leadDir : Option Nat
  available : Nat
  deriving DecidableEq, Repr, Inhabited

/-- The state of the Wind and Gust Tracker. -/
structure Wgt where
  masts : List Mast
  site : WindSite
  windBlind : Bool
  gusts : List Gust
  nextId : Nat
  lastClose : Option Round
  deriving DecidableEq, Repr, Inhabited

/-! ## Site and Pile Model (chapter 4) -/

/-- A held gauge reading with the round it was delivered in (R70). -/
structure GaugeReading where
  humidity : Nat
  rain : Bool
  heater : Bool
  round : Round
  deriving DecidableEq, Repr, Inhabited

/-- A gauge record (R70), with the age and currency formed at the last round close (R71). -/
structure Gauge where
  slot : Nat
  reading : Option GaugeReading
  age : Option Nat
  current : Bool
  deriving DecidableEq, Repr, Inhabited

/-- A monitor hold (R77), with the age and currency formed at the last round close (R78). -/
structure Monitor where
  slot : Nat
  value : Option (Nat × Round)
  heater : Bool
  rangeHigh : Bool
  goingQuiet : Bool
  age : Option Nat
  current : Bool
  deriving DecidableEq, Repr, Inhabited

/-- The dryness band (R72). -/
inductive Band where
  | wet
  | damp
  | dry
  | parched
  deriving DecidableEq, Repr, Inhabited

/-- The activity of a pile (R79). -/
inductive Activity where
  | idle
  | working
  | unknown
  deriving DecidableEq, Repr, Inhabited

/-- The advice for a pile (R79). -/
inductive Advice where
  | none
  | wetSoon
  | wetNow
  deriving DecidableEq, Repr, Inhabited

/-- The configured part of a pile (R79). -/
structure PileCfg where
  pile : Nat
  size : Nat
  assigned : Nat
  fallback : Option Nat
  deriving DecidableEq, Repr, Inhabited

/-- The values of a pile from the last assessment that gave it values (R79): u, u_t, e and E. -/
structure PileValues where
  u : Nat
  ut : Nat
  e : Nat
  emission : Nat
  deriving DecidableEq, Repr, Inhabited

/-- A configured entry of the pile table (R79). -/
structure Pile where
  cfg : PileCfg
  dryness : Nat
  sub : Nat
  activity : Activity
  wetting : Option (Epoch × Round)
  advice : Advice
  values : Option PileValues
  estimated : Bool
  deriving DecidableEq, Repr, Inhabited

/-- The state of the Site and Pile Model (R70 to R79). -/
structure Spm where
  gauges : List Gauge
  monitors : List Monitor
  gaugesAtClose : Nat
  lowestRh : Option Nat
  rain : Bool
  band : Band
  pendingBand : Option Band
  persistence : Nat
  noGauge : Nat
  piles : List Pile
  deriving DecidableEq, Repr, Inhabited

/-! ## Risk Engine (chapter 5) -/

/-- The configured part of a path (R90). -/
structure PathCfg where
  pile : Nat
  zone : Nat
  bearing : Nat
  halfWidth : Nat
  distance : Nat
  deriving DecidableEq, Repr, Inhabited

/-- The result part of a path (R90). -/
structure PathResult where
  angle : Nat
  weight : Nat
  share : Nat
  deriving DecidableEq, Repr, Inhabited

/-- An entry of the path table (R90). -/
structure Path where
  cfg : PathCfg
  result : Option PathResult
  deriving DecidableEq, Repr, Inhabited

/-- The result for one named monitor (R91): slot, and c_net and index while it is current. -/
structure MonitorResult where
  slot : Nat
  net : Option Nat
  index : Option Nat
  deriving DecidableEq, Repr, Inhabited

/-- A zone result record (R91). -/
structure ZoneResult where
  zone : Nat
  round : Option Round
  sum : Nat
  dominant : Option Nat
  gust : Option Nat
  modelled : Nat
  blindCount : Nat
  monitors : List MonitorResult
  measured : Nat
  blind : Bool
  noModel : Bool
  risk : Nat
  deriving DecidableEq, Repr, Inhabited

/-- Where the mast of a pile came from (R94). -/
inductive MastSource where
  | assigned
  | fallback
  | lead
  deriving DecidableEq, Repr, Inhabited

/-- Whether a pile's wind is the mean or a counted gust (R95). -/
inductive WindBasis where
  | mean
  | gust
  deriving DecidableEq, Repr, Inhabited

/-- The choices of the last assessment that formed a pile's values (R92). -/
structure WindChoice where
  mast : Nat
  source : MastSource
  basis : WindBasis
  direction : Nat
  gust : Option Nat
  deriving DecidableEq, Repr, Inhabited

/-- A pile wind record (R92). -/
structure PileWind where
  pile : Nat
  choice : Option WindChoice
  deriving DecidableEq, Repr, Inhabited

/-- The state of the Risk Engine. -/
structure Rke where
  paths : List Path
  zones : List ZoneResult
  winds : List PileWind
  deriving DecidableEq, Repr, Inhabited

/-! ## Zone Warning Controller (chapter 6) -/

/-- A warning level (chapter 6). -/
inductive Level where
  | clear
  | watch
  | warn
  | alert
  deriving DecidableEq, Repr, Inhabited

/-- The cause of a level change (R118). -/
inductive LevelCause where
  | risk
  | floorT
  | floorQ
  deriving DecidableEq, Repr, Inhabited

/-- The alert state (R114). -/
inductive AlertState where
  | none
  | unacked
  | acked
  deriving DecidableEq, Repr, Inhabited

/-- The service state (R114). -/
inductive Service where
  | inService
  | outOfService
  deriving DecidableEq, Repr, Inhabited

/-- The demand on a line (R129, R137): a sign line takes the first four, a siren line OFF or ON. -/
inductive Demand where
  | off
  | steady
  | slow
  | fast
  | on
  deriving DecidableEq, Repr, Inhabited

/-- The configured part of a zone (R113). -/
structure ZoneCfg where
  zone : Nat
  monitors : List Nat
  tWatch : Nat
  tWarn : Nat
  tAlert : Nat
  hy : Nat
  dgWatch : Nat
  dgWarn : Nat
  dgAlert : Nat
  dwell : Nat
  fm : Nat
  fd : Nat
  background : Nat
  deriving DecidableEq, Repr, Inhabited

/-- A floor: its level and its expiry time (R114). -/
structure Floor where
  level : Level
  expiry : Seconds
  deriving DecidableEq, Repr, Inhabited

/-- The components of the last delivery (R114). -/
structure LastDelivery where
  round : Round
  risk : Nat
  modelled : Nat
  measured : Nat
  dominant : Option Nat
  gust : Option Nat
  deriving DecidableEq, Repr, Inhabited

/-- A configured entry of the zone table: configured part and live part (R113, R114, R198). -/
structure Zone where
  cfg : ZoneCfg
  level : Level
  riseWatch : Nat
  riseWarn : Nat
  riseAlert : Nat
  dwell : Nat
  tFloor : Option Floor
  qFloor : Option Floor
  alert : AlertState
  silence : Option Seconds
  service : Service
  testEnd : Option Seconds
  blind : Bool
  noModel : Bool
  dark : Bool
  last : Option LastDelivery
  sign : Demand
  siren : Demand
  cause : Option LevelCause
  levelSeq : Option Seq
  deriving DecidableEq, Repr, Inhabited

/-- The state of the Zone Warning Controller. -/
structure Zwc where
  zones : List Zone
  deriving DecidableEq, Repr, Inhabited

/-! ## Output Driver Array (chapter 7) -/

/-- The state of a line (R137). -/
inductive LineState where
  | off
  | on
  | retryWait
  | latched
  deriving DecidableEq, Repr, Inhabited

/-- A line record (R137). -/
structure Line where
  line : Nat
  demand : Demand
  state : LineState
  retryEnd : Option Seconds
  short : Nat
  clean : Nat
  openFlag : Bool
  openMiss : Nat
  openPresent : Nat
  driveStart : Option Time
  deriving DecidableEq, Repr, Inhabited

/-- The state of the Output Driver Array (R137, R138): the lines, and how many phase changes of each
generator, line checks and clean-count steps have taken place since POWER.  A generator is in its
on-phase after an even number of changes. -/
structure Oda where
  lines : List Line
  slowChanges : Nat
  fastChanges : Nat
  checks : Nat
  cleanTicks : Nat
  deriving DecidableEq, Repr, Inhabited

/-! ## Configuration Agreement Unit (chapter 8) -/

/-- The site parameters (R152). -/
structure SiteParams where
  gThr : Nat
  gExc : Nat
  u0 : Nat
  span : Nat
  interval : Nat
  tDamp : Nat
  tParch : Nat
  hy : Nat
  attempts : Nat
  timeoutT : Nat
  timeoutQ : Nat
  deriving DecidableEq, Repr, Inhabited

/-- The key of an item (R153). -/
inductive ItemKey where
  | station (slot : Nat)
  | pile (pile : Nat)
  | zone (zone : Nat)
  | path (pile zone : Nat)
  | site
  deriving DecidableEq, Repr, Inhabited

/-- A configuration item that has passed its range checks (R153). -/
inductive Item where
  | station (cfg : StationCfg)
  | pile (cfg : PileCfg)
  | zone (cfg : ZoneCfg)
  | path (cfg : PathCfg)
  | site (params : SiteParams)
  | remove (target : ItemKey)
  deriving DecidableEq, Repr, Inhabited

/-- The state of the pending set (R154). -/
inductive SetState where
  | free
  | opened
  | proposed
  | accepted
  deriving DecidableEq, Repr, Inhabited

/-- The state of the Configuration Agreement Unit: the pending set (R154) and the site parameters in
force (R152). -/
structure Cau where
  items : List Item
  state : SetState
  owner : Option Port
  number : Nat
  idleExpiry : Option Seconds
  proposalExpiry : Option Seconds
  site : SiteParams
  deriving DecidableEq, Repr, Inhabited

/-! ## Notices (R177, chapters 1 to 8) -/

/-- The class of a notice (R177). -/
inductive NoticeClass where
  | urgent
  | routine
  deriving DecidableEq, Repr, Inhabited

/-- The events of a LEVEL notice (R131). -/
inductive LevelEvent where
  | level
  | dark
  | floor
  | alert
  | silence
  | service
  | test
  deriving DecidableEq, Repr, Inhabited

/-- A LEVEL notice (R131). -/
structure LevelNotice where
  event : LevelEvent
  zone : Nat
  round : Option Round
  oldLevel : Level
  newLevel : Level
  cause : Option LevelCause
  risk : Nat
  modelled : Nat
  measured : Nat
  dominant : Option Nat
  gust : Option Nat
  alert : AlertState
  tFloor : Option (Nat × Level)
  qFloor : Option (Nat × Level)
  silence : Option Nat
  service : Service
  testing : Bool
  blind : Bool
  dark : Bool
  noModel : Bool
  levelSeq : Option Seq
  deriving DecidableEq, Repr, Inhabited

/-- An ADVICE notice (R84). -/
structure AdviceNotice where
  pile : Nat
  advice : Advice
  before : Advice
  u : Nat
  ut : Nat
  e : Nat
  dryness : Nat
  activity : Activity
  estimated : Bool
  round : Round
  deriving DecidableEq, Repr, Inhabited

/-- The causes of a STATION notice (R41). -/
inductive StationCause where
  | admitted
  | lapsed
  | quiet
  | lost
  | returned
  | ackLoss
  | kindMismatch
  deriving DecidableEq, Repr, Inhabited

/-- A STATION notice (R41). -/
structure StationNotice where
  slot : Nat
  identity : Identity
  kind : Kind
  cause : StationCause
  live : LiveState
  missed : Nat
  code : Option Nat
  round : Round
  deriving DecidableEq, Repr, Inhabited

/-- A STRANGER notice (R38). -/
structure StrangerNotice where
  identity : Identity
  kind : Kind
  removed : Option Identity
  deriving DecidableEq, Repr, Inhabited

/-- A LOOP notice (R22). -/
structure LoopNotice where
  mode : LoopMode
  reasons : Reasons
  halt : Option HaltReason
  attempts : Nat
  round : Round
  breakA : Option Nat
  breakB : Option Nat
  deriving DecidableEq, Repr, Inhabited

/-- The reasons of a BAND notice (R76). -/
inductive BandReason where
  | rain
  | gauges
  | noGauge
  deriving DecidableEq, Repr, Inhabited

/-- A SITE notice (R50, R76, R180). -/
inductive SiteNotice where
  | windBlind (round : Round) (available : Nat)
  | windRestored (round : Round) (available : Nat) (lead : Option Nat)
  | band (old new : Band) (reason : BandReason) (lowest : Option Nat) (gauges : Nat) (round : Round)
  | gaugesLost (gauges : Nat) (band : Band) (round : Round)
  | gaugesRestored (gauges : Nat) (band : Band) (round : Round)
  | masterSilent (port : Port)
  | masterRestored (port : Port)
  deriving DecidableEq, Repr, Inhabited

/-- The events of a LINE notice (R148). -/
inductive LineEvent where
  | latched
  | latchCleared
  | opened
  | openCleared
  deriving DecidableEq, Repr, Inhabited

/-- A LINE notice (R148). -/
structure LineNotice where
  event : LineEvent
  line : Nat
  state : LineState
  openFlag : Bool
  short : Nat
  demand : Demand
  time : Seconds
  deriving DecidableEq, Repr, Inhabited

/-- The events of a GUST notice (R65). -/
inductive GustEvent where
  | opened
  | confirmed
  | merged
  | closed
  | removed
  deriving DecidableEq, Repr, Inhabited

/-- Why a gust record was removed (R65). -/
inductive RemoveReason where
  | room
  | aged
  deriving DecidableEq, Repr, Inhabited

/-- A GUST notice (R65). -/
structure GustNotice where
  event : GustEvent
  reason : Option RemoveReason
  round : Round
  id : Nat
  state : GustState
  origin : Nat
  direction : Nat
  peak : Nat
  members : Nat
  joined : Option Nat
  merged : Bool
  deriving DecidableEq, Repr, Inhabited

/-- Why an apply failed (R164). -/
inductive ApplyReason where
  | noTarget
  | zoneNotClear
  | orphanPath
  | stationInUse
  | dupIdentity
  | dupPosition
  | pileMast
  | zoneOrder
  | zoneMonitor
  | siteOrder
  | pathLimit
  | kindLimit
  deriving DecidableEq, Repr, Inhabited

/-- The origins of a CONFIG notice (R167). -/
inductive ConfigOrigin where
  | command
  | restart
  | silence
  | idle
  | proposal
  deriving DecidableEq, Repr, Inhabited

/-- The events of a CONFIG notice with their origin or extra fields (R167). -/
inductive ConfigEvent where
  | claimed
  | proposed
  | accepted
  | refused
  | discarded (origin : ConfigOrigin)
  | expired (origin : ConfigOrigin)
  | applied
  | applyFailed (reason : ApplyReason) (index : Nat)
  deriving DecidableEq, Repr, Inhabited

/-- A CONFIG notice (R167). -/
structure ConfigNotice where
  event : ConfigEvent
  number : Nat
  owner : Option Port
  items : Nat
  state : SetState
  round : Round
  time : Seconds
  deriving DecidableEq, Repr, Inhabited

/-- A notice (R179). -/
inductive Notice where
  | level (n : LevelNotice)
  | advice (n : AdviceNotice)
  | station (n : StationNotice)
  | stranger (n : StrangerNotice)
  | loop (n : LoopNotice)
  | site (n : SiteNotice)
  | line (n : LineNotice)
  | gust (n : GustNotice)
  | config (n : ConfigNotice)
  deriving DecidableEq, Repr, Inhabited

/-- A queued notice: class, arrival stamp and fields (R177). -/
structure Queued where
  cls : NoticeClass
  stamp : Nat
  notice : Notice
  deriving DecidableEq, Repr, Inhabited

/-! ## Port Interface (chapter 9) -/

/-- The receiver of a port: hunting, or inside a frame opened at a time. -/
inductive Receiver where
  | hunting
  | inside (since : Time)
  deriving DecidableEq, Repr, Inhabited

/-- A frame that the coordinator sends on a port: its content, whether it is the last frame of the
response that the executing command waits for, and whether it is a busy refusal (R172). -/
structure TxFrame where
  content : List Byte
  releases : Bool
  busy : Bool
  deriving DecidableEq, Repr, Inhabited

/-- The frame being sent, and the moment at which its last bit has gone out. -/
structure Sending where
  frame : TxFrame
  ends : Time
  deriving DecidableEq, Repr, Inhabited

/-- The state of a port (chapter 9, opening list; R176): the held commands are the contents of their
frames. -/
structure PortState where
  receiver : Receiver
  executing : Option (List Byte)
  waiting : Option (List Byte)
  responses : List TxFrame
  notices : List Queued
  nextStamp : Nat
  dropped : Bool
  sending : Option Sending
  deriving DecidableEq, Repr, Inhabited

/-- The state of a master (R180). -/
inductive MasterState where
  | heard
  | silent
  deriving DecidableEq, Repr, Inhabited

/-- A master-silence watchdog (R180). -/
structure Watchdog where
  timeout : Nat
  expiry : Option Seconds
  master : MasterState
  deriving DecidableEq, Repr, Inhabited

/-- The state of the Port Interface. -/
structure Pif where
  t : PortState
  q : PortState
  s : PortState
  watchT : Watchdog
  watchQ : Watchdog
  deriving DecidableEq, Repr, Inhabited

/-! ## Warning Record Log (chapter 10) -/

/-- The outcome of a zone test (R128). -/
inductive TestOutcome where
  | completed
  | aborted
  | removed
  deriving DecidableEq, Repr, Inhabited

/-- The actions of an ACTION entry with their subject and extra fields (R185). -/
inductive Action where
  | ack (zone : Nat)
  | silence (zone : Nat) (minutes : Nat) (byExpiry : Bool)
  | floorSet (zone : Nat) (level : Level) (minutes : Nat)
  | floorClear (zone : Nat) (level : Level) (byExpiry : Bool)
  | serviceOut (zone : Nat)
  | serviceIn (zone : Nat)
  | testStart (zone : Nat)
  | testEnd (zone : Nat) (outcome : TestOutcome)
  | lineClear (line : Nat)
  | masterSilent
  deriving DecidableEq, Repr, Inhabited

/-- The kind-specific part of a record entry (R185). -/
inductive EntryBody where
  | level (zone : Nat) (old new : Level) (cause : LevelCause) (risk modelled measured : Nat)
      (dominant gust : Option Nat)
  | action (action : Action) (source : Port)
  | config (number : Nat) (proposer : Option Port) (items : Nat)
  | powerUp
  | restart (port : Port)
  deriving DecidableEq, Repr, Inhabited

/-- A record entry (R184). -/
structure Entry where
  seq : Seq
  epoch : Epoch
  round : Round
  time : Seconds
  body : EntryBody
  deriving DecidableEq, Repr, Inhabited

/-- The state of the Warning Record Log (R184, R188): the entries, oldest first, the next sequence
number, the epoch, the S-port read point, and first lost while a gap is pending. -/
structure Wrl where
  entries : List Entry
  nextSeq : Seq
  epoch : Epoch
  readPoint : Seq
  gap : Option Seq
  deriving DecidableEq, Repr, Inhabited

/-! ## The whole coordinator -/

/-- The state of the GW-816: the time since POWER, the ten blocks, and the commands that wait. -/
structure State where
  now : Time
  flc : Flc
  srg : Srg
  wgt : Wgt
  spm : Spm
  rke : Rke
  zwc : Zwc
  oda : Oda
  cau : Cau
  pif : Pif
  wrl : Wrl
  pending : List Instr
  deriving DecidableEq, Repr

/-! ## State after POWER -/

/-- No copy counted (R12). -/
def Counts.zero : Counts := { valid := 0, syntaxErrors := 0, content := 0, boundary := 0 }

/-- The empty degraded reason set. -/
def Reasons.empty : Reasons := { ringOpen := false, noisyA := false, noisyB := false }

/-- The FLC after POWER (R24): LISTEN, with a listen period of 2 s started at time 0. -/
def Flc.afterPower : Flc :=
  { mode := .listen, listen := some (.listening 2000000), attempts := 3, reasons := .empty, halt := none,
    round := 0, progress := none, beacon := none, echoAB := false, echoBA := false, missAB := 0,
    missBA := 0, noisy := ⟨0, 0⟩, foreignHeard := false, foreignCount := 0, recovery := 0,
    running := ⟨.zero, .zero⟩, last := ⟨.zero, .zero⟩, taken := [], announced := [], announces := [],
    verdicts := [], breakA := none, breakB := none }

/-- The SRG after POWER (R44). -/
def Srg.afterPower : Srg := { stations := [], queue := [], revocations := [], strangers := [] }

/-- The wind site with no mast available (R67, R69). -/
def WindSite.blind : WindSite := { lead := none, leadMean := none, leadDir := none, available := 0 }

/-- The WGT after POWER (R69): wind-blind, without notice, next gust id 1. -/
def Wgt.afterPower : Wgt :=
  { masts := [], site := .blind, windBlind := true, gusts := [], nextId := 1, lastClose := none }

/-- The SPM after POWER (R88): band DRY. -/
def Spm.afterPower : Spm :=
  { gauges := [], monitors := [], gaugesAtClose := 0, lowestRh := none, rain := false, band := .dry,
    pendingBand := none, persistence := 0, noGauge := 0, piles := [] }

/-- The RKE after POWER (R112). -/
def Rke.afterPower : Rke := { paths := [], zones := [], winds := [] }

/-- The ZWC after POWER (R136). -/
def Zwc.afterPower : Zwc := { zones := [] }

/-- A line after POWER (R151). -/
def Line.afterPower (n : Nat) : Line :=
  { line := n, demand := .off, state := .off, retryEnd := none, short := 0, clean := 0,
    openFlag := false, openMiss := 0, openPresent := 0, driveStart := none }

/-- The ODA after POWER (R151): every line OFF, both generators in their on-phase. -/
def Oda.afterPower : Oda :=
  { lines := (List.range 32).map (fun i => Line.afterPower (i + 1)),
    slowChanges := 0, fastChanges := 0, checks := 0, cleanTicks := 0 }

/-- The site parameters after POWER (R152). -/
def SiteParams.afterPower : SiteParams :=
  { gThr := 150, gExc := 50, u0 := 120, span := 60, interval := 480, tDamp := 75, tParch := 35, hy := 5,
    attempts := 3, timeoutT := 60, timeoutQ := 60 }

/-- The CAU after POWER (R169): the pending set FREE, proposal number 0. -/
def Cau.afterPower : Cau :=
  { items := [], state := .free, owner := none, number := 0, idleExpiry := none,
    proposalExpiry := none, site := .afterPower }

/-- A port after POWER (R183). -/
def PortState.afterPower : PortState :=
  { receiver := .hunting, executing := none, waiting := none, responses := [], notices := [],
    nextStamp := 0, dropped := false, sending := none }

/-- A watchdog after POWER (R180, R183): HEARD, timeout 60 s, expiry 60 s after POWER. -/
def Watchdog.afterPower : Watchdog := { timeout := 60, expiry := some 60, master := .heard }

/-- The PIF after POWER (R183). -/
def Pif.afterPower : Pif :=
  { t := .afterPower, q := .afterPower, s := .afterPower, watchT := .afterPower, watchQ := .afterPower }

/-- The WRL after POWER (R187, R193): MARK POWER_UP as entry 1, the read point at it. -/
def Wrl.afterPower : Wrl :=
  { entries := [{ seq := 1, epoch := 0, round := 0, time := 0, body := .powerUp }], nextSeq := 2,
    epoch := 0, readPoint := 1, gap := none }

/-- The coordinator right after POWER (R24, R44, R69, R88, R112, R136, R151, R169, R183, R193), with
no command waiting. -/
def State.reset : State :=
  { now := 0, flc := .afterPower, srg := .afterPower, wgt := .afterPower, spm := .afterPower,
    rke := .afterPower, zwc := .afterPower, oda := .afterPower, cau := .afterPower,
    pif := .afterPower, wrl := .afterPower, pending := [] }

end Sys2Proof.Machine
end

