-- ==== Sys2Proof/Machine/Flags.lean ====
section
/-! DEFINITION. Angles, orders and derived conditions that several blocks read: levels and thresholds
(R113), the state of a line that a demand calls for (R139), fault state and engagement of a line (R137),
and the condition codes that use a reading (R34). -/

namespace Sys2Proof.Machine

/-- The smaller angle around the circle between two directions, 0 to 180 (section 7.3, R98). -/
def angleBetween (x y : Nat) : Nat :=
  let d := (x - y) + (y - x)
  if d > 180 then 360 - d else d

/-- Rounds counted forward from `old` to `new`, modulo 2^32 (R55, R71). -/
def roundsSince (old new : Round) : Nat := (new - old).toNat

/-- The order of the levels, CLEAR lowest (chapter 6). -/
def Level.rank : Level → Nat
  | .clear => 0
  | .watch => 1
  | .warn => 2
  | .alert => 3

/-- The higher of two levels. -/
def Level.higher (x y : Level) : Level := if x.rank < y.rank then y else x

/-- The level one step lower (R117). -/
def Level.below : Level → Level
  | .clear => .clear
  | .watch => .clear
  | .warn => .watch
  | .alert => .warn

/-- The threshold of a level; CLEAR has none (R113). -/
def ZoneCfg.threshold (c : ZoneCfg) : Level → Nat
  | .clear => 0
  | .watch => c.tWatch
  | .warn => c.tWarn
  | .alert => c.tAlert

/-- The fall limit of a level: its threshold less Hy (R113, R117). -/
def ZoneCfg.fallLimit (c : ZoneCfg) (l : Level) : Nat := c.threshold l - c.hy

/-- The level of a floor, CLEAR when it is absent (R114). -/
def floorLevel (f : Option Floor) : Level :=
  match f with
  | none => .clear
  | some f => f.level

/-- The highest floor of a zone (R114). -/
def Zone.highestFloor (z : Zone) : Level := (floorLevel z.tFloor).higher (floorLevel z.qFloor)

/-- Whether SLOW stands in its on-phase: after an even number of phase changes (R138). -/
def Oda.slowOn (o : Oda) : Bool := o.slowChanges % 2 == 0

/-- Whether FAST stands in its on-phase (R138). -/
def Oda.fastOn (o : Oda) : Bool := o.fastChanges % 2 == 0

/-- Whether a demand calls for driving at this moment (R139). -/
def Oda.calls (o : Oda) : Demand → Bool
  | .off => false
  | .steady => true
  | .on => true
  | .slow => o.slowOn
  | .fast => o.fastOn

/-- A line is in a fault state while it is LATCHED or its OPEN flag is set (R137). -/
def Line.inFault (l : Line) : Bool := l.state == .latched || l.openFlag

/-- A line is engaged while its demand is not OFF and its state is ON or OFF (R137). -/
def Line.engaged (l : Line) : Bool := l.demand != .off && (l.state == .on || l.state == .off)

/-- The condition codes with a name (R34). -/
def heaterFaultCode : Nat := 2
def rangeHighCode : Nat := 4
def goingQuietCode : Nat := 15

/-- The condition codes that use the reading (R34). -/
def codeUsesReading (code : Nat) : Bool := code == 0 || code == 2 || code == 4 || code == 15

/-- A station holds a grant (R25). -/
def Station.holdsGrant (x : Station) : Bool :=
  match x.live with
  | .warming => true
  | .active => true
  | .suspect => true
  | .quieting => true
  | .heard => x.grant.isSome
  | .silent => false
  | .lost => false
  | .returned => false

/-- Rounds run in RUNNING and in DEGRADED (R1). -/
def LoopMode.runs : LoopMode → Bool
  | .running => true
  | .degraded => true
  | .listen => false
  | .halted => false

end Sys2Proof.Machine
end

