-- ==== Sys2Proof/Machine/Frames.lean ====
section
/-! DEFINITION. Framing, stuffing and CRC (R194), the layouts of the loop frames (11.2, R195), and the
bytes of a beacon. -/

namespace Sys2Proof.Machine

/-- The flag byte (R194). -/
def flagByte : Byte := 0xC3#8

/-- The escape byte (R194). -/
def escapeByte : Byte := 0xC5#8

/-- Stuffing of content and CRC bytes (R194). -/
def stuff : List Byte → List Byte
  | [] => []
  | b :: rest =>
    if b = flagByte then escapeByte :: 0xD3#8 :: stuff rest
    else if b = escapeByte then escapeByte :: 0xD5#8 :: stuff rest
    else b :: stuff rest

/-- Removal of the stuffing; `none` for an invalid stuffing sequence (R194): an escape followed by any
byte other than 0xD3 or 0xD5, or an escape immediately before the closing flag. -/
def unstuff : List Byte → Option (List Byte)
  | [] => some []
  | [b] => if b = escapeByte then none else some [b]
  | b :: c :: rest =>
    if b = escapeByte then
      if c = 0xD3#8 then (unstuff rest).map (fun l => flagByte :: l)
      else if c = 0xD5#8 then (unstuff rest).map (fun l => escapeByte :: l)
      else none
    else (unstuff (c :: rest)).map (fun l => b :: l)

/-- One bit of the CRC with polynomial x^16 + x^12 + x^5 + 1 (R194). -/
def crcBit (c : BitVec 16) : BitVec 16 :=
  if c.msb then (c <<< 1) ^^^ 0x1021#16 else c <<< 1

/-- One byte of the CRC, most significant bit first (R194). -/
def crcByte (c : BitVec 16) (b : Byte) : BitVec 16 :=
  let x := c ^^^ (b.zeroExtend 16 <<< 8)
  crcBit (crcBit (crcBit (crcBit (crcBit (crcBit (crcBit (crcBit x)))))))

/-- The CRC of the content bytes: initial value 0xFFFF, no final inversion (R194). -/
def crc (content : List Byte) : BitVec 16 := content.foldl crcByte 0xFFFF#16

/-- The two CRC bytes, high byte first (R194). -/
def crcBytes (content : List Byte) : List Byte := bytes2 (crc content).toNat

/-- A whole frame as it stands on a line (R194): flag, stuffed content and CRC, flag. -/
def wireBytes (content : List Byte) : List Byte :=
  flagByte :: (stuff (content ++ crcBytes content) ++ [flagByte])

/-- The content of a frame from the bytes between its flags; `none` where the stuffing is invalid, the
frame is too short to hold a CRC, or the CRC fails (R194). -/
def deframe (bytes : List Byte) : Option (List Byte) :=
  match unstuff bytes with
  | none => none
  | some plain =>
    let n := plain.length - 2
    if plain.length < 2 then none
    else if plain.drop n = crcBytes (plain.take n) then some (plain.take n)
    else none

/-- The frame-kind codes of byte 0 of a loop frame (11.2). -/
def beaconCode : Byte := 0x01#8
def stationCode : Byte := 0x02#8
def announceCode : Byte := 0x03#8

/-- A loop frame that has passed the syntax checks.  A beacon keeps its content, because it is compared
byte for byte (R195); an announce keeps its declared-kind byte, because R10 judges it. -/
inductive LoopFrame where
  | beacon (content : List Byte)
  | station (frame : StationFrame)
  | announce (identity : Identity) (kindByte : Byte)
  deriving DecidableEq, Repr

/-- The station kind of a code (11.2.2, 11.5). -/
def kindOfCode (n : Nat) : Option Kind :=
  if n = 1 then some .mast else if n = 2 then some .dust else if n = 3 then some .gauge else none

/-- The identity carried in three bytes. -/
def identityOf (b2 b1 b0 : Byte) : Identity := BitVec.ofNat 24 (word24 b2 b1 b0)

/-- The layout of a BEACON (R195): mode byte, admission byte, counts of at most 2, length 7 + 4g + r. -/
def beaconLayout (content : List Byte) : Bool :=
  match content with
  | _ :: _ :: _ :: mode :: _ :: admission :: counts :: rest =>
    let g := counts.toNat / 16
    let r := counts.toNat % 16
    (mode == 0x01#8 || mode == 0x02#8) && (admission == 0x00#8 || admission == 0x01#8)
      && decide (g ≤ 2) && decide (r ≤ 2) && decide (rest.length = 4 * g + r)
  | _ => false

/-- The reading bytes of a station kind (11.2.2); `none` where the length is not that kind's. -/
def readingOf (kind : Kind) (bytes : List Byte) : Option Reading :=
  match kind, bytes with
  | .mast, [s1, s0, d1, d0] => some (.mast (word16 s1 s0) (word16 d1 d0))
  | .dust, [c1, c0] => some (.dust (word16 c1 c0))
  | .gauge, [h, r] => some (.gauge h.toNat (r != 0x00#8))
  | _, _ => none

/-- A STATION frame from the bytes after its frame kind (11.2.2, R195). -/
def stationFrameOf (bytes : List Byte) : Option LoopFrame :=
  match bytes with
  | i2 :: i1 :: i0 :: kc :: rest =>
    match kindOfCode (kc.toNat / 16) with
    | none => none
    | some kind =>
      (readingOf kind rest).map (fun reading =>
        .station { identity := identityOf i2 i1 i0, code := kc.toNat % 16, reading := reading })
  | _ => none

/-- An ANNOUNCE frame from the bytes after its frame kind (11.2.3, R195). -/
def announceFrameOf (bytes : List Byte) : Option LoopFrame :=
  match bytes with
  | [i2, i1, i0, k] => some (.announce (identityOf i2 i1 i0) k)
  | _ => none

/-- The layout check of R195 on a content that has passed its CRC; `none` is a syntax error of R7. -/
def loopFrameOf (content : List Byte) : Option LoopFrame :=
  match content with
  | [] => none
  | kind :: rest =>
    if kind = beaconCode then if beaconLayout content then some (.beacon content) else none
    else if kind = stationCode then stationFrameOf rest
    else if kind = announceCode then announceFrameOf rest
    else none

/-- The syntax checks of R7 on the bytes between the flags of a loop copy. -/
def parseLoopCopy (bytes : List Byte) : Option LoopFrame :=
  match deframe bytes with
  | none => none
  | some content => loopFrameOf content

/-- The kind that a reading belongs to. -/
def Reading.kind : Reading → Kind
  | .mast _ _ => .mast
  | .dust _ => .dust
  | .gauge _ _ => .gauge

/-- The loop mode byte (11.5). -/
def LoopMode.code : LoopMode → Nat
  | .listen => 0
  | .running => 1
  | .degraded => 2
  | .halted => 3

/-- A grant in a beacon: identity (3 bytes), then slot (11.2.1). -/
def grantBytes (g : Identity × Nat) : List Byte := bytes3 g.1.toNat ++ bytes1 g.2

/-- The content of a beacon frame (11.2.1). -/
def Beacon.content (b : Beacon) : List Byte :=
  [beaconCode] ++ bytes2 b.round.toNat ++ bytes1 b.mode.code ++ [b.epoch]
    ++ bytes1 (if b.openWindow then 1 else 0)
    ++ bytes1 (b.grants.length * 16 + b.revocations.length)
    ++ b.grants.flatMap grantBytes ++ b.revocations.flatMap (fun slot => bytes1 slot)

end Sys2Proof.Machine
end

