-- ==== Sys2Proof/Machine/Encode.lean ====
section
/-! DEFINITION. The encodings of section 11.5, the field encodings of R196, the notices as frame
contents (11.3) and the record entries (11.4).  Every field stands in the order in which the rule that
names it lists it (R196). -/

namespace Sys2Proof.Machine

/-! ## Field encodings (R196)

Which form an absent field takes, where R196 does not name it, is DESIGN CHOICE, log entry 39: a number
whose range excludes 0 is 0, an enumeration has a presence byte. -/

/-- A set or clear flag. -/
def encFlag (b : Bool) : List Byte := bytes1 (if b then 1 else 0)

/-- An optional field whose range excludes 0, in one byte: 0 when absent. Also for numbers that the list
of R196 does not name (DESIGN CHOICE, log entry 39). -/
def encOpt0 (o : Option Nat) : List Byte := bytes1 (o.getD 0)

/-- An optional field whose range excludes 0, in two bytes: 0 when absent. -/
def encOpt0Wide (o : Option Nat) : List Byte := bytes2 (o.getD 0)

/-- Any other optional field: a presence byte, then the field's bytes, all 0 when absent. Every
optional enumeration is written so, but for those to which 11.5 gives a code for none (DESIGN CHOICE, log
entry 39). -/
def encOpt (width : Nat) (o : Option (List Byte)) : List Byte :=
  match o with
  | some bytes => bytes1 1 ++ bytes
  | none => bytes1 0 ++ List.replicate width 0x00#8

/-- An optional one-byte number whose range holds 0. -/
def encOpt1 (o : Option Nat) : List Byte := encOpt 1 (o.map bytes1)

/-- An optional two-byte number whose range holds 0. -/
def encOpt2 (o : Option Nat) : List Byte := encOpt 2 (o.map bytes2)

/-- An optional round or sequence number, four bytes after the presence byte. -/
def encOpt4 (o : Option (BitVec 32)) : List Byte := encOpt 4 (o.map (fun r => bytes4 r.toNat))

/-! ## Codes (11.5) -/

def Level.code : Level → Nat
  | .clear => 0
  | .watch => 1
  | .warn => 2
  | .alert => 3

def LevelCause.code : LevelCause → Nat
  | .risk => 1
  | .floorT => 2
  | .floorQ => 3

def AlertState.code : AlertState → Nat
  | .none => 0
  | .unacked => 1
  | .acked => 2

def portCode : Port → Nat
  | .t => 1
  | .q => 2
  | .s => 3

/-- A port, role, owner or proposer: 0 when absent (11.5). -/
def encOwner (o : Option Port) : List Byte := bytes1 ((o.map portCode).getD 0)

/-- The degraded reason set, one bit per member from bit 0 (R196, 11.5). -/
def Reasons.code (r : Reasons) : Nat :=
  (if r.ringOpen then 1 else 0) + (if r.noisyA then 2 else 0) + (if r.noisyB then 4 else 0)

/-- The halt reason: 0 when absent (11.5). -/
def encHalt (h : Option HaltReason) : List Byte :=
  bytes1 (match h with
    | none => 0
    | some .foreignBeacon => 1)

def Kind.code : Kind → Nat
  | .mast => 1
  | .dust => 2
  | .gauge => 3

def LiveState.code : LiveState → Nat
  | .silent => 1
  | .heard => 2
  | .warming => 3
  | .active => 4
  | .suspect => 5
  | .quieting => 6
  | .lost => 7
  | .returned => 8

def StationCause.code : StationCause → Nat
  | .admitted => 1
  | .lapsed => 2
  | .quiet => 3
  | .lost => 4
  | .returned => 5
  | .ackLoss => 6
  | .kindMismatch => 7

def GustState.code : GustState → Nat
  | .opened => 1
  | .confirmed => 2
  | .closed => 3

def GustEvent.code : GustEvent → Nat
  | .opened => 1
  | .confirmed => 2
  | .merged => 3
  | .closed => 4
  | .removed => 5

def RemoveReason.code : RemoveReason → Nat
  | .room => 1
  | .aged => 2

def Band.code : Band → Nat
  | .wet => 1
  | .damp => 2
  | .dry => 3
  | .parched => 4

def Activity.code : Activity → Nat
  | .idle => 1
  | .working => 2
  | .unknown => 3

def Advice.code : Advice → Nat
  | .none => 0
  | .wetSoon => 1
  | .wetNow => 2

def MastSource.code : MastSource → Nat
  | .assigned => 1
  | .fallback => 2
  | .lead => 3

def WindBasis.code : WindBasis → Nat
  | .mean => 1
  | .gust => 2

def Service.code : Service → Nat
  | .inService => 1
  | .outOfService => 2

def Demand.code : Demand → Nat
  | .off => 0
  | .steady => 1
  | .slow => 2
  | .fast => 3
  | .on => 1

def LineState.code : LineState → Nat
  | .off => 0
  | .on => 1
  | .retryWait => 2
  | .latched => 3

def SetState.code : SetState → Nat
  | .free => 0
  | .opened => 1
  | .proposed => 2
  | .accepted => 3

def BandReason.code : BandReason → Nat
  | .rain => 1
  | .gauges => 2
  | .noGauge => 3

def ApplyReason.code : ApplyReason → Nat
  | .noTarget => 1
  | .zoneNotClear => 2
  | .orphanPath => 3
  | .stationInUse => 4
  | .dupIdentity => 5
  | .dupPosition => 6
  | .pileMast => 7
  | .zoneOrder => 8
  | .zoneMonitor => 9
  | .siteOrder => 10
  | .pathLimit => 11
  | .kindLimit => 12

/-- The LEVEL events, coded in the order of the table of R131. -/
def LevelEvent.code : LevelEvent → Nat
  | .level => 1
  | .dark => 2
  | .floor => 3
  | .alert => 4
  | .silence => 5
  | .service => 6
  | .test => 7

/-- The LINE events, coded in the order of the table of R148. -/
def LineEvent.code : LineEvent → Nat
  | .latched => 1
  | .latchCleared => 2
  | .opened => 3
  | .openCleared => 4

/-- The CONFIG origins, coded in the order in which the table of R167 lists them (DEDUCED, log entry 14). -/
def ConfigOrigin.code : ConfigOrigin → Nat
  | .command => 1
  | .restart => 2
  | .silence => 3
  | .idle => 4
  | .proposal => 5

/-- The CONFIG events, coded in the order of the table of R167. -/
def ConfigEvent.code : ConfigEvent → Nat
  | .claimed => 1
  | .proposed => 2
  | .accepted => 3
  | .refused => 4
  | .discarded _ => 5
  | .expired _ => 6
  | .applied => 7
  | .applyFailed _ _ => 8

def NoticeClass.code : NoticeClass → Nat
  | .urgent => 1
  | .routine => 2

/-! ## Notices (11.3) -/

/-- A line's zone: lines 2z-1 and 2z are those of zone z (section 4). -/
def zoneOfLine (line : Nat) : Nat := (line + 1) / 2

/-- The role of a line in a LINE notice: SIGN for an odd line, SIREN for an even one (R148, 11.5). -/
def lineRoleCode (line : Nat) : Nat := if line % 2 = 1 then 1 else 2

/-- A floor of a LEVEL notice: its remaining time and its level under one presence byte (DESIGN CHOICE, log
entry 39). -/
def encFloorLeft (f : Option (Nat × Level)) : List Byte :=
  encOpt 2 (f.map (fun p => bytes1 p.1 ++ bytes1 p.2.code))

/-- The fields of a LEVEL notice (R131); a cause that is absent has a presence byte (DESIGN CHOICE, log
entry 39). -/
def LevelNotice.fields (n : LevelNotice) : List Byte :=
  bytes1 n.event.code ++ bytes1 n.zone ++ encOpt4 n.round
    ++ bytes1 n.oldLevel.code ++ bytes1 n.newLevel.code
    ++ encOpt1 (n.cause.map LevelCause.code)
    ++ bytes2 n.risk ++ bytes2 n.modelled ++ bytes2 n.measured
    ++ encOpt0 n.dominant ++ encOpt0Wide n.gust ++ bytes1 n.alert.code
    ++ encFloorLeft n.tFloor ++ encFloorLeft n.qFloor ++ encOpt2 n.silence
    ++ bytes1 n.service.code ++ encFlag n.testing
    ++ encFlag n.blind ++ encFlag n.dark ++ encFlag n.noModel ++ encOpt4 n.levelSeq

/-- The fields of an ADVICE notice (R84). -/
def AdviceNotice.fields (n : AdviceNotice) : List Byte :=
  bytes1 n.pile ++ bytes1 n.advice.code ++ bytes1 n.before.code
    ++ bytes2 n.u ++ bytes2 n.ut ++ bytes2 n.e ++ bytes1 n.dryness ++ bytes1 n.activity.code
    ++ encFlag n.estimated ++ bytes4 n.round.toNat

/-- The fields of a STATION notice (R41). -/
def StationNotice.fields (n : StationNotice) : List Byte :=
  bytes1 n.slot ++ bytes3 n.identity.toNat ++ bytes1 n.kind.code ++ bytes1 n.cause.code
    ++ bytes1 n.live.code ++ bytes1 n.missed ++ encOpt1 n.code ++ bytes4 n.round.toNat

/-- The fields of a STRANGER notice (R38); a removed identity that is absent is 0 (DESIGN CHOICE, log
entry 39). -/
def StrangerNotice.fields (n : StrangerNotice) : List Byte :=
  bytes3 n.identity.toNat ++ bytes1 n.kind.code ++ bytes3 ((n.removed.map BitVec.toNat).getD 0)

/-- The fields of a LOOP notice (R22). -/
def LoopNotice.fields (n : LoopNotice) : List Byte :=
  bytes1 n.mode.code ++ bytes1 n.reasons.code ++ encHalt n.halt ++ bytes1 n.attempts
    ++ bytes4 n.round.toNat ++ encOpt0 n.breakA ++ encOpt0 n.breakB

/-- The cause of a SITE notice and its fields (R50, R76, R180); the cause leads. -/
def SiteNotice.fields : SiteNotice → List Byte
  | .windBlind round available => bytes1 1 ++ bytes4 round.toNat ++ bytes1 available ++ encOpt0 none
  | .windRestored round available lead =>
    bytes1 2 ++ bytes4 round.toNat ++ bytes1 available ++ encOpt0 lead
  | .band old new reason lowest gauges round =>
    bytes1 3 ++ bytes1 old.code ++ bytes1 new.code ++ bytes1 reason.code ++ encOpt1 lowest
      ++ bytes1 gauges ++ bytes4 round.toNat
  | .gaugesLost gauges b round =>
    bytes1 4 ++ bytes1 gauges ++ bytes1 b.code ++ bytes4 round.toNat
  | .gaugesRestored gauges b round =>
    bytes1 5 ++ bytes1 gauges ++ bytes1 b.code ++ bytes4 round.toNat
  | .masterSilent port => bytes1 6 ++ bytes1 (portCode port)
  | .masterRestored port => bytes1 7 ++ bytes1 (portCode port)

/-- The fields of a LINE notice (R148). -/
def LineNotice.fields (n : LineNotice) : List Byte :=
  bytes1 n.event.code ++ bytes1 n.line ++ bytes1 (zoneOfLine n.line) ++ bytes1 (lineRoleCode n.line)
    ++ bytes1 n.state.code ++ encFlag n.openFlag ++ bytes1 n.short ++ bytes1 n.demand.code
    ++ bytes4 n.time

/-- The fields of a GUST notice (R65); a reason that is absent has a presence byte (DESIGN CHOICE, log
entry 39). -/
def GustNotice.fields (n : GustNotice) : List Byte :=
  bytes1 n.event.code ++ encOpt1 (n.reason.map RemoveReason.code) ++ bytes4 n.round.toNat
    ++ bytes2 n.id ++ bytes1 n.state.code ++ bytes1 n.origin ++ bytes2 n.direction ++ bytes2 n.peak
    ++ bytes1 n.members ++ encOpt0 n.joined ++ encFlag n.merged

/-- The origin of a CONFIG event, where it has one. -/
def ConfigEvent.origin : ConfigEvent → Option ConfigOrigin
  | .discarded o => some o
  | .expired o => some o
  | .claimed => none
  | .proposed => none
  | .accepted => none
  | .refused => none
  | .applied => none
  | .applyFailed _ _ => none

/-- The reason and the failing item's index of a CONFIG event, where it has them. -/
def ConfigEvent.failure : ConfigEvent → Option (ApplyReason × Nat)
  | .applyFailed r i => some (r, i)
  | .discarded _ => none
  | .expired _ => none
  | .claimed => none
  | .proposed => none
  | .accepted => none
  | .refused => none
  | .applied => none

/-- The fields of a CONFIG notice (R167); an absent origin or reason has a presence byte, an absent index is 0
(DESIGN CHOICE, log entry 39). -/
def ConfigNotice.fields (n : ConfigNotice) : List Byte :=
  bytes1 n.event.code ++ encOpt1 (n.event.origin.map ConfigOrigin.code)
    ++ encOpt1 (n.event.failure.map (fun p => p.1.code))
    ++ encOpt0 (n.event.failure.map (fun p => p.2))
    ++ bytes1 n.number ++ encOwner n.owner ++ bytes1 n.items ++ bytes1 n.state.code
    ++ bytes4 n.round.toNat ++ bytes4 n.time

/-- The notice code (11.5). -/
def Notice.code : Notice → Nat
  | .level _ => 0x41
  | .advice _ => 0x42
  | .station _ => 0x43
  | .stranger _ => 0x44
  | .loop _ => 0x45
  | .site _ => 0x46
  | .line _ => 0x47
  | .gust _ => 0x48
  | .config _ => 0x49

/-- The fields of a notice. -/
def Notice.fields : Notice → List Byte
  | .level n => n.fields
  | .advice n => n.fields
  | .station n => n.fields
  | .stranger n => n.fields
  | .loop n => n.fields
  | .site n => n.fields
  | .line n => n.fields
  | .gust n => n.fields
  | .config n => n.fields

/-- A notice frame's content (11.3): notice code, tag 0, class, fields. -/
def noticeContent (cls : NoticeClass) (n : Notice) : List Byte :=
  bytes1 n.code ++ [0x00#8] ++ bytes1 cls.code ++ n.fields

/-! ## Record entries (11.4, R197) -/

def TestOutcome.code : TestOutcome → Nat
  | .completed => 1
  | .aborted => 2
  | .removed => 3

/-- The origin codes of a SILENCE or FLOOR_CLEAR entry (R197): 1 COMMAND, 2 EXPIRY. -/
def originCode (byExpiry : Bool) : Nat := if byExpiry then 2 else 1

/-- The bytes of an ACTION entry after its kind (11.4): action, zone, line, source port, level, minutes,
detail. -/
def actionBytes (source : Port) : Action → List Byte
  | .ack z => bytes1 1 ++ bytes1 z ++ bytes1 0 ++ bytes1 (portCode source) ++ bytes1 0 ++ bytes1 0 ++ bytes1 0
  | .silence z minutes byExpiry =>
    bytes1 2 ++ bytes1 z ++ bytes1 0 ++ bytes1 (portCode source) ++ bytes1 0 ++ bytes1 minutes
      ++ bytes1 (if minutes = 0 then originCode byExpiry else 0)
  | .floorSet z level minutes =>
    bytes1 3 ++ bytes1 z ++ bytes1 0 ++ bytes1 (portCode source) ++ bytes1 level.code ++ bytes1 minutes ++ bytes1 0
  | .floorClear z level byExpiry =>
    bytes1 4 ++ bytes1 z ++ bytes1 0 ++ bytes1 (portCode source) ++ bytes1 level.code ++ bytes1 0
      ++ bytes1 (originCode byExpiry)
  | .serviceOut z => bytes1 5 ++ bytes1 z ++ bytes1 0 ++ bytes1 (portCode source) ++ bytes1 0 ++ bytes1 0 ++ bytes1 0
  | .serviceIn z => bytes1 6 ++ bytes1 z ++ bytes1 0 ++ bytes1 (portCode source) ++ bytes1 0 ++ bytes1 0 ++ bytes1 0
  | .testStart z => bytes1 7 ++ bytes1 z ++ bytes1 0 ++ bytes1 (portCode source) ++ bytes1 0 ++ bytes1 0 ++ bytes1 0
  | .testEnd z outcome =>
    bytes1 8 ++ bytes1 z ++ bytes1 0 ++ bytes1 (portCode source) ++ bytes1 0 ++ bytes1 0 ++ bytes1 outcome.code
  | .lineClear l => bytes1 9 ++ bytes1 0 ++ bytes1 l ++ bytes1 (portCode source) ++ bytes1 0 ++ bytes1 0 ++ bytes1 0
  | .masterSilent => bytes1 10 ++ bytes1 0 ++ bytes1 0 ++ bytes1 (portCode source) ++ bytes1 0 ++ bytes1 0 ++ bytes1 0

/-- The kind byte of an entry and the bytes of its kind-specific part (11.4). -/
def EntryBody.bytes : EntryBody → List Byte
  | .level z old new cause risk modelled measured dominant gust =>
    bytes1 1 ++ bytes1 z ++ bytes1 old.code ++ bytes1 new.code ++ bytes1 cause.code
      ++ bytes2 risk ++ bytes2 modelled ++ bytes2 measured ++ encOpt0 dominant ++ encOpt0Wide gust
  | .action what source => bytes1 2 ++ actionBytes source what
  | .config number proposer items => bytes1 3 ++ bytes1 number ++ encOwner proposer ++ bytes1 items
  | .powerUp => bytes1 4 ++ bytes1 1 ++ bytes1 0
  | .restart port => bytes1 4 ++ bytes1 2 ++ bytes1 (portCode port)

/-- A whole record entry (11.4): common part, then kind-specific part. -/
def Entry.bytes (e : Entry) : List Byte :=
  bytes4 e.seq.toNat ++ [e.epoch] ++ bytes4 e.round.toNat ++ bytes4 e.time ++ e.body.bytes

end Sys2Proof.Machine
end

