-- ==== Sys2Proof/Machine/Ops.lean ====
section
/-! DEFINITION. The operations that the blocks share: the clock, keyed tables, the warning record
(R186, R188), the notice queues and the transmit arbiter (R176 to R179), and responses (R174). -/

namespace Sys2Proof.Machine

/-! ## The clock (section 3.2) -/

/-- The site clock: whole seconds since POWER. -/
def State.seconds (s : State) : Seconds := s.now / 1000000

/-- The moment of a site-clock tick. -/
def tickTime (n : Seconds) : Time := n * 1000000

/-- The state at a moment no earlier than `t`: a timed event takes place when its time has come, so
taking it brings the clock to that time (log entry 2). -/
def State.reach (t : Time) (s : State) : State := { s with now := max s.now t }

/-! ## Keyed tables -/

/-- The entry with key `k`. -/
def findKey {α : Type} (key : α → Nat) (k : Nat) : List α → Option α
  | [] => none
  | a :: rest => if key a = k then some a else findKey key k rest

/-- Every entry with key `k` changed by `f`. -/
def updateKey {α : Type} (key : α → Nat) (k : Nat) (f : α → α) : List α → List α
  | [] => []
  | a :: rest => (if key a = k then f a else a) :: updateKey key k f rest

/-- The table without the entries with key `k`. -/
def removeKey {α : Type} (key : α → Nat) (k : Nat) : List α → List α
  | [] => []
  | a :: rest => if key a = k then removeKey key k rest else a :: removeKey key k rest

/-- `a` put at its place in ascending key order, in place of an entry with the same key. -/
def insertKey {α : Type} (key : α → Nat) (a : α) : List α → List α
  | [] => [a]
  | b :: rest =>
    if key a < key b then a :: b :: rest
    else if key a = key b then a :: rest
    else b :: insertKey key a rest

/-- A slot number appended to a list that holds no duplicates (R26, R29). -/
def appendNew (n : Nat) (l : List Nat) : List Nat := if n ∈ l then l else l ++ [n]

/-- A count increased by one that stops at a limit. -/
def countTo (limit n : Nat) : Nat := min limit (n + 1)

/-! ## Tables of the state -/

/-- The station configured in a slot. -/
def State.station (s : State) (slot : Nat) : Option Station :=
  findKey (fun x => x.cfg.slot) slot s.srg.stations

/-- The station of a slot changed. -/
def State.updStation (slot : Nat) (f : Station → Station) (s : State) : State :=
  { s with srg.stations := updateKey (fun x => x.cfg.slot) slot f s.srg.stations }

/-- The mast record of a slot. -/
def State.mast (s : State) (slot : Nat) : Option Mast := findKey (fun m => m.slot) slot s.wgt.masts

/-- The mast record of a slot changed. -/
def State.updMast (slot : Nat) (f : Mast → Mast) (s : State) : State :=
  { s with wgt.masts := updateKey (fun m => m.slot) slot f s.wgt.masts }

/-- A configured pile. -/
def State.pile (s : State) (n : Nat) : Option Pile := findKey (fun p => p.cfg.pile) n s.spm.piles

/-- A pile changed. -/
def State.updPile (n : Nat) (f : Pile → Pile) (s : State) : State :=
  { s with spm.piles := updateKey (fun p => p.cfg.pile) n f s.spm.piles }

/-- A configured zone. -/
def State.zone (s : State) (n : Nat) : Option Zone := findKey (fun z => z.cfg.zone) n s.zwc.zones

/-- A zone changed. -/
def State.updZone (n : Nat) (f : Zone → Zone) (s : State) : State :=
  { s with zwc.zones := updateKey (fun z => z.cfg.zone) n f s.zwc.zones }

/-- The record of a line. -/
def State.line (s : State) (n : Nat) : Option Line := findKey (fun l => l.line) n s.oda.lines

/-- A line changed. -/
def State.updLine (n : Nat) (f : Line → Line) (s : State) : State :=
  { s with oda.lines := updateKey (fun l => l.line) n f s.oda.lines }

/-- The zone result record of a zone. -/
def State.zoneResult (s : State) (n : Nat) : Option ZoneResult :=
  findKey (fun r => r.zone) n s.rke.zones

/-- A zone result record changed. -/
def State.updZoneResult (n : Nat) (f : ZoneResult → ZoneResult) (s : State) : State :=
  { s with rke.zones := updateKey (fun r => r.zone) n f s.rke.zones }

/-- The value for a side. -/
def Sides.get {α : Type} (x : Sides α) : Side → α
  | .a => x.a
  | .b => x.b

/-- The value for a side changed. -/
def Sides.upd {α : Type} (f : α → α) (x : Sides α) : Side → Sides α
  | .a => { x with a := f x.a }
  | .b => { x with b := f x.b }

/-- The state of a port. -/
def Pif.port (p : Pif) : Port → PortState
  | .t => p.t
  | .q => p.q
  | .s => p.s

/-- The state of a port changed. -/
def Pif.updPort (f : PortState → PortState) (p : Pif) : Port → Pif
  | .t => { p with t := f p.t }
  | .q => { p with q := f p.q }
  | .s => { p with s := f p.s }

/-- A port of the coordinator changed. -/
def State.updPort (port : Port) (f : PortState → PortState) (s : State) : State :=
  { s with pif := s.pif.updPort f port }

/-! ## The warning record (R186, R188) -/

/-- The effect of an overwrite of the entry with sequence number `lost` on the read point and the gap
(R188). -/
def Wrl.overwritten (lost : Seq) (w : Wrl) : Wrl :=
  if w.readPoint = lost then
    { w with
      readPoint := lost + 1
      gap := match w.gap with
        | some first => some first
        | none => some lost }
  else w

/-- An entry appended as the newest; a record of 256 entries loses its oldest (R186, R188). -/
def Wrl.append (e : Entry) (w : Wrl) : Wrl :=
  match w.entries with
  | [] => { w with entries := [e], nextSeq := w.nextSeq + 1 }
  | oldest :: rest =>
    if 256 ≤ w.entries.length then
      { w.overwritten oldest.seq with entries := rest ++ [e], nextSeq := w.nextSeq + 1 }
    else { w with entries := w.entries ++ [e], nextSeq := w.nextSeq + 1 }

/-- A write to the record (R186): stamped with the next sequence number, the epoch, the FLC's round
number and the site clock.  The number handed back to the writer is `s.wrl.nextSeq` before. -/
def State.record (body : EntryBody) (s : State) : State :=
  { s with
    wrl := s.wrl.append
      { seq := s.wrl.nextSeq, epoch := s.wrl.epoch, round := s.flc.round, time := s.seconds, body := body } }

/-! ## The transmit arbiter (R176) -/

/-- How long a frame occupies a port's transmitter, in microseconds: ten bits for every byte on the
line, flags and stuffing included, at 115,200 baud (R170, R194). -/
def txTime (content : List Byte) : Time := (wireBytes content).length * 10 * 1000000 / 115200

/-- A frame begins transmission. -/
def PortState.send (now : Time) (f : TxFrame) (p : PortState) : PortState :=
  { p with sending := some { frame := f, ends := now + txTime f.content } }

/-- The arbiter's choice while the transmitter is idle (R176): the oldest response frame, else the
notice at the head of the queue, else nothing. -/
def PortState.arbitrate (now : Time) (p : PortState) : PortState :=
  match p.sending with
  | some _ => p
  | none =>
    match p.responses with
    | f :: rest => { p with responses := rest }.send now f
    | [] =>
      match p.notices with
      | x :: rest =>
        { p with notices := rest }.send now
          { content := noticeContent x.cls x.notice, releases := false, busy := false }
      | [] => p

/-! ## Notices (R177 to R179) -/

/-- The subject of a notice of a coalesced kind: LEVEL by zone, ADVICE by pile, STATION by slot (R177). -/
def Notice.subject : Notice → Option (Nat × Nat)
  | .level n => some (1, n.zone)
  | .advice n => some (2, n.pile)
  | .station n => some (3, n.slot)
  | .stranger _ => none
  | .loop _ => none
  | .site _ => none
  | .line _ => none
  | .gust _ => none
  | .config _ => none

/-- The ports that a notice reaches (R179, R180). -/
def Notice.routed (n : Notice) (port : Port) : Bool :=
  match n with
  | .level _ => true
  | .advice _ => port == .t
  | .station _ => port != .s
  | .stranger _ => port != .s
  | .loop _ => port != .s
  | .site (.masterSilent p) => port != p
  | .site (.masterRestored p) => port != p
  | .site _ => port != .s
  | .line _ => port == .q
  | .gust _ => port != .q
  | .config _ => port != .s

/-- Whether `x` stands ahead of `y`: URGENT ahead of ROUTINE, within a class by arrival stamp (R177). -/
def Queued.ahead (x y : Queued) : Bool :=
  match x.cls, y.cls with
  | .urgent, .routine => true
  | .routine, .urgent => false
  | .urgent, .urgent => decide (x.stamp < y.stamp)
  | .routine, .routine => decide (x.stamp < y.stamp)

/-- A notice put at its place in a queue (R177). -/
def insertQueued (x : Queued) : List Queued → List Queued
  | [] => [x]
  | y :: rest => if x.ahead y then x :: y :: rest else y :: insertQueued x rest

/-- The queue without its oldest ROUTINE notice. -/
def dropRoutine : List Queued → List Queued
  | [] => []
  | x :: rest => if x.cls = .routine then rest else x :: dropRoutine rest

/-- The queue after a displacement (R178): the oldest ROUTINE notice is dropped, or the oldest URGENT
notice where there is no ROUTINE one. -/
def displace (l : List Queued) : List Queued :=
  if l.any (fun x => x.cls == .routine) then dropRoutine l else l.drop 1

/-- The queued notice of the same subject. -/
def queuedSame (n : Notice) (l : List Queued) : Option Queued :=
  match n.subject with
  | none => none
  | some k => l.find? (fun x => x.notice.subject == some k)

/-- A notice arrives at a port's queue (R177, R178): it replaces the queued notice of its subject, with
that notice's stamp, or is queued with a new stamp, after a displacement when the queue is full. -/
def PortState.queueNotice (cls : NoticeClass) (n : Notice) (p : PortState) : PortState :=
  match queuedSame n p.notices with
  | some old =>
    { p with
      notices := insertQueued { cls := cls, stamp := old.stamp, notice := n }
        (p.notices.filter (fun x => x.notice.subject != n.subject)) }
  | none =>
    let full := decide (32 ≤ p.notices.length)
    { p with
      notices := insertQueued { cls := cls, stamp := p.nextStamp, notice := n }
        (if full then displace p.notices else p.notices)
      nextStamp := p.nextStamp + 1
      dropped := p.dropped || full }

/-- A copy of a notice for one port, where its routing names the port; an idle transmitter takes the
head of the queue at once (R176). -/
def PortState.notify (now : Time) (cls : NoticeClass) (n : Notice) (port : Port) (p : PortState) :
    PortState :=
  if n.routed port then (p.queueNotice cls n).arbitrate now else p

/-- A block raises a notice (R177, R179). -/
def State.raise (cls : NoticeClass) (n : Notice) (s : State) : State :=
  { s with
    pif := { s.pif with
      t := s.pif.t.notify s.now cls n .t
      q := s.pif.q.notify s.now cls n .q
      s := s.pif.s.notify s.now cls n .s } }

/-! ## Responses (R174, R175) -/

/-- The results of a response (R175). -/
inductive Result where
  | done
  | accepted
  | refusedRole
  | refusedBusy
  | refusedRange
  | refusedState
  | refusedFull
  | unknownItem
  | tooLate
  | malformed
  deriving DecidableEq, Repr, Inhabited

/-- The result codes (11.5). -/
def Result.code : Result → Nat
  | .done => 0
  | .accepted => 1
  | .refusedRole => 2
  | .refusedBusy => 3
  | .refusedRange => 4
  | .refusedState => 5
  | .refusedFull => 6
  | .unknownItem => 7
  | .tooLate => 8
  | .malformed => 9

/-- The command that is answered: its port, its code and tag as received, and whether it is the port's
executing command, so that its last frame releases the port's holding (R172). -/
structure Asked where
  port : Port
  code : Byte
  tag : Byte
  releases : Bool
  deriving DecidableEq, Repr, Inhabited

/-- The units of a list (R174): the count byte goes with the first entry; an empty list is its count
byte alone. -/
def listUnits (entries : List (List Byte)) : List (List Byte) :=
  match entries with
  | [] => [bytes1 0]
  | e :: rest => (bytes1 entries.length ++ e) :: rest

/-- Units cut into segments of at most 68 data bytes, a segment holding whole units (R174). -/
def packUnits : List (List Byte) → List Byte → List (List Byte)
  | [], cur => [cur]
  | u :: rest, cur =>
    if cur.length + u.length ≤ 68 then packUnits rest (cur ++ u)
    else cur :: packUnits rest u

/-- The frames of a response from its segments' data, numbered from `n`; the last one is marked (11.3). -/
def responseFrames (a : Asked) (r : Result) : Nat → List (List Byte) → List TxFrame
  | _, [] => []
  | n, [data] =>
    [{ content := [a.code, a.tag] ++ bytes1 r.code ++ bytes1 (128 + n) ++ data,
       releases := a.releases, busy := false }]
  | n, data :: rest =>
    { content := [a.code, a.tag] ++ bytes1 r.code ++ bytes1 n ++ data, releases := false, busy := false }
      :: responseFrames a r (n + 1) rest

/-- Frames put into a port's response queue together; an idle transmitter takes the first (R174, R176). -/
def PortState.queueFrames (now : Time) (frames : List TxFrame) (p : PortState) : PortState :=
  { p with responses := p.responses ++ frames }.arbitrate now

/-- A response with its data already cut into segments. -/
def State.replySegments (a : Asked) (r : Result) (segments : List (List Byte)) (s : State) : State :=
  s.updPort a.port (fun p => p.queueFrames s.now (responseFrames a r 1 segments))

/-- A response from its units (R174). -/
def State.reply (a : Asked) (r : Result) (units : List (List Byte)) (s : State) : State :=
  s.replySegments a r (packUnits units [])

/-- REFUSED_RANGE naming the offending field by its byte index within the parameters (11.5). -/
def State.replyRange (a : Asked) (index : Nat) (s : State) : State :=
  s.reply a .refusedRange [bytes1 index]

end Sys2Proof.Machine
end

