-- ==== Sys2Proof/Machine/Lines.lean ====
section
/-! DEFINITION. How a line follows its demand (R139). -/

namespace Sys2Proof.Machine

/-- A line in state OFF or ON takes the state that its demand calls for (R139); RETRY_WAIT and LATCHED
do not follow. -/
def Line.follow (o : Oda) (now : Time) (l : Line) : Line :=
  match l.state with
  | .off =>
    if o.calls l.demand then { l with state := .on, driveStart := some now }
    else { l with driveStart := none }
  | .on =>
    if o.calls l.demand then l else { l with state := .off, driveStart := none }
  | .retryWait => l
  | .latched => l

/-- The ZWC hands a demand over (R139): it is recorded, and at a change of demand the line follows. -/
def Line.setDemand (o : Oda) (now : Time) (d : Demand) (l : Line) : Line :=
  if l.demand = d then l else Line.follow o now { l with demand := d }

/-- A demand handed to a line. -/
def State.demandLine (n : Nat) (d : Demand) (s : State) : State :=
  s.updLine n (fun l => l.setDemand s.oda s.now d)

/-- Whether a line is in a fault state (R137). -/
def State.lineFaulty (n : Nat) (s : State) : Bool :=
  match s.line n with
  | some l => l.inFault
  | none => false

end Sys2Proof.Machine
end

