-- ==== Sys2Proof/Machine/Operands.lean ====
section
/-! DEFINITION. The commands of the masters and their parameters (11.3, R175, R196): the format of
each command, the roles that may issue it, the keys, and the range checks of a staged item (R153). -/

namespace Sys2Proof.Machine

/-- A command whose format has been judged good (R173 step 1, R196); values are not judged yet. -/
inductive Command where
  | status
  | readZone (zone : Byte)
  | readPile
  | readStations
  | readStrangers
  | readGusts
  | readPaths
  | readConfigItem (source kind key1 key2 : Byte)
  | readLoop
  | reportWetting (pile : Byte)
  | reportActivity (pile activity : Byte)
  | floor (zone level : Byte) (minutes : BitVec 16)
  | ackAlert (zone : Byte)
  | silence (zone : Byte) (minutes : BitVec 16)
  | service (zone state : Byte)
  | test (zone : Byte)
  | clearLine (line : Byte)
  | ackLoss (slot : Byte)
  | stage (item : List Byte)
  | discard
  | propose
  | accept (number : Byte)
  | refuse (number : Byte)
  | restart
  | readLogNext
  | readLogAt (seq : BitVec 32)
  deriving DecidableEq, Repr

/-- The command codes (11.3). -/
def Command.code : Command → Byte
  | .status => 0x01#8
  | .readZone _ => 0x02#8
  | .readPile => 0x03#8
  | .readStations => 0x04#8
  | .readStrangers => 0x05#8
  | .readGusts => 0x06#8
  | .readPaths => 0x07#8
  | .readConfigItem _ _ _ _ => 0x08#8
  | .readLoop => 0x09#8
  | .reportWetting _ => 0x10#8
  | .reportActivity _ _ => 0x11#8
  | .floor _ _ _ => 0x12#8
  | .ackAlert _ => 0x13#8
  | .silence _ _ => 0x14#8
  | .service _ _ => 0x15#8
  | .test _ => 0x16#8
  | .clearLine _ => 0x17#8
  | .ackLoss _ => 0x18#8
  | .stage _ => 0x20#8
  | .discard => 0x21#8
  | .propose => 0x22#8
  | .accept _ => 0x23#8
  | .refuse _ => 0x24#8
  | .restart => 0x25#8
  | .readLogNext => 0x30#8
  | .readLogAt _ => 0x31#8

/-- The parameter bytes of a command (11.3). -/
def Command.params : Command → List Byte
  | .status => []
  | .readZone zone => [zone]
  | .readPile => []
  | .readStations => []
  | .readStrangers => []
  | .readGusts => []
  | .readPaths => []
  | .readConfigItem source kind key1 key2 => [source, kind, key1, key2]
  | .readLoop => []
  | .reportWetting pile => [pile]
  | .reportActivity pile activity => [pile, activity]
  | .floor zone level minutes => [zone, level] ++ bytes2 minutes.toNat
  | .ackAlert zone => [zone]
  | .silence zone minutes => [zone] ++ bytes2 minutes.toNat
  | .service zone state => [zone, state]
  | .test zone => [zone]
  | .clearLine line => [line]
  | .ackLoss slot => [slot]
  | .stage item => item
  | .discard => []
  | .propose => []
  | .accept number => [number]
  | .refuse number => [number]
  | .restart => []
  | .readLogNext => []
  | .readLogAt seq => bytes4 seq.toNat

/-- The content of the command's frame (11.3): code, tag, parameters. -/
def Command.content (tag : Byte) (c : Command) : List Byte := c.code :: tag :: c.params

/-- The roles that may issue a command (R175).  FLOOR from T passes here at every level; its limit
belongs to the ZWC. -/
def Command.allowed (c : Command) (port : Port) : Bool :=
  match c with
  | .status => true
  | .readZone _ => true
  | .readPile => true
  | .readStations => true
  | .readStrangers => true
  | .readGusts => true
  | .readPaths => true
  | .readConfigItem _ _ _ _ => true
  | .readLoop => true
  | .reportWetting _ => port == .t
  | .reportActivity _ _ => port == .t
  | .floor _ _ _ => port != .s
  | .ackAlert _ => port == .q
  | .silence _ _ => port == .q
  | .service _ _ => port == .q
  | .test _ => port == .q
  | .clearLine _ => port == .q
  | .ackLoss _ => port != .s
  | .stage _ => port != .s
  | .discard => port != .s
  | .propose => port != .s
  | .accept _ => port != .s
  | .refuse _ => port != .s
  | .restart => port != .s
  | .readLogNext => port == .s
  | .readLogAt _ => true

/-- The length of an item by its kind byte (11.3); `none` for a byte outside 0x01 to 0x06. -/
def itemLength (kind : Byte) : Option Nat :=
  if kind = 0x01#8 then some 7
  else if kind = 0x02#8 then some 5
  else if kind = 0x03#8 then some 23
  else if kind = 0x04#8 then some 8
  else if kind = 0x05#8 then some 18
  else if kind = 0x06#8 then some 4
  else none

/-- The format of a STAGE (R196): a known item kind, and the length of that kind. -/
def itemFormat (item : List Byte) : Bool :=
  match item with
  | [] => false
  | kind :: _ =>
    match itemLength kind with
    | none => false
    | some n => decide (item.length = n)

/-- The commands without parameters. -/
def parse0 (code : Byte) : Option Command :=
  if code = 0x01#8 then some .status
  else if code = 0x03#8 then some .readPile
  else if code = 0x04#8 then some .readStations
  else if code = 0x05#8 then some .readStrangers
  else if code = 0x06#8 then some .readGusts
  else if code = 0x07#8 then some .readPaths
  else if code = 0x09#8 then some .readLoop
  else if code = 0x21#8 then some .discard
  else if code = 0x22#8 then some .propose
  else if code = 0x25#8 then some .restart
  else if code = 0x30#8 then some .readLogNext
  else none

/-- The commands with one parameter byte. -/
def parse1 (code x : Byte) : Option Command :=
  if code = 0x02#8 then some (.readZone x)
  else if code = 0x10#8 then some (.reportWetting x)
  else if code = 0x13#8 then some (.ackAlert x)
  else if code = 0x16#8 then some (.test x)
  else if code = 0x17#8 then some (.clearLine x)
  else if code = 0x18#8 then some (.ackLoss x)
  else if code = 0x23#8 then some (.accept x)
  else if code = 0x24#8 then some (.refuse x)
  else none

/-- The commands with two parameter bytes. -/
def parse2 (code x y : Byte) : Option Command :=
  if code = 0x11#8 then some (.reportActivity x y)
  else if code = 0x15#8 then some (.service x y)
  else none

/-- The commands with three parameter bytes. -/
def parse3 (code x y z : Byte) : Option Command :=
  if code = 0x14#8 then some (.silence x (BitVec.ofNat 16 (word16 y z))) else none

/-- The commands with four parameter bytes. -/
def parse4 (code x y z w : Byte) : Option Command :=
  if code = 0x08#8 then some (.readConfigItem x y z w)
  else if code = 0x12#8 then some (.floor x y (BitVec.ofNat 16 (word16 z w)))
  else if code = 0x31#8 then
    some (.readLogAt (BitVec.ofNat 32 (word16 x y * 65536 + word16 z w)))
  else none

/-- The format of a command (R173 step 1, R196): a code of the table with the number of parameter bytes
that the code requires. -/
def parseCommand (code : Byte) (params : List Byte) : Option Command :=
  if code = 0x20#8 then (if itemFormat params then some (.stage params) else none)
  else
    match params with
    | [] => parse0 code
    | [x] => parse1 code x
    | [x, y] => parse2 code x y
    | [x, y, z] => parse3 code x y z
    | [x, y, z, w] => parse4 code x y z w
    | _ => none

/-! ## Values of parameters -/

/-- The level of a code (11.5). -/
def levelOfCode (n : Nat) : Option Level :=
  if n = 0 then some .clear else if n = 1 then some .watch
  else if n = 2 then some .warn else if n = 3 then some .alert else none

/-- The activity that a master may report (R82, 11.3). -/
def reportedActivity (n : Nat) : Option Activity :=
  if n = 1 then some .idle else if n = 2 then some .working else none

/-- The service state of a code (11.3). -/
def serviceOfCode (n : Nat) : Option Service :=
  if n = 1 then some .inService else if n = 2 then some .outOfService else none

/-- The station kind of an item byte (11.3). -/
def itemKindOf (n : Nat) : Option Kind :=
  if n = 1 then some .mast else if n = 2 then some .dust else if n = 3 then some .gauge else none

/-- A number in a range. -/
def inRange (lo hi n : Nat) : Bool := decide (lo ≤ n ∧ n ≤ hi)

/-- A key from its item-kind code and its two bytes, within the ranges of R153 (11.3).  A second byte
other than 0 where section 11.3 gives 0 is out of range (DESIGN CHOICE, log entry 36). -/
def keyOf (kind : Nat) (key1 key2 : Nat) : Option ItemKey :=
  if kind = 1 then (if inRange 1 48 key1 && key2 == 0 then some (.station key1) else none)
  else if kind = 2 then (if inRange 1 24 key1 && key2 == 0 then some (.pile key1) else none)
  else if kind = 3 then (if inRange 1 16 key1 && key2 == 0 then some (.zone key1) else none)
  else if kind = 4 then (if inRange 1 24 key1 && inRange 1 16 key2 then some (.path key1 key2) else none)
  else if kind = 5 then (if key1 == 0 && key2 == 0 then some .site else none)
  else none

/-- The byte index of the first field that fails its check (R153, 11.5). -/
def firstBad : List (Nat × Bool) → Option Nat
  | [] => none
  | (index, good) :: rest => if good then firstBad rest else some index

/-- An item, or the byte index of the first field out of its range. -/
inductive ItemCheck where
  | good (item : Item)
  | bad (index : Nat)
  deriving DecidableEq, Repr

/-- The item, if every check passes. -/
def checkedItem (checks : List (Nat × Bool)) (item : Item) : ItemCheck :=
  match firstBad checks with
  | some index => .bad index
  | none => .good item

/-- A slot, or none for 0. -/
def optionalSlot (n : Nat) : Option Nat := if n = 0 then none else some n

/-- The monitors of a ZONE item (11.3): 0 means not named. -/
def monitorsOf (m1 m2 : Nat) : List Nat :=
  (if m1 = 0 then [] else [m1]) ++ (if m2 = 0 then [] else [m2])

/-- The monitors field of a ZONE item is within its range (R153, R196). -/
def monitorsGood (m1 m2 : Nat) : Bool :=
  decide (m1 ≤ 48) && decide (m2 ≤ 48) && !(m1 == 0 && m2 != 0) && !(m1 != 0 && m1 == m2)

/-- STATION (R153). -/
def stationItem (slot i2 i1 i0 kind ring : Byte) : ItemCheck :=
  checkedItem
    [(1, inRange 1 48 slot.toNat), (2, decide (word24 i2 i1 i0 ≠ 0)),
     (5, (itemKindOf kind.toNat).isSome), (6, inRange 1 48 ring.toNat)]
    (.station { slot := slot.toNat, identity := BitVec.ofNat 24 (word24 i2 i1 i0),
                kind := (itemKindOf kind.toNat).getD .mast, ring := ring.toNat })

/-- PILE (R153). -/
def pileItem (pile size assigned fallback : Byte) : ItemCheck :=
  checkedItem
    [(1, inRange 1 24 pile.toNat), (2, inRange 1 64 size.toNat), (3, inRange 1 48 assigned.toNat),
     (4, inRange 0 48 fallback.toNat)]
    (.pile { pile := pile.toNat, size := size.toNat, assigned := assigned.toNat,
             fallback := optionalSlot fallback.toNat })

/-- ZONE (R153). -/
def zoneItem (c : ZoneCfg) (m1 m2 : Nat) : ItemCheck :=
  checkedItem
    [(1, inRange 1 16 c.zone), (2, monitorsGood m1 m2), (4, inRange 1 1000 c.tWatch),
     (6, inRange 1 1000 c.tWarn), (8, inRange 1 1000 c.tAlert), (10, inRange 0 200 c.hy),
     (11, inRange 1 16 c.dgWatch), (12, inRange 1 16 c.dgWarn), (13, inRange 1 16 c.dgAlert),
     (14, inRange 40 2400 c.dwell), (16, inRange 1000 16000000 c.fm), (19, inRange 50 5000 c.fd),
     (21, inRange 0 500 c.background)]
    (.zone c)

/-- PATH (R153). -/
def pathItem (c : PathCfg) : ItemCheck :=
  checkedItem
    [(1, inRange 1 24 c.pile), (2, inRange 1 16 c.zone), (3, inRange 0 359 c.bearing),
     (5, inRange 5 60 c.halfWidth), (6, inRange 100 6000 c.distance)]
    (.path c)

/-- SITE (R152, R153). -/
def siteItem (p : SiteParams) : ItemCheck :=
  checkedItem
    [(1, inRange 80 400 p.gThr), (3, inRange 20 200 p.gExc), (4, inRange 60 300 p.u0),
     (6, inRange 0 270 p.span), (8, inRange 40 4800 p.interval), (10, inRange 50 95 p.tDamp),
     (11, inRange 10 60 p.tParch), (12, inRange 0 10 p.hy), (13, inRange 1 7 p.attempts),
     (14, inRange 10 600 p.timeoutT), (16, inRange 10 600 p.timeoutQ)]
    (.site p)

/-- REMOVE (R153): the target kind is STATION, PILE, ZONE or PATH. -/
def removeItem (target key1 key2 : Nat) : ItemCheck :=
  checkedItem
    [(1, inRange 1 4 target), (2, (keyOf target key1 key2).isSome)]
    (.remove ((keyOf target key1 key2).getD .site))

/-- The range check of a staged item (R153, layouts of 11.3).  The format has been judged before, so
the last case is never met. -/
def checkItem (item : List Byte) : ItemCheck :=
  match item with
  | [_, slot, i2, i1, i0, kind, ring] => stationItem slot i2 i1 i0 kind ring
  | [_, pile, size, assigned, fallback] => pileItem pile size assigned fallback
  | [_, zone, m1, m2, w1, w0, n1, n0, a1, a0, hy, dw, dn, da, f1, f0, m, mm, mmm, d1, d0, b1, b0] =>
    zoneItem
      { zone := zone.toNat, monitors := monitorsOf m1.toNat m2.toNat, tWatch := word16 w1 w0,
        tWarn := word16 n1 n0, tAlert := word16 a1 a0, hy := hy.toNat, dgWatch := dw.toNat,
        dgWarn := dn.toNat, dgAlert := da.toNat, dwell := word16 f1 f0, fm := word24 m mm mmm,
        fd := word16 d1 d0, background := word16 b1 b0 }
      m1.toNat m2.toNat
  | [_, pile, zone, b1, b0, h, l1, l0] =>
    pathItem { pile := pile.toNat, zone := zone.toNat, bearing := word16 b1 b0, halfWidth := h.toNat,
               distance := word16 l1 l0 }
  | [_, g1, g0, x, u1, u0, s1, s0, i1, i0, td, tp, hy, att, t1, t0, q1, q0] =>
    siteItem
      { gThr := word16 g1 g0, gExc := x.toNat, u0 := word16 u1 u0, span := word16 s1 s0,
        interval := word16 i1 i0, tDamp := td.toNat, tParch := tp.toNat, hy := hy.toNat,
        attempts := att.toNat, timeoutT := word16 t1 t0, timeoutQ := word16 q1 q0 }
  | [_, target, key1, key2] => removeItem target.toNat key1.toNat key2.toNat
  | _ => .bad 0

/-- The key of an item; a REMOVE has the key of its target (R153). -/
def Item.key : Item → ItemKey
  | .station c => .station c.slot
  | .pile c => .pile c.pile
  | .zone c => .zone c.zone
  | .path c => .path c.pile c.zone
  | .site _ => .site
  | .remove target => target

end Sys2Proof.Machine
end

