-- ==== Sys2Proof/Machine/Zones.lean ====
section
/-! DEFINITION. The Zone Warning Controller (chapter 6): level changes, output demand, DARK, deliveries,
floors, expiries, and the commands on a zone. -/

namespace Sys2Proof.Machine

/-! ## Notices (R131) -/

/-- The remaining minutes of a floor that has `left` seconds to run (R131): exact for whole minutes,
otherwise one of the two neighbours, as Config.minutesRoundUp says. -/
def minutesLeft (left : Nat) : Nat :=
  if left % 60 = 0 then left / 60
  else if Config.minutesRoundUp left then left / 60 + 1
  else left / 60

/-- The remaining minutes of a floor with its level, or absent. -/
def floorLeft (clock : Seconds) (f : Option Floor) : Option (Nat × Level) :=
  f.map (fun f => (minutesLeft (f.expiry - clock), f.level))

/-- The whole warning state of a zone, as a LEVEL notice carries it (R131). -/
def Zone.notice (clock : Seconds) (event : LevelEvent) (old new : Level) (z : Zone) : LevelNotice :=
  { event := event
    zone := z.cfg.zone
    round := z.last.map (fun d => d.round)
    oldLevel := old
    newLevel := new
    cause := z.cause
    risk := (z.last.map (fun d => d.risk)).getD 0
    modelled := (z.last.map (fun d => d.modelled)).getD 0
    measured := (z.last.map (fun d => d.measured)).getD 0
    dominant := z.last.bind (fun d => d.dominant)
    gust := z.last.bind (fun d => d.gust)
    alert := z.alert
    tFloor := floorLeft clock z.tFloor
    qFloor := floorLeft clock z.qFloor
    silence := z.silence.map (fun e => e - clock)
    service := z.service
    testing := z.testEnd.isSome
    blind := z.blind
    dark := z.dark
    noModel := z.noModel
    levelSeq := z.levelSeq }

/-- A LEVEL notice for an event other than a level change: old and new level are equal (R131). -/
def State.raiseZone (cls : NoticeClass) (event : LevelEvent) (n : Nat) (s : State) : State :=
  match s.zone n with
  | none => s
  | some z => s.raise cls (.level (z.notice s.seconds event z.level z.level))

/-! ## Output demand (R129) -/

/-- The sign demand: the first row that applies (R129). -/
def Zone.signDemand (z : Zone) : Demand :=
  if z.testEnd.isSome then .fast
  else
    match z.service with
    | .outOfService => .off
    | .inService =>
      match z.level with
      | .clear => .off
      | .watch => .steady
      | .warn => .slow
      | .alert => .fast

/-- The siren demand (R129). -/
def Zone.sirenDemand (z : Zone) : Demand :=
  if z.testEnd.isSome then .on
  else if z.level = .alert ∧ z.alert = .unacked ∧ z.silence = none ∧ z.service = .inService then .on
  else .off

/-- The output demand of a zone derived anew and handed to the ODA (R129). -/
def State.deriveDemand (n : Nat) (s : State) : State :=
  match s.zone n with
  | none => s
  | some z =>
    ((s.updZone n (fun z => { z with sign := z.signDemand, siren := z.sirenDemand })).demandLine
      (2 * n - 1) z.signDemand).demandLine (2 * n) z.sirenDemand

/-! ## DARK (R130) -/

/-- Both lines of a zone are in a fault state. -/
def State.bothFaulty (n : Nat) (s : State) : Bool := s.lineFaulty (2 * n - 1) && s.lineFaulty (2 * n)

/-- The ZWC judges DARK (R130). -/
def State.judgeDark (n : Nat) (s : State) : State :=
  match s.zone n with
  | none => s
  | some z =>
    match z.dark, s.bothFaulty n with
    | false, true => (s.updZone n (fun z => { z with dark := true })).raiseZone .urgent .dark n
    | true, false => (s.updZone n (fun z => { z with dark := false })).raiseZone .routine .dark n
    | false, false => s
    | true, true => s

/-- A fault report of a line (R147): the ZWC takes it as an event of the zone that owns the line. -/
def State.faultReport (line : Nat) (s : State) : State := s.judgeDark (zoneOfLine line)

/-! ## Level changes (R118, R123) -/

/-- The alert state after a change of level (R123). -/
def alertAfter (old new : Level) (a : AlertState) : AlertState :=
  if new = .alert ∧ old ≠ .alert then .unacked
  else if old = .alert ∧ new ≠ .alert then .none
  else a

/-- A running test is aborted by a level of WARN or ALERT (R118 step 3, R128). -/
def State.abortTest (n : Nat) (new : Level) (s : State) : State :=
  match s.zone n with
  | none => s
  | some z =>
    if z.testEnd.isSome ∧ Level.warn.rank ≤ new.rank then
      (s.updZone n (fun z => { z with testEnd := none })).record (.action (.testEnd n .aborted) .q)
    else s

/-- The class of the LEVEL notice of a level change (R131). -/
def levelClass (old new : Level) : NoticeClass :=
  if old.rank < new.rank ∧ Level.warn.rank ≤ new.rank then .urgent else .routine

/-- The LEVEL entry of a level change (R118): R and its components are those of the last delivery, or 0,
none and absent where there has been none. -/
def Zone.levelEntry (z : Zone) (new : Level) (cause : LevelCause) : EntryBody :=
  .level z.cfg.zone z.level new cause
    ((z.last.map (fun d => d.risk)).getD 0) ((z.last.map (fun d => d.modelled)).getD 0)
    ((z.last.map (fun d => d.measured)).getD 0) (z.last.bind (fun d => d.dominant))
    (z.last.bind (fun d => d.gust))

/-- A zone at a new level, with its history (R118 steps 1 and 2, R123, R198). -/
def Zone.atLevel (new : Level) (cause : LevelCause) (seq : Seq) (z : Zone) : Zone :=
  { z with
    level := new
    alert := alertAfter z.level new z.alert
    cause := some cause
    levelSeq := some seq }

/-- A change of a zone's level with its consequences in their order (R118): record, alert state, test,
notice. -/
def State.changeLevel (n : Nat) (new : Level) (cause : LevelCause) (s : State) : State :=
  match s.zone n with
  | none => s
  | some z =>
    let s1 := ((s.record (z.levelEntry new cause)).updZone n (Zone.atLevel new cause s.wrl.nextSeq)).abortTest
      n new
    match s1.zone n with
    | none => s1
    | some z1 => s1.raise (levelClass z.level new) (.level (z1.notice s1.seconds .level z.level new))

/-! ## Deliveries (R107, R115 to R117, R120) -/

/-- A risk delivery (R107). -/
structure Delivery where
  zone : Nat
  round : Round
  risk : Nat
  modelled : Nat
  measured : Nat
  dominant : Option Nat
  gust : Option Nat
  blind : Bool
  noModel : Bool
  deriving DecidableEq, Repr, Inhabited

/-- Step 1 of a delivery (R115). -/
def Zone.takeComponents (d : Delivery) (z : Zone) : Zone :=
  { z with
    last := some { round := d.round, risk := d.risk, modelled := d.modelled, measured := d.measured,
                   dominant := d.dominant, gust := d.gust }
    blind := d.blind
    noModel := d.noModel }

/-- The rise counter of a level above the current one after a delivery of risk `r` (R116); the counters
of the other levels are not updated. -/
def riseCount (current l : Level) (threshold r count : Nat) : Nat :=
  if current.rank < l.rank then (if threshold ≤ r then countTo 16 count else 0) else count

/-- The rise counters after a delivery of risk `r` (R116). -/
def Zone.countRise (r : Nat) (z : Zone) : Zone :=
  { z with
    riseWatch := riseCount z.level .watch z.cfg.tWatch r z.riseWatch
    riseWarn := riseCount z.level .warn z.cfg.tWarn r z.riseWarn
    riseAlert := riseCount z.level .alert z.cfg.tAlert r z.riseAlert }

/-- The highest level above the current one whose counter has reached its deglitch count (R116). -/
def Zone.riseTo (z : Zone) : Option Level :=
  if z.level.rank < Level.alert.rank ∧ z.cfg.dgAlert ≤ z.riseAlert then some .alert
  else if z.level.rank < Level.warn.rank ∧ z.cfg.dgWarn ≤ z.riseWarn then some .warn
  else if z.level.rank < Level.watch.rank ∧ z.cfg.dgWatch ≤ z.riseWatch then some .watch
  else none

/-- All three rise counters and the dwell counter return to 0. -/
def Zone.zeroCounters (z : Zone) : Zone :=
  { z with riseWatch := 0, riseWarn := 0, riseAlert := 0, dwell := 0 }

/-- The dwell counter after a delivery of risk `r` that raises nothing (R117). -/
def Zone.dwellAfter (r : Nat) (z : Zone) : Nat :=
  match z.level with
  | .clear => 0
  | .watch => if r < z.cfg.fallLimit .watch then z.dwell + 1 else 0
  | .warn => if r < z.cfg.fallLimit .warn then z.dwell + 1 else 0
  | .alert => if r < z.cfg.fallLimit .alert then z.dwell + 1 else 0

/-- Whether a fall is decided at a delivery of risk `r` (R117). -/
def Zone.fallDecided (r : Nat) (z : Zone) : Bool :=
  z.level != .clear && decide (z.cfg.dwell ≤ z.dwellAfter r)

/-- Steps 2 to 4 of a delivery for a zone that has taken the components and counted its rise: a rise, a
fall held by the floors (R120), or neither. -/
def State.decideLevel (n : Nat) (r : Nat) (s : State) : State :=
  match s.zone n with
  | none => s
  | some z =>
    match z.riseTo with
    | some l => (s.updZone n Zone.zeroCounters).changeLevel n l .risk
    | none =>
      if z.fallDecided r then
        let s1 := s.updZone n (fun z => { z with dwell := 0 })
        if z.highestFloor.rank ≤ z.level.below.rank then s1.changeLevel n z.level.below .risk else s1
      else s.updZone n (fun z => { z with dwell := z.dwellAfter r })

/-- A risk delivery, one event of its zone (R115). -/
def State.deliverRisk (d : Delivery) (s : State) : State :=
  let s1 := s.updZone d.zone (fun z => (z.takeComponents d).countRise d.risk)
  (s1.decideLevel d.zone d.risk).deriveDemand d.zone

/-! ## Floors (R121, R122) -/

/-- The floor of a role (R114). -/
def Zone.floorOf (z : Zone) : Port → Option Floor
  | .t => z.tFloor
  | .q => z.qFloor
  | .s => none

/-- The floor of a role set or removed. -/
def Zone.setFloor (role : Port) (f : Option Floor) (z : Zone) : Zone :=
  match role with
  | .t => { z with tFloor := f }
  | .q => { z with qFloor := f }
  | .s => z

/-- The cause of a rise by a role's floor (R118). -/
def floorCause : Port → LevelCause
  | .t => .floorT
  | .q => .floorQ
  | .s => .floorQ

/-- The end of a floor by expiry or command (R122). -/
def State.endFloor (n : Nat) (role : Port) (byExpiry : Bool) (s : State) : State :=
  match s.zone n with
  | none => s
  | some z =>
    match z.floorOf role with
    | none => s
    | some f =>
      ((s.updZone n (fun z => { z.setFloor role none with dwell := 0 })).record
        (.action (.floorClear n f.level byExpiry) role)).raiseZone .routine .floor n

/-- A floor set or replaced (R121), with the rise to it or the FLOOR notice. -/
def State.setFloor (n : Nat) (role : Port) (l : Level) (minutes : Nat) (s : State) : State :=
  match s.zone n with
  | none => s
  | some z =>
    let s1 := (s.updZone n (Zone.setFloor role (some { level := l, expiry := s.seconds + minutes * 60 }))).record
      (.action (.floorSet n l minutes) role)
    let s2 :=
      if z.level.rank < l.rank then
        (s1.updZone n Zone.zeroCounters).changeLevel n l (floorCause role)
      else if l.rank < (floorLevel (z.floorOf role)).rank then
        (s1.updZone n (fun z => { z with dwell := 0 })).raiseZone .routine .floor n
      else s1.raiseZone .routine .floor n
    s2.deriveDemand n

/-- The minutes of a floor in force: at least 1, at most 240 (R121). -/
def floorMinutes (minutes : Nat) : Nat := min 240 (max 1 minutes)

/-- A zone number within 1 to 16 (R119). -/
def zoneInRange (zone : Byte) : Bool := decide (1 ≤ zone.toNat ∧ zone.toNat ≤ 16)

/-- FLOOR (R121). -/
def floorCommand (zone level : Byte) (minutes : BitVec 16) (a : Asked) (s : State) : State :=
  if zoneInRange zone then
    match levelOfCode level.toNat with
    | none => s.replyRange a 1
    | some l =>
      if a.port = .t ∧ l = .alert then s.reply a .refusedRole []
      else
        match s.zone zone.toNat with
        | none => s.reply a .unknownItem []
        | some _ =>
          if l = .clear then (s.endFloor zone.toNat a.port false).reply a .done []
          else
            (s.setFloor zone.toNat a.port l (floorMinutes minutes.toNat)).reply a .done
              [bytes1 (floorMinutes minutes.toNat)]
  else s.replyRange a 0

/-- A floor reaches its expiry time (R122). -/
def State.expireFloor (n : Nat) (role : Port) (s : State) : State :=
  match s.zone n with
  | none => s
  | some z =>
    match z.floorOf role with
    | none => s
    | some f => (s.reach (tickTime f.expiry)).endFloor n role true

/-! ## Acknowledgement, silence, service, test (R124 to R128) -/

/-- ACK ALERT (R124). -/
def ackAlertCommand (zone : Byte) (a : Asked) (s : State) : State :=
  if zoneInRange zone then
    match s.zone zone.toNat with
    | none => s.reply a .unknownItem []
    | some z =>
      if z.level = .alert ∧ z.alert = .unacked then
        ((((s.updZone zone.toNat (fun z => { z with alert := .acked })).record
          (.action (.ack zone.toNat) .q)).raiseZone .routine .alert zone.toNat).deriveDemand
            zone.toNat).reply a .done []
      else s.reply a .refusedState []
  else s.replyRange a 0

/-- A silence set, cleared or expired: the entry, the notice and the demand (R125). -/
def State.putSilence (n : Nat) (until_ : Option Seconds) (minutes : Nat) (byExpiry : Bool) (s : State) :
    State :=
  (((s.updZone n (fun z => { z with silence := until_ })).record
    (.action (.silence n minutes byExpiry) .q)).raiseZone .routine .silence n).deriveDemand n

/-- The minutes of a silence in force: at most 30 (R125). -/
def silenceMinutes (minutes : Nat) : Nat := min 30 minutes

/-- SILENCE (R125). -/
def silenceCommand (zone : Byte) (minutes : BitVec 16) (a : Asked) (s : State) : State :=
  if zoneInRange zone then
    match s.zone zone.toNat with
    | none => s.reply a .unknownItem []
    | some _ =>
      let m := silenceMinutes minutes.toNat
      (s.putSilence zone.toNat (if m = 0 then none else some (s.seconds + m * 60)) m false).reply a .done
        [bytes1 m]
  else s.replyRange a 0

/-- A silence reaches its expiry (R125). -/
def State.expireSilence (n : Nat) (s : State) : State :=
  match s.zone n with
  | none => s
  | some z =>
    match z.silence with
    | none => s
    | some e => (s.reach (tickTime e)).putSilence n none 0 true

/-- The service state changed (R126). -/
def State.putService (n : Nat) (v : Service) (s : State) : State :=
  (((s.updZone n (fun z => { z with service := v })).record
    (.action (match v with
      | .outOfService => .serviceOut n
      | .inService => .serviceIn n) .q)).raiseZone .routine .service n).deriveDemand n

/-- SERVICE (R126). -/
def serviceCommand (zone state : Byte) (a : Asked) (s : State) : State :=
  if zoneInRange zone then
    match serviceOfCode state.toNat with
    | none => s.replyRange a 1
    | some v =>
      match s.zone zone.toNat with
      | none => s.reply a .unknownItem []
      | some z =>
        if z.service = v then s.reply a .done []
        else (s.putService zone.toNat v).reply a .done []
  else s.replyRange a 0

/-- TEST (R127). -/
def testCommand (zone : Byte) (a : Asked) (s : State) : State :=
  if zoneInRange zone then
    match s.zone zone.toNat with
    | none => s.reply a .unknownItem []
    | some z =>
      if z.level.rank ≤ Level.watch.rank ∧ z.testEnd = none then
        ((((s.updZone zone.toNat (fun z => { z with testEnd := some (s.seconds + 10) })).record
          (.action (.testStart zone.toNat) .q)).raiseZone .routine .test zone.toNat).deriveDemand
            zone.toNat).reply a .done []
      else s.reply a .refusedState []
  else s.replyRange a 0

/-- A zone test is completed (R128). -/
def State.completeTest (n : Nat) (s : State) : State :=
  match s.zone n with
  | none => s
  | some z =>
    match z.testEnd with
    | none => s
    | some e =>
      (((((s.reach (tickTime e)).updZone n (fun z => { z with testEnd := none })).record
        (.action (.testEnd n .completed) .q))).raiseZone .routine .test n).deriveDemand n

/-! ## Master silence and RESTART (R133, R134) -/

/-- What the master-silence expiry of a port changes in a zone (R134). -/
def Zone.masterSilent (port : Port) (z : Zone) : Zone :=
  match port with
  | .t => if z.tFloor.isSome then { z with tFloor := none, dwell := 0 } else z
  | .q =>
    { z with qFloor := none, dwell := if z.qFloor.isSome then 0 else z.dwell, silence := none,
             testEnd := none }
  | .s => z

/-- Whether the expiry changes the zone (R134). -/
def Zone.touchedBySilence (port : Port) (z : Zone) : Bool :=
  match port with
  | .t => z.tFloor.isSome
  | .q => z.qFloor.isSome || z.silence.isSome || z.testEnd.isSome
  | .s => false

/-- The master-silence expiry reaches one zone (R134). -/
def State.silenceZone (port : Port) (n : Nat) (s : State) : State :=
  match s.zone n with
  | none => s
  | some z =>
    if z.touchedBySilence port then
      ((s.updZone n (Zone.masterSilent port)).deriveDemand n).raiseZone .routine .floor n
    else s

/-- The numbers of the configured zones, ascending. -/
def State.zoneNumbers (s : State) : List Nat := s.zwc.zones.map (fun z => z.cfg.zone)

/-- The master-silence expiry reaches every configured zone (R134), in ascending zone order, which R134
leaves open (DESIGN CHOICE, log entry 32). -/
def State.silenceZones (port : Port) (s : State) : State :=
  s.zoneNumbers.foldl (fun s n => s.silenceZone port n) s

/-- What a RESTART changes in a zone (R133). -/
def Zone.restarted (z : Zone) : Zone :=
  { z.zeroCounters with
    testEnd := none
    last := none
    noModel := true
    blind := !z.cfg.monitors.isEmpty }

/-- RESTART at the ZWC (R133): the zones change and every demand is derived anew. -/
def State.restartZones (s : State) : State :=
  s.zoneNumbers.foldl (fun s n => s.deriveDemand n)
    { s with zwc.zones := s.zwc.zones.map Zone.restarted }

/-! ## Configuration changes (R132) -/

/-- The live part of a zone at its creation (R132). -/
def Zone.created (c : ZoneCfg) : Zone :=
  { cfg := c, level := .clear, riseWatch := 0, riseWarn := 0, riseAlert := 0, dwell := 0, tFloor := none,
    qFloor := none, alert := .none, silence := none, service := .inService, testEnd := none,
    blind := false, noModel := false, dark := false, last := none, sign := .off, siren := .off,
    cause := none, levelSeq := none }

/-- Whether a ZONE item changes the thresholds, Hy, a deglitch count or the fall dwell (R132). -/
def ZoneCfg.levelPartDiffers (x y : ZoneCfg) : Bool :=
  x.tWatch != y.tWatch || x.tWarn != y.tWarn || x.tAlert != y.tAlert || x.hy != y.hy
    || x.dgWatch != y.dgWatch || x.dgWarn != y.dgWarn || x.dgAlert != y.dgAlert || x.dwell != y.dwell

/-- A configured zone under a new configured part (R132). -/
def Zone.reconfigured (c : ZoneCfg) (z : Zone) : Zone :=
  if z.cfg.levelPartDiffers c then { z.zeroCounters with cfg := c } else { z with cfg := c }

/-- A ZONE item reaches the ZWC (R132). -/
def State.applyZone (c : ZoneCfg) (s : State) : State :=
  match s.zone c.zone with
  | some _ => s.updZone c.zone (Zone.reconfigured c)
  | none =>
    (({ s with zwc.zones := insertKey (fun z => z.cfg.zone) (Zone.created c) s.zwc.zones }).judgeDark
      c.zone).deriveDemand c.zone

/-- REMOVE ZONE reaches the ZWC (R132): a running test ends as REMOVED, the live part is dropped, and
both lines are demanded OFF. -/
def State.dropZone (n : Nat) (s : State) : State :=
  match s.zone n with
  | none => s
  | some z =>
    let s1 := if z.testEnd.isSome then s.record (.action (.testEnd n .removed) .q) else s
    (({ s1 with zwc.zones := removeKey (fun z => z.cfg.zone) n s1.zwc.zones }).demandLine
      (2 * n - 1) .off).demandLine (2 * n) .off

end Sys2Proof.Machine
end

