-- ==== Sys2Proof/Machine/Outputs.lean ====
section
/-! DEFINITION. The Output Driver Array's events (chapter 7): shorts and retries, phase changes, clean
counts, open-load checks, and CLEAR LINE. -/

namespace Sys2Proof.Machine

/-- A LINE notice (R148). -/
def Line.notice (clock : Seconds) (event : LineEvent) (l : Line) : LineNotice :=
  { event := event, line := l.line, state := l.state, openFlag := l.openFlag, short := l.short,
    demand := l.demand, time := clock }

/-- A LINE notice of a line as it stands after the event. -/
def State.raiseLine (cls : NoticeClass) (event : LineEvent) (n : Nat) (s : State) : State :=
  match s.line n with
  | none => s
  | some l => s.raise cls (.line (l.notice s.seconds event))

/-! ## Shorts and retries (R140, R141) -/

/-- A driving line after an overcurrent (R140): RETRY_WAIT until the second site-clock tick after the
short, or LATCHED at the 8th. -/
def Line.shorted (clock : Seconds) (l : Line) : Line :=
  if l.short + 1 < 8 then
    { l with short := l.short + 1, clean := 0, driveStart := none, state := .retryWait,
             retryEnd := some (clock + 2) }
  else
    { l with short := l.short + 1, clean := 0, driveStart := none, state := .latched, retryEnd := none }

/-- An overcurrent on a line (R140).  A line that is not ON has its driver off, and no short counts. -/
def State.shortLine (n : Nat) (s : State) : State :=
  match s.line n with
  | none => s
  | some l =>
    if l.state = .on then
      let s1 := s.updLine n (Line.shorted s.seconds)
      if l.short + 1 < 8 then s1
      else
        (if l.openFlag then s1 else s1.faultReport n).raiseLine .urgent .latched n
    else s

/-- A line that leaves RETRY_WAIT or LATCHED and takes the state that its demand in force calls for. -/
def Line.resume (o : Oda) (now : Time) (l : Line) : Line :=
  if o.calls l.demand then { l with state := .on, retryEnd := none, driveStart := some now }
  else { l with state := .off, retryEnd := none, driveStart := none }

/-- The retry end tick of a RETRY_WAIT (R141). -/
def State.endRetry (n : Nat) (s : State) : State :=
  match s.line n with
  | none => s
  | some l =>
    match l.state, l.retryEnd with
    | .retryWait, some e =>
      let s1 := s.reach (tickTime e)
      s1.updLine n (Line.resume s1.oda s1.now)
    | _, _ => s

/-! ## Patterns (R138, R139) -/

/-- The demand that follows a generator. -/
def generatorDemand : Generator → Demand
  | .slow => .slow
  | .fast => .fast

/-- The moment of the generator's next phase change (R138): every whole second, every 250 ms. -/
def Oda.nextPhase (o : Oda) : Generator → Time
  | .slow => (o.slowChanges + 1) * 1000000
  | .fast => (o.fastChanges + 1) * 250000

/-- The generator after a phase change. -/
def Oda.advance (g : Generator) (o : Oda) : Oda :=
  match g with
  | .slow => { o with slowChanges := o.slowChanges + 1 }
  | .fast => { o with fastChanges := o.fastChanges + 1 }

/-- A phase change of a generator (R138, R139): the lines whose demand uses it follow. -/
def State.changePhase (g : Generator) (s : State) : State :=
  let s1 := s.reach (s.oda.nextPhase g)
  let o := s1.oda.advance g
  { s1 with
    oda := { o with
      lines := o.lines.map (fun l => if l.demand = generatorDemand g then l.follow o s1.now else l) } }

/-! ## Clean counts (R142) -/

/-- A line at the clean-count step of a site-clock tick (R142). -/
def Line.cleanTick (l : Line) : Line :=
  if l.engaged then
    { l with
      clean := countTo 10 l.clean
      short := if countTo 10 l.clean = 10 then 0 else l.short }
  else l

/-- The clean-count step of the next site-clock tick (R142). -/
def State.cleanTick (s : State) : State :=
  let s1 := s.reach (tickTime (s.oda.cleanTicks + 1))
  { s1 with
    oda := { s1.oda with
      cleanTicks := s1.oda.cleanTicks + 1
      lines := s1.oda.lines.map Line.cleanTick } }

/-! ## Open-load checks (R144, R145) -/

/-- Whether a check at `now` counts for a line: it drives, and has driven for at least 100 ms (R144). -/
def Line.checkCounts (now : Time) (l : Line) : Bool :=
  match l.state, l.driveStart with
  | .on, some start => decide (start + 100000 ≤ now)
  | _, _ => false

/-- The counts after a check that counts (R144). -/
def Line.counted (present : Bool) (l : Line) : Line :=
  if present then { l with openMiss := 0, openPresent := countTo 3 l.openPresent }
  else { l with openMiss := countTo 3 l.openMiss, openPresent := 0 }

/-- A change of the OPEN flag (R145): fault report unless the line is LATCHED, and a LINE notice. -/
def State.putOpen (n : Nat) (v : Bool) (s : State) : State :=
  let s1 := (s.updLine n (fun l => { l with openFlag := v })).faultReport n
  if v then s1.raiseLine .urgent .opened n else s1.raiseLine .routine .openCleared n

/-- One line at a check (R144, R145). -/
def State.checkLine (sense : BitVec 32) (n : Nat) (s : State) : State :=
  match s.line n with
  | none => s
  | some l =>
    if l.checkCounts s.now then
      let l1 := l.counted (sense.getLsbD (n - 1))
      let s1 := s.updLine n (Line.counted (sense.getLsbD (n - 1)))
      if !l.openFlag && l1.openMiss == 3 then s1.putOpen n true
      else if l.openFlag && l1.openPresent == 3 then s1.putOpen n false
      else s1
    else s

/-- The line numbers in ascending order. -/
def lineNumbers : List Nat := (List.range 32).map (fun i => i + 1)

/-- The moment of the next check: 125 ms after a multiple of 250 ms from POWER (R138). -/
def Oda.nextCheck (o : Oda) : Time := o.checks * 250000 + 125000

/-- A check of the line check period (R144): every line, in ascending order, which R144 leaves open (DESIGN
CHOICE, log entry 32). -/
def State.checkLines (sense : BitVec 32) (s : State) : State :=
  let s1 := s.reach s.oda.nextCheck
  lineNumbers.foldl (fun s n => s.checkLine sense n) { s1 with oda.checks := s1.oda.checks + 1 }

/-! ## CLEAR LINE (R146) -/

/-- A latched line is cleared: it takes the demand in force, the entry is written, the notice raised,
and the fault reported where the OPEN flag is clear (R146, R147). -/
def State.clearLatch (n : Nat) (openFlag : Bool) (s : State) : State :=
  let s1 :=
    ((s.updLine n (fun l => Line.resume s.oda s.now { l with short := 0, clean := 0 })).record
      (.action (.lineClear n) .q)).raiseLine .routine .latchCleared n
  if openFlag then s1 else s1.faultReport n

/-- CLEAR LINE (R146). -/
def clearLineCommand (line : Byte) (a : Asked) (s : State) : State :=
  if decide (1 ≤ line.toNat ∧ line.toNat ≤ 32) then
    match s.line line.toNat with
    | none => s.replyRange a 0
    | some l =>
      if l.state = .latched then (s.clearLatch line.toNat l.openFlag).reply a .done []
      else s.reply a .refusedState []
  else s.replyRange a 0

end Sys2Proof.Machine
end

