-- ==== Sys2Proof/Machine/Site.lean ====
section
/-! DEFINITION. The Site and Pile Model (chapter 4): gauge readings, the dryness band, monitor holds,
pile dryness, reports on piles and advice. -/

namespace Sys2Proof.Machine

/-! ## Readings (R70, R77) -/

/-- A gauge record at its creation, empty (R85). -/
def Gauge.created (slot : Nat) : Gauge := { slot := slot, reading := none, age := none, current := false }

/-- A monitor hold at its creation, empty, with all flags clear (R85). -/
def Monitor.created (slot : Nat) : Monitor :=
  { slot := slot, value := none, heater := false, rangeHigh := false, goingQuiet := false, age := none,
    current := false }

/-- The gauge record of a slot. -/
def State.gauge (s : State) (slot : Nat) : Option Gauge := findKey (fun g => g.slot) slot s.spm.gauges

/-- A GAUGE reading replaces the held one (R70). -/
def State.takeGauge (slot humidity : Nat) (rain heater : Bool) (s : State) : State :=
  { s with
    spm.gauges := updateKey (fun g => g.slot) slot
      (fun g =>
        { g with reading := some { humidity := humidity, rain := rain, heater := heater, round := s.flc.round } })
      s.spm.gauges }

/-- A DUST reading replaces the held one, with its flags from the condition code (R77). -/
def State.takeDust (slot concentration code : Nat) (s : State) : State :=
  { s with
    spm.monitors := updateKey (fun m => m.slot) slot
      (fun m =>
        { m with
          value := some (concentration, s.flc.round)
          heater := code == heaterFaultCode
          rangeHigh := code == rangeHighCode
          goingQuiet := code == goingQuietCode })
      s.spm.monitors }

/-! ## Ages and site values (R71, R78) -/

/-- A reading is current when its age is 8 or less (R71, R78). -/
def currentAge (age : Option Nat) : Bool :=
  match age with
  | none => false
  | some n => decide (n ≤ 8)

/-- The age and currency of a gauge at a round close (R71). -/
def Gauge.ageAt (round : Round) (g : Gauge) : Gauge :=
  let age := g.reading.map (fun r => roundsSince r.round round)
  { g with age := age, current := currentAge age }

/-- The age and currency of a hold at a round close (R78). -/
def Monitor.ageAt (round : Round) (m : Monitor) : Monitor :=
  let age := m.value.map (fun v => roundsSince v.2 round)
  { m with age := age, current := currentAge age }

/-- The held readings of the current gauges. -/
def currentReadings : List Gauge → List GaugeReading
  | [] => []
  | g :: rest =>
    match g.current, g.reading with
    | true, some r => r :: currentReadings rest
    | _, _ => currentReadings rest

/-- The lowest relative humidity among readings (R71). -/
def lowestHumidity : List GaugeReading → Option Nat
  | [] => none
  | r :: rest =>
    match lowestHumidity rest with
    | none => some r.humidity
    | some h => some (min r.humidity h)

/-- The ages of every gauge and hold, and the site values (R71, R78). -/
def State.ageSite (s : State) : State :=
  let gauges := s.spm.gauges.map (Gauge.ageAt s.flc.round)
  let readings := currentReadings gauges
  { s with
    spm := { s.spm with
      gauges := gauges
      monitors := s.spm.monitors.map (Monitor.ageAt s.flc.round)
      gaugesAtClose := readings.length
      lowestRh := lowestHumidity readings
      rain := readings.any (fun r => r.rain) } }

/-- GAUGES_LOST and GAUGES_RESTORED (R76), from the number at the last close and the new one. -/
def State.noticeGauges (before : Nat) (s : State) : State :=
  if before ≠ 0 ∧ s.spm.gaugesAtClose = 0 then
    s.raise .routine (.site (.gaugesLost s.spm.gaugesAtClose s.spm.band s.flc.round))
  else if before = 0 ∧ s.spm.gaugesAtClose ≠ 0 then
    s.raise .routine (.site (.gaugesRestored s.spm.gaugesAtClose s.spm.band s.flc.round))
  else s

/-! ## The band (R72 to R76) -/

/-- The candidate band without rain (R73). -/
def candidateBand (p : SiteParams) (band : Band) (h : Nat) : Band :=
  match band with
  | .wet => if p.tDamp ≤ h then .damp else if h < p.tParch then .parched else .dry
  | .damp =>
    if p.tDamp - p.hy ≤ h ∧ p.tParch ≤ h then .damp else if h < p.tParch then .parched else .dry
  | .dry =>
    if p.tDamp + p.hy ≤ h then .damp else if h < p.tParch - p.hy then .parched else .dry
  | .parched =>
    if p.tDamp ≤ h ∧ p.tParch + p.hy ≤ h then .damp
    else if h < p.tParch + p.hy then .parched else .dry

/-- A change of the band with its notice (R74, R76). -/
def State.changeBand (new : Band) (reason : BandReason) (s : State) : State :=
  { s with spm := { s.spm with band := new, pendingBand := none, persistence := 0 } }.raise .routine
    (.site (.band s.spm.band new reason s.spm.lowestRh s.spm.gaugesAtClose s.flc.round))

/-- The candidate acts on the band (R74). -/
def State.actCandidate (c : Band) (s : State) : State :=
  if c = s.spm.band then { s with spm := { s.spm with pendingBand := none, persistence := 0 } }
  else if c = .wet then s.changeBand .wet .rain
  else if s.spm.pendingBand = some c then
    (if 240 ≤ s.spm.persistence + 1 then s.changeBand c .gauges
     else { s with spm.persistence := s.spm.persistence + 1 })
  else { s with spm := { s.spm with pendingBand := some c, persistence := 1 } }

/-- A round close at which no gauge is current (R75). -/
def State.noGaugeClose (s : State) : State :=
  let s1 :=
    { s with
      spm := { s.spm with
        pendingBand := none
        persistence := 0
        noGauge := countTo 2400 s.spm.noGauge } }
  if s1.spm.noGauge = 2400 ∧ s.spm.noGauge ≠ 2400 ∧ s1.spm.band ≠ .dry then s1.changeBand .dry .noGauge
  else s1

/-- The band evaluation of a round close (R72). -/
def State.evaluateBand (s : State) : State :=
  match s.spm.lowestRh with
  | none => s.noGaugeClose
  | some h =>
    let c := if s.spm.rain then .wet else candidateBand s.cau.site s.spm.band h
    ({ s with spm.noGauge := 0 }).actCandidate c

/-! ## Pile dryness (R80) -/

/-- The dryness interval of a band (R80); WET has none. -/
def dryInterval (i : Nat) : Band → Option Nat
  | .damp => some (2 * i)
  | .dry => some i
  | .parched => some (i / 2)
  | .wet => none

/-- The dryness step of a pile (R80). -/
def Pile.dry (interval : Option Nat) (p : Pile) : Pile :=
  match interval with
  | none => p
  | some i =>
    if i ≤ p.sub + 1 then { p with dryness := countTo 255 p.dryness, sub := 0 }
    else { p with sub := p.sub + 1 }

/-- The round-close work of the SPM up to the assessment (R71 to R80). -/
def State.closeSite (s : State) : State :=
  let s1 := ((s.ageSite).noticeGauges s.spm.gaugesAtClose).evaluateBand
  { s1 with spm.piles := s1.spm.piles.map (Pile.dry (dryInterval s1.cau.site.interval s1.spm.band)) }

/-! ## Advice (R84) -/

/-- The advice that an assessment gives a pile (R84). -/
def adviceFor (v : PileValues) (leadMean gExc : Nat) : Advice :=
  if 0 < v.e then .wetNow else if v.ut ≤ leadMean + gExc then .wetSoon else .none

/-- The values of a pile from an assessment, stored with the advice; a change raises a notice (R84). -/
def State.storePile (n : Nat) (v : PileValues) (estimated : Bool) (leadMean : Nat) (s : State) : State :=
  match s.pile n with
  | none => s
  | some p =>
    let advice := adviceFor v leadMean s.cau.site.gExc
    let s1 := s.updPile n (fun p => { p with values := some v, estimated := estimated, advice := advice })
    if advice = p.advice then s1
    else
      s1.raise (if advice = .wetNow then .urgent else .routine)
        (.advice { pile := n, advice := advice, before := p.advice, u := v.u, ut := v.ut, e := v.e,
                   dryness := p.dryness, activity := p.activity, estimated := estimated,
                   round := s.flc.round })

/-! ## Reports of the terminal (R81, R82) -/

/-- REPORT WETTING (R81). -/
def reportWettingCommand (pile : Byte) (a : Asked) (s : State) : State :=
  if inRange 1 24 pile.toNat then
    match s.pile pile.toNat with
    | none => s.reply a .unknownItem []
    | some p =>
      (s.updPile pile.toNat
        (fun p => { p with dryness := 0, sub := 0, wetting := some (s.wrl.epoch, s.flc.round) })).reply a
          .done [bytes1 pile.toNat ++ bytes1 p.dryness]
  else s.replyRange a 0

/-- REPORT ACTIVITY (R82).  Where the pile and the activity are both out of range, the response names the
pile (DESIGN CHOICE, log entry 35). -/
def reportActivityCommand (pile activity : Byte) (a : Asked) (s : State) : State :=
  if inRange 1 24 pile.toNat then
    match reportedActivity activity.toNat with
    | none => s.replyRange a 1
    | some act =>
      match s.pile pile.toNat with
      | none => s.reply a .unknownItem []
      | some p =>
        (s.updPile pile.toNat (fun p => { p with activity := act })).reply a .done
          [bytes1 pile.toNat ++ bytes1 p.activity.code]
  else s.replyRange a 0

/-- The T-port's master-silence expiry sets every pile's activity UNKNOWN (R82). -/
def State.silencePiles (port : Port) (s : State) : State :=
  match port with
  | .t => { s with spm.piles := s.spm.piles.map (fun p => { p with activity := .unknown }) }
  | .q => s
  | .s => s

/-! ## Configuration changes (R85) and RESTART (R86) -/

/-- A pile at its creation (R85): fully dry, activity UNKNOWN. -/
def Pile.created (c : PileCfg) : Pile :=
  { cfg := c, dryness := 255, sub := 0, activity := .unknown, wetting := none, advice := .none,
    values := none, estimated := false }

/-- A PILE item reaches the SPM (R85). -/
def State.applyPile (c : PileCfg) (s : State) : State :=
  match s.pile c.pile with
  | some _ => s.updPile c.pile (fun p => { p with cfg := c })
  | none => { s with spm.piles := insertKey (fun p => p.cfg.pile) (Pile.created c) s.spm.piles }

/-- REMOVE PILE reaches the SPM (R85). -/
def State.dropPile (n : Nat) (s : State) : State :=
  { s with spm.piles := removeKey (fun p => p.cfg.pile) n s.spm.piles }

/-- A station's change of kind or identity at the gauge records (R85). -/
def State.applyGauge (slot : Nat) (before after : Option (Kind × Identity)) (s : State) : State :=
  match before, after with
  | some (.gauge, i), some (.gauge, j) =>
    if i = j then s
    else { s with spm.gauges := updateKey (fun g => g.slot) slot (fun _ => Gauge.created slot) s.spm.gauges }
  | some (.gauge, _), _ => { s with spm.gauges := removeKey (fun g => g.slot) slot s.spm.gauges }
  | _, some (.gauge, _) =>
    { s with spm.gauges := insertKey (fun g => g.slot) (Gauge.created slot) s.spm.gauges }
  | _, _ => s

/-- A station's change of kind or identity at the monitor holds (R85). -/
def State.applyMonitor (slot : Nat) (before after : Option (Kind × Identity)) (s : State) : State :=
  match before, after with
  | some (.dust, i), some (.dust, j) =>
    if i = j then s
    else
      { s with
        spm.monitors := updateKey (fun m => m.slot) slot (fun _ => Monitor.created slot) s.spm.monitors }
  | some (.dust, _), _ => { s with spm.monitors := removeKey (fun m => m.slot) slot s.spm.monitors }
  | _, some (.dust, _) =>
    { s with spm.monitors := insertKey (fun m => m.slot) (Monitor.created slot) s.spm.monitors }
  | _, _ => s

/-- RESTART at the SPM (R86): readings and holds are emptied, the pending band and both counts return,
the band and the piles are kept. -/
def State.restartSite (s : State) : State :=
  { s with
    spm := { s.spm with
      gauges := s.spm.gauges.map (fun g => Gauge.created g.slot)
      monitors := s.spm.monitors.map (fun m => Monitor.created m.slot)
      pendingBand := none
      persistence := 0
      noGauge := 0 } }

end Sys2Proof.Machine
end

