-- ==== Sys2Proof/Machine/Wind.lean ====
section
/-! DEFINITION. The Wind and Gust Tracker (chapter 3): mast records, lead mast, disagreement, the gust
condition, the gust list, and what an apply and a RESTART do to them. -/

namespace Sys2Proof.Machine

/-! ## Readings and rings (R46 to R49) -/

/-- A ring of 12 absent entries (R45). -/
def emptyRing : List (Option Sample) := List.replicate 12 none

/-- The summary of a mast whose ring is empty: unavailable (R67). -/
def MastSummary.unavailable : MastSummary :=
  { present := 0, available := false, peak := none, gustDir := none, latestDir := none, mean := none,
    disagree := 0, doubtful := false, effGust := none, effLatest := none, gusting := false,
    heater := false, counted := none }

/-- A mast record at its creation (R66). -/
def Mast.created (slot : Nat) : Mast :=
  { slot := slot, reading := none, ring := emptyRing, acc := none, disagree := 0, heater := false,
    summary := .unavailable }

/-- The mast started afresh by the fresh mark (R46). -/
def Mast.afresh (m : Mast) : Mast := { m with ring := emptyRing, acc := none, disagree := 0 }

/-- A MAST reading handed on by the SRG (R46). -/
def Mast.take (r : MastReading) (fresh : Bool) (m : Mast) : Mast :=
  if fresh then { m.afresh with reading := some r } else { m with reading := some r }

/-- The ring entry that a round reading gives (R47): a direction of 360 or more is an invalid sample. -/
def ringEntry (r : Option MastReading) : Option Sample :=
  match r with
  | none => none
  | some r => if r.direction < 360 then some { speed := r.speed, direction := r.direction } else none

/-- The accumulator after an entry (R48): seed with s x 512, then A - floor(A/512) + s. -/
def accAfter (acc : Option Nat) (entry : Option Sample) : Option Nat :=
  match entry, acc with
  | none, acc => acc
  | some x, none => some (x.speed * 512)
  | some x, some a => some (a - a / 512 + x.speed)

/-- The heater-fault field after a round reading (R47). -/
def heaterAfter (old : Bool) (r : Option MastReading) : Bool :=
  match r with
  | none => old
  | some r => if r.direction < 360 then r.heater else old

/-- The ring push and the mean update of a round close (R47, R48). -/
def Mast.push (m : Mast) : Mast :=
  { m with
    reading := none
    ring := m.ring.drop 1 ++ [ringEntry m.reading]
    acc := accAfter m.acc (ringEntry m.reading)
    heater := heaterAfter m.heater m.reading }

/-- The mean M (R48). -/
def Mast.mean (m : Mast) : Option Nat := m.acc.map (fun a => a / 512)

/-- The present entries of a ring, oldest first. -/
def presentEntries : List (Option Sample) → List Sample
  | [] => []
  | none :: rest => presentEntries rest
  | some x :: rest => x :: presentEntries rest

/-- The highest speed among entries (R49). -/
def peakOf : List Sample → Option Nat
  | [] => none
  | x :: rest =>
    match peakOf rest with
    | none => some x.speed
    | some p => some (max x.speed p)

/-- The direction of the newest entry whose speed is `p` (R49); the entries stand oldest first. -/
def newestWith (p : Nat) : List Sample → Option Nat
  | [] => none
  | x :: rest =>
    match newestWith p rest with
    | some d => some d
    | none => if x.speed = p then some x.direction else none

/-- The direction of the newest entry (R49). -/
def newestDir : List Sample → Option Nat
  | [] => none
  | [x] => some x.direction
  | _ :: y :: rest => newestDir (y :: rest)

/-- The values of R49, formed from the ring; the rest of the summary follows later in the round close. -/
def Mast.measure (m : Mast) : Mast :=
  let xs := presentEntries m.ring
  { m with
    summary :=
      { present := xs.length
        available := decide (4 ≤ xs.length)
        peak := peakOf xs
        gustDir := (peakOf xs).bind (fun p => newestWith p xs)
        latestDir := newestDir xs
        mean := m.mean
        disagree := m.disagree
        doubtful := decide (12 ≤ m.disagree)
        effGust := none
        effLatest := none
        gusting := false
        heater := m.heater
        counted := none } }

/-! ## The lead mast (R50) -/

/-- The available mast with the highest mean, the lowest slot among equals (R50); masts stand in
ascending slot order. -/
def leadOf : List Mast → Option Mast
  | [] => none
  | m :: rest =>
    match leadOf rest with
    | none => if m.summary.available then some m else none
    | some x =>
      if m.summary.available ∧ x.summary.mean.getD 0 ≤ m.summary.mean.getD 0 then some m else some x

/-- The number of available masts. -/
def availableCount (ms : List Mast) : Nat := (ms.filter (fun m => m.summary.available)).length

/-- The site part of the summary (R54). -/
def windSiteOf (ms : List Mast) : WindSite :=
  match leadOf ms with
  | none => { lead := none, leadMean := none, leadDir := none, available := availableCount ms }
  | some m =>
    { lead := some m.slot, leadMean := m.summary.mean, leadDir := m.summary.latestDir,
      available := availableCount ms }

/-- The wind-blind flag and its SITE notices (R50). -/
def State.updateBlind (s : State) : State :=
  match s.wgt.windBlind, s.wgt.site.lead with
  | false, none =>
    ({ s with wgt.windBlind := true }).raise .urgent (.site (.windBlind s.flc.round s.wgt.site.available))
  | true, some l =>
    ({ s with wgt.windBlind := false }).raise .routine
      (.site (.windRestored s.flc.round s.wgt.site.available (some l)))
  | true, none => s
  | false, some _ => s

/-! ## Disagreement and effective directions (R51, R52), the gust condition (R53) -/

/-- The disagreement counter after a round close (R51). -/
def disagreeAfter (site : WindSite) (m : Mast) : Nat :=
  match site.lead, site.leadDir, m.summary.latestDir with
  | some lead, some leadDir, some dir =>
    if m.summary.available ∧ m.slot ≠ lead ∧ 30 ≤ m.summary.mean.getD 0 then
      if 60 < angleBetween dir leadDir then countTo 15 m.disagree else 0
    else m.disagree
  | _, _, _ => m.disagree

/-- The gust condition (R53): available, P at least G_thr, and P - M at least G_exc. -/
def gustCondition (gThr gExc : Nat) (x : MastSummary) : Bool :=
  match x.available, x.peak, x.mean with
  | true, some p, some m => decide (gThr ≤ p) && decide (m + gExc ≤ p)
  | _, _, _ => false

/-- The summary with the counter, DOUBTFUL, the effective directions and the gust condition (R51 to R53). -/
def Mast.judge (site : WindSite) (gThr gExc : Nat) (m : Mast) : Mast :=
  let d := disagreeAfter site m
  let doubtful := decide (12 ≤ d)
  let own (dir : Option Nat) : Option Nat :=
    if m.summary.available then (if doubtful then site.leadDir else dir) else none
  { m with
    disagree := d
    summary :=
      { m.summary with
        disagree := d
        doubtful := doubtful
        effGust := own m.summary.gustDir
        effLatest := own m.summary.latestDir
        gusting := gustCondition gThr gExc m.summary } }

/-! ## The gust list (R55 to R65) -/

/-- A record that is not CLOSED. -/
def Gust.live (g : Gust) : Bool := g.state != .closed

/-- A GUST notice (R65). -/
def Gust.notice (event : GustEvent) (reason : Option RemoveReason) (round : Round) (joined : Option Nat)
    (g : Gust) : GustNotice :=
  { event := event, reason := reason, round := round, id := g.id, state := g.state, origin := g.origin,
    direction := g.direction, peak := g.peak, members := g.members.length, joined := joined,
    merged := g.merged }

/-- A GUST notice, always ROUTINE (R65). -/
def State.raiseGust (event : GustEvent) (reason : Option RemoveReason) (joined : Option Nat) (g : Gust)
    (s : State) : State :=
  s.raise .routine (.gust (g.notice event reason s.flc.round joined))

/-- The record that is not CLOSED of which a mast is a member. -/
def memberOf (slot : Nat) (gs : List Gust) : Option Gust :=
  gs.find? (fun g => g.live && g.members.contains slot)

/-- A record qualifies for joining (R58). -/
def Gust.joinable (round : Round) (dir : Nat) (g : Gust) : Bool :=
  g.live && decide (roundsSince g.openRound round ≤ 8) && decide (angleBetween g.direction dir ≤ 45)

/-- The record whose direction is nearest, the one nearest the head among equals (R58, R60). -/
def nearestGust (dir : Nat) : List Gust → Option Gust
  | [] => none
  | g :: rest =>
    match nearestGust dir rest with
    | none => some g
    | some x => if angleBetween g.direction dir ≤ angleBetween x.direction dir then some g else some x

/-- A member's activity (R57, R58, R60): last active round and record peak. -/
def Gust.active (round : Round) (peak : Nat) (g : Gust) : Gust :=
  { g with lastActive := round, peak := max g.peak peak }

/-- A record changed, by its id. -/
def State.updGust (id : Nat) (f : Gust → Gust) (s : State) : State :=
  { s with wgt.gusts := updateKey (fun g => g.id) id f s.wgt.gusts }

/-- A record, by its id. -/
def State.gust (s : State) (id : Nat) : Option Gust := findKey (fun g => g.id) id s.wgt.gusts

/-- An OPEN record with two or more members becomes CONFIRMED (R61). -/
def State.confirmGust (id slot : Nat) (s : State) : State :=
  match s.gust id with
  | none => s
  | some g =>
    if g.state = .opened ∧ 2 ≤ g.members.length then
      (s.updGust id (fun g => { g with state := .confirmed })).raiseGust .confirmed none (some slot)
        { g with state := .confirmed }
    else s

/-- A mast joins a record (R58). -/
def State.joinGust (id slot peak : Nat) (s : State) : State :=
  (s.updGust id (fun g => { g.active s.flc.round peak with members := g.members ++ [slot] })).confirmGust
    id slot

/-- A mast is merged into a record (R60): the notice MERGED goes before CONFIRMED. -/
def State.mergeGust (g : Gust) (slot peak : Nat) (s : State) : State :=
  let g1 := { g.active s.flc.round peak with members := g.members ++ [slot], merged := true }
  ((s.updGust g.id (fun _ => g1)).raiseGust .merged none (some slot) g1).confirmGust g.id slot

/-- The gust id after an id: from 65535 to 1 (R55). -/
def idAfter (n : Nat) : Nat := if 65535 ≤ n then 1 else n + 1

/-- The first id from `n` on that no record of the list holds (R55); the list holds at most 16. -/
def freeId (held : List Nat) : Nat → Nat → Nat
  | 0, n => n
  | fuel + 1, n => if n ∈ held then freeId held fuel (idAfter n) else n

/-- A new record appended at the tail (R59). -/
def State.appendGust (slot dir peak : Nat) (s : State) : State :=
  let id := freeId (s.wgt.gusts.map (fun g => g.id)) 16 s.wgt.nextId
  let g : Gust :=
    { id := id, state := .opened, openEpoch := s.wrl.epoch, openRound := s.flc.round, origin := slot,
      direction := dir, peak := peak, members := [slot], lastActive := s.flc.round, closedRound := none,
      merged := false }
  ({ s with wgt.gusts := s.wgt.gusts ++ [g], wgt.nextId := idAfter id }).raiseGust .opened none none g

/-- The first CLOSED record of the list (R59). -/
def firstClosed (gs : List Gust) : Option Gust := gs.find? (fun g => g.state == .closed)

/-- A mast without a record to join opens one, or is merged where there is no room (R59, R60). -/
def State.openGust (slot dir peak : Nat) (s : State) : State :=
  if s.wgt.gusts.length < 16 then s.appendGust slot dir peak
  else
    match firstClosed s.wgt.gusts with
    | some g =>
      (({ s with wgt.gusts := removeKey (fun x => x.id) g.id s.wgt.gusts }).raiseGust .removed (some .room)
        none g).appendGust slot dir peak
    | none =>
      match nearestGust dir (s.wgt.gusts.filter Gust.live) with
      | some g => s.mergeGust g slot peak
      | none => s

/-- One mast that meets the gust condition (R57 to R60). -/
def State.gustMember (slot dir peak : Nat) (s : State) : State :=
  match memberOf slot s.wgt.gusts with
  | some g => s.updGust g.id (Gust.active s.flc.round peak)
  | none =>
    match nearestGust dir (s.wgt.gusts.filter (Gust.joinable s.flc.round dir)) with
    | some g => s.joinGust g.id slot peak
    | none => s.openGust slot dir peak

/-- Step 1 of the gust list update (R56): the masts that meet the condition, in ascending slot order. -/
def State.gustMembership (s : State) : State :=
  s.wgt.masts.foldl
    (fun s m =>
      match m.summary.gusting, m.summary.peak, m.summary.effGust with
      | true, some peak, some dir => s.gustMember m.slot dir peak
      | _, _, _ => s)
    s

/-- A record that is due to close (R62). -/
def Gust.closes (round : Round) (g : Gust) : Bool :=
  g.live && decide (8 ≤ roundsSince g.lastActive round)

/-- A record after closing (R62, R66). -/
def Gust.shut (round : Round) (g : Gust) : Gust := { g with state := .closed, closedRound := some round }

/-- Step 2 of the gust list update (R62). -/
def State.closeGusts (s : State) : State :=
  let due := s.wgt.gusts.filter (Gust.closes s.flc.round)
  due.foldl (fun t g => t.raiseGust .closed none none (g.shut t.flc.round))
    { s with
      wgt.gusts := s.wgt.gusts.map (fun g => if g.closes s.flc.round then g.shut s.flc.round else g) }

/-- A record that is due to be removed (R63). -/
def Gust.aged (round : Round) (g : Gust) : Bool :=
  match g.state, g.closedRound with
  | .closed, some c => decide (240 ≤ roundsSince c round)
  | _, _ => false

/-- Step 3 of the gust list update (R63). -/
def State.ageGusts (s : State) : State :=
  let due := s.wgt.gusts.filter (Gust.aged s.flc.round)
  due.foldl (fun t g => t.raiseGust .removed (some .aged) none g)
    { s with wgt.gusts := s.wgt.gusts.filter (fun g => !g.aged s.flc.round) }

/-- The counted gust of a mast (R64), with the number of available masts of this round close. -/
def countedGust (available : Nat) (gs : List Gust) (slot : Nat) : Option Nat :=
  match memberOf slot gs with
  | none => none
  | some g =>
    match g.state with
    | .confirmed => some g.id
    | .opened => if available = 1 then some g.id else none
    | .closed => none

/-- Step 4 of the gust list update (R64). -/
def State.countGusts (s : State) : State :=
  { s with
    wgt.masts := s.wgt.masts.map (fun m =>
      { m with
        summary := { m.summary with
          counted := countedGust s.wgt.site.available s.wgt.gusts m.slot } }) }

/-- The masts after push and measurement (R47 to R49). -/
def State.pushMasts (s : State) : State :=
  { s with wgt.masts := s.wgt.masts.map (fun m => m.push.measure) }

/-- The lead-mast choice (R50). -/
def State.chooseLead (s : State) : State := ({ s with wgt.site := windSiteOf s.wgt.masts }).updateBlind

/-- The disagreement counters and the gust condition (R51 to R53). -/
def State.judgeMasts (s : State) : State :=
  { s with
    wgt.masts := s.wgt.masts.map (Mast.judge s.wgt.site s.cau.site.gThr s.cau.site.gExc) }

/-- The round-close work of the WGT (R47 to R64). -/
def State.closeWind (s : State) : State :=
  let s1 := s.pushMasts.chooseLead.judgeMasts.gustMembership.closeGusts.ageGusts.countGusts
  { s1 with wgt.lastClose := some s1.flc.round }

/-! ## Configuration changes (R66) -/

/-- A record that a slot leaves; one left with no members is CLOSED and keeps the members that it had
before this slot left (R66).  An apply that takes several members out does so slot by slot, so the history
is that of the last one to leave (DESIGN CHOICE, log entry 34). -/
def Gust.leave (round : Round) (slot : Nat) (g : Gust) : Gust :=
  if g.live && g.members.contains slot then
    (if g.members.all (fun m => m == slot) then g.shut round
     else { g with members := g.members.filter (fun m => m != slot) })
  else g

/-- Whether a slot's leaving closes a record (R66). -/
def Gust.leftEmpty (slot : Nat) (g : Gust) : Bool :=
  g.live && g.members.contains slot && g.members.all (fun m => m == slot)

/-- A slot leaves the members of every record that is not CLOSED (R66). -/
def State.leaveGusts (slot : Nat) (s : State) : State :=
  let due := s.wgt.gusts.filter (Gust.leftEmpty slot)
  due.foldl (fun t g => t.raiseGust .closed none none (g.shut t.flc.round))
    { s with wgt.gusts := s.wgt.gusts.map (Gust.leave s.flc.round slot) }

/-- The mast record of a slot created, in slot order (R66). -/
def State.createMast (slot : Nat) (s : State) : State :=
  { s with wgt.masts := insertKey (fun m => m.slot) (Mast.created slot) s.wgt.masts }

/-- The mast record of a slot dropped (R66). -/
def State.dropMast (slot : Nat) (s : State) : State :=
  { s with wgt.masts := removeKey (fun m => m.slot) slot s.wgt.masts }

/-- A station's change of kind or identity at the WGT (R66): `before` is the old kind and identity. -/
def State.applyMast (slot : Nat) (before : Option (Kind × Identity)) (after : Option (Kind × Identity))
    (s : State) : State :=
  match before, after with
  | some (.mast, i), some (.mast, j) =>
    if i = j then s
    else (s.updMast slot (fun m => { Mast.created slot with summary := m.summary })).leaveGusts slot
  | some (.mast, _), _ => (s.dropMast slot).leaveGusts slot
  | _, some (.mast, _) => s.createMast slot
  | _, _ => s

/-! ## RESTART (R67) -/

/-- RESTART at the WGT (R67). -/
def State.restartWind (s : State) : State :=
  let s1 :=
    { s with
      wgt := { s.wgt with
        masts := s.wgt.masts.map (fun m => Mast.created m.slot)
        site := .blind
        windBlind := true
        gusts := []
        lastClose := none } }
  if s.wgt.windBlind then s1
  else s1.raise .urgent (.site (.windBlind s1.flc.round 0))

end Sys2Proof.Machine
end

