-- ==== Sys2Proof/Machine/Risk.lean ====
section
/-! DEFINITION. The Risk Engine (chapter 5): lift and emission of the piles, transport along paths, the
modelled and measured indices, the wind-blind hold, the combined risk and its delivery. -/

namespace Sys2Proof.Machine

/-! ## Wind at a pile (R94, R95) -/

/-- The summary of an available mast. -/
def State.availableMast (s : State) (slot : Nat) : Option Mast :=
  match s.mast slot with
  | none => none
  | some m => if m.summary.available then some m else none

/-- The mast of a pile with its source: assigned, fallback, lead (R94). -/
def State.chooseMast (c : PileCfg) (s : State) : Option (Mast × MastSource) :=
  match s.availableMast c.assigned with
  | some m => some (m, .assigned)
  | none =>
    match c.fallback.bind s.availableMast with
    | some m => some (m, .fallback)
    | none => (s.wgt.site.lead.bind s.availableMast).map (fun m => (m, .lead))

/-- The wind choice of a pile from its mast (R95). -/
def windChoice (m : Mast) (source : MastSource) : WindChoice :=
  match m.summary.counted with
  | some id =>
    { mast := m.slot, source := source, basis := .gust, direction := m.summary.effGust.getD 0,
      gust := some id }
  | none =>
    { mast := m.slot, source := source, basis := .mean, direction := m.summary.effLatest.getD 0,
      gust := none }

/-- The wind speed u of a pile from its mast: the peak in a counted gust, else the mean (R95). -/
def windSpeed (m : Mast) : Nat :=
  match m.summary.counted with
  | some _ => m.summary.peak.getD 0
  | none => m.summary.mean.getD 0

/-! ## Lift and emission (R96, R97) -/

/-- The lift threshold u_t = U0 - floor(D x Span / 255) (R96). -/
def liftThreshold (u0 span dryness : Nat) : Nat := u0 - dryness * span / 255

/-- The emission E = floor(e x e x S / 16), doubled while the pile is WORKING or UNKNOWN (R97). -/
def emissionOf (e size : Nat) : Activity → Nat
  | .idle => e * e * size / 16
  | .working => e * e * size / 16 * 2
  | .unknown => e * e * size / 16 * 2

/-- The values of a pile at wind speed `u` (R96, R97). -/
def pileValues (p : SiteParams) (u : Nat) (x : Pile) : PileValues :=
  let ut := liftThreshold p.u0 p.span x.dryness
  { u := u, ut := ut, e := u - ut, emission := emissionOf (u - ut) x.cfg.size x.activity }

/-- The pile wind record written (R92). -/
def State.putWind (n : Nat) (c : WindChoice) (s : State) : State :=
  { s with
    rke.winds := updateKey (fun w => w.pile) n (fun w => { w with choice := some c }) s.rke.winds }

/-- Stage 2 for one pile (R89, R94 to R97): the record and the values handed to the SPM. -/
def State.assessPile (n : Nat) (s : State) : State :=
  match s.pile n with
  | none => s
  | some p =>
    match s.chooseMast p.cfg with
    | none => s
    | some (m, source) =>
      (s.putWind n (windChoice m source)).storePile n (pileValues s.cau.site (windSpeed m) p)
        (source == .lead) (s.wgt.site.leadMean.getD 0)

/-- The configured piles, ascending. -/
def State.pileNumbers (s : State) : List Nat := s.spm.piles.map (fun p => p.cfg.pile)

/-- Stage 2 (R89). -/
def State.assessPiles (s : State) : State := s.pileNumbers.foldl (fun s n => s.assessPile n) s

/-! ## Transport along paths (R98 to R100) -/

/-- The downwind direction (R98). -/
def downwind (direction : Nat) : Nat := (direction + 180) % 360

/-- The alignment weight w (R99). -/
def alignment (angle halfWidth : Nat) : Nat :=
  if halfWidth ≤ angle then 0 else 1024 * (halfWidth - angle) / halfWidth

/-- The aligned emission C = floor(E x w / 1024) (R99). -/
def alignedEmission (emission weight : Nat) : Nat := emission * weight / 1024

/-- The share C2 = floor(C x 500 / L) (R100). -/
def pathShare (aligned distance : Nat) : Nat := aligned * 500 / distance

/-- The result part of a path for a pile's emission and wind direction (R98 to R100). -/
def pathResult (c : PathCfg) (emission direction : Nat) : PathResult :=
  let a := angleBetween (downwind direction) c.bearing
  let w := alignment a c.halfWidth
  { angle := a, weight := w, share := pathShare (alignedEmission emission w) c.distance }

/-- The pile wind record of a pile. -/
def State.wind (s : State) (n : Nat) : Option WindChoice :=
  match findKey (fun w => w.pile) n s.rke.winds with
  | none => none
  | some w => w.choice

/-- The emission just formed for a pile. -/
def State.emissionAt (s : State) (n : Nat) : Nat :=
  match s.pile n with
  | none => 0
  | some p => (p.values.map (fun v => v.emission)).getD 0

/-- A path entry with its new result part. -/
def State.assessPath (s : State) (p : Path) : Path :=
  { p with
    result := some (pathResult p.cfg (s.emissionAt p.cfg.pile)
      (((s.wind p.cfg.pile).map (fun c => c.direction)).getD 0)) }

/-- Stage 3 (R89): every path, in table order. -/
def State.assessPaths (s : State) : State := { s with rke.paths := s.rke.paths.map s.assessPath }

/-! ## Modelled sums and index (R101, R102) -/

/-- The share of a path, 0 while its result part is absent. -/
def Path.share (p : Path) : Nat := (p.result.map (fun r => r.share)).getD 0

/-- The paths of a zone, in table order. -/
def State.pathsTo (zone : Nat) (s : State) : List Path :=
  s.rke.paths.filter (fun p => p.cfg.zone == zone)

/-- The exact sum of the shares. -/
def sumShares : List Path → Nat
  | [] => 0
  | p :: rest => p.share + sumShares rest

/-- The pile of the path with the largest share, the lowest pile among equals (R101); paths stand in
ascending pile order. -/
def largestShare : List Path → Option Path
  | [] => none
  | p :: rest =>
    match largestShare rest with
    | none => some p
    | some x => if x.share ≤ p.share then some p else some x

/-- The largest modelled sum (R101). -/
def sumClamp : Nat := 16777215

/-- The dominant pile; none when the sum is 0 (R101). -/
def dominantPile (ps : List Path) : Option Nat :=
  if sumShares ps = 0 then none else (largestShare ps).map (fun p => p.cfg.pile)

/-- An index: the smaller of 1000 and the quotient (R102, R103). -/
def indexOf (value scale : Nat) : Nat := min 1000 (value * 1000 / scale)

/-- The modelled fields of a zone formed anew (R101, R102). -/
def State.formModelled (s : State) (z : Zone) (r : ZoneResult) : ZoneResult :=
  let ps := s.pathsTo z.cfg.zone
  let sum := min sumClamp (sumShares ps)
  let dominant := dominantPile ps
  { r with
    sum := sum
    dominant := dominant
    gust := (dominant.bind s.wind).bind (fun c => c.gust)
    modelled := indexOf sum z.cfg.fm
    blindCount := 0 }

/-- The modelled fields of a zone on a wind-blind site (R105). -/
def ZoneResult.holdModelled (r : ZoneResult) : ZoneResult :=
  let n := countTo 241 r.blindCount
  if n ≤ 240 then { r with blindCount := n }
  else { r with blindCount := n, sum := 0, dominant := none, gust := none, modelled := 0 }

/-! ## Measured index (R103, R104) -/

/-- The hold of a DUST slot. -/
def State.monitor (s : State) (slot : Nat) : Option Monitor :=
  findKey (fun m => m.slot) slot s.spm.monitors

/-- The result for one named monitor (R103). -/
def State.monitorResult (s : State) (c : ZoneCfg) (slot : Nat) : MonitorResult :=
  match s.monitor slot with
  | none => { slot := slot, net := none, index := none }
  | some m =>
    match m.current, m.value with
    | true, some (conc, _) =>
      { slot := slot, net := some (conc - c.background), index := some (indexOf (conc - c.background) c.fd) }
    | _, _ => { slot := slot, net := none, index := none }

/-- The highest index among the current monitors, 0 where there is none (R104). -/
def highestIndex : List MonitorResult → Nat
  | [] => 0
  | r :: rest => max (r.index.getD 0) (highestIndex rest)

/-- A zone is BLIND when it names a monitor and none is current (R104). -/
def blindOf (rs : List MonitorResult) : Bool := !rs.isEmpty && rs.all (fun r => r.index.isNone)

/-! ## Stages 4 to 6 (R89, R105 to R107) -/

/-- A zone's result record after stages 4 and 5 (R101 to R106). -/
def State.assessZone (s : State) (z : Zone) (r : ZoneResult) : ZoneResult :=
  let r1 := if s.wgt.windBlind then r.holdModelled else s.formModelled z r
  let rs := z.cfg.monitors.map (s.monitorResult z.cfg)
  { r1 with
    monitors := rs
    measured := highestIndex rs
    blind := blindOf rs
    noModel := s.wgt.windBlind
    risk := max r1.modelled (highestIndex rs)
    round := some s.flc.round }

/-- Stages 4 and 5 for every configured zone (R89). -/
def State.assessZones (s : State) : State :=
  { s with
    rke.zones := s.rke.zones.map (fun r =>
      match s.zone r.zone with
      | none => r
      | some z => s.assessZone z r) }

/-- The delivery of a zone from its result record (R107). -/
def ZoneResult.delivery (round : Round) (r : ZoneResult) : Delivery :=
  { zone := r.zone, round := round, risk := r.risk, modelled := r.modelled, measured := r.measured,
    dominant := r.dominant, gust := r.gust, blind := r.blind, noModel := r.noModel }

/-- Stage 6 (R107): one delivery for each configured zone, in ascending zone order. -/
def State.deliverZones (s : State) : State :=
  s.rke.zones.foldl (fun t r => t.deliverRisk (r.delivery s.flc.round)) s

/-- The round assessment (R89); a wind-blind site passes over the piles and the paths (R93). -/
def State.assess (s : State) : State :=
  let s1 := if s.wgt.windBlind then s else s.assessPiles.assessPaths
  s1.assessZones.deliverZones

/-! ## Configuration changes (R109) -/

/-- The order of the path table: by pile, then by zone (R90). -/
def pathOrder (pile zone : Nat) : Nat := pile * 32 + zone

/-- The order of an entry. -/
def Path.order (p : Path) : Nat := pathOrder p.cfg.pile p.cfg.zone

/-- An entry of the path table. -/
def State.path (s : State) (pile zone : Nat) : Option Path :=
  findKey Path.order (pathOrder pile zone) s.rke.paths

/-- A PATH item reaches the RKE (R109). -/
def State.applyPath (c : PathCfg) (s : State) : State :=
  match s.path c.pile c.zone with
  | some _ =>
    { s with
      rke.paths := updateKey Path.order (pathOrder c.pile c.zone) (fun p => { p with cfg := c }) s.rke.paths }
  | none => { s with rke.paths := insertKey Path.order { cfg := c, result := none } s.rke.paths }

/-- REMOVE PATH reaches the RKE (R109). -/
def State.dropPath (pile zone : Nat) (s : State) : State :=
  { s with rke.paths := removeKey Path.order (pathOrder pile zone) s.rke.paths }

/-- A zone result record at its creation (R91). -/
def ZoneResult.created (c : ZoneCfg) : ZoneResult :=
  { zone := c.zone, round := none, sum := 0, dominant := none, gust := none, modelled := 0,
    blindCount := 0,
    monitors := c.monitors.map (fun slot => { slot := slot, net := none, index := none }),
    measured := 0, blind := false, noModel := false, risk := 0 }

/-- A ZONE item reaches the RKE (R109): a record is created for a zone not configured. -/
def State.applyZoneResult (c : ZoneCfg) (s : State) : State :=
  match s.zoneResult c.zone with
  | some _ => s
  | none => { s with rke.zones := insertKey (fun r => r.zone) (ZoneResult.created c) s.rke.zones }

/-- REMOVE ZONE reaches the RKE (R109). -/
def State.dropZoneResult (n : Nat) (s : State) : State :=
  { s with rke.zones := removeKey (fun r => r.zone) n s.rke.zones }

/-- A PILE item reaches the RKE (R109): a wind record is created for a pile not configured. -/
def State.applyWind (c : PileCfg) (s : State) : State :=
  match findKey (fun w => w.pile) c.pile s.rke.winds with
  | some _ => s
  | none =>
    { s with rke.winds := insertKey (fun w => w.pile) { pile := c.pile, choice := none } s.rke.winds }

/-- REMOVE PILE reaches the RKE (R109). -/
def State.dropWind (n : Nat) (s : State) : State :=
  { s with rke.winds := removeKey (fun w => w.pile) n s.rke.winds }

/-! ## RESTART (R110) -/

/-- A zone result record after a RESTART (R110). -/
def ZoneResult.restarted (r : ZoneResult) : ZoneResult :=
  { r with
    round := none, sum := 0, dominant := none, gust := none, modelled := 0, blindCount := 0,
    monitors := r.monitors.map (fun m => { slot := m.slot, net := none, index := none }),
    measured := 0, blind := false, noModel := false, risk := 0 }

/-- RESTART at the RKE (R110). -/
def State.restartRisk (s : State) : State :=
  { s with
    rke := { s.rke with
      paths := s.rke.paths.map (fun p => { p with result := none })
      zones := s.rke.zones.map ZoneResult.restarted } }

end Sys2Proof.Machine
end

