-- ==== Sys2Proof/Machine/Stations.lean ====
section
/-! DEFINITION. The Station Registry (chapter 2): verdicts and the reading gate, announces, grants and
revocations, ACK LOSS, and what an apply and a RESTART do to the station table. -/

namespace Sys2Proof.Machine

/-! ## Notices and collections -/

/-- A STATION notice of a slot as it stands after a change (R41).  While no round is timed it carries the
round number that the FLC holds (DEDUCED, log entry 22). -/
def State.raiseStation (cls : NoticeClass) (cause : StationCause) (slot : Nat) (s : State) : State :=
  match s.station slot with
  | none => s
  | some x =>
    s.raise cls (.station { slot := slot, identity := x.cfg.identity, kind := x.cfg.kind, cause := cause,
                            live := x.live, missed := x.missed, code := x.code, round := s.flc.round })

/-- A revocation arises for a slot (R29). -/
def State.revoke (slot : Nat) (s : State) : State :=
  { s with srg.revocations := appendNew slot s.srg.revocations }

/-- The slot enters the admission queue at its tail. -/
def State.enqueue (slot : Nat) (s : State) : State := { s with srg.queue := s.srg.queue ++ [slot] }

/-! ## Delivered verdicts (R30, R32, R35) -/

/-- The fields updated from every delivered verdict (R32). -/
def Station.hear (round : Round) (code : Nat) (heardA heardB : Bool) (x : Station) : Station :=
  { x with
    code := some code
    heardA := if heardA then some round else x.heardA
    heardB := if heardB then some round else x.heardB }

/-- The verdict comes in one of the rounds grant round to grant round + 3 (R30). -/
def Station.inGrantWindow (round : Round) (x : Station) : Bool :=
  match x.grant with
  | none => false
  | some g => decide (roundsSince g round ≤ 3)

/-- The warm-up ends with this delivery (R32). -/
def Station.endsWarmup (x : Station) : Bool := decide (x.warm = 1)

/-- The live part after a delivered verdict, by the state when it arrives (R32, R30, R35). -/
def Station.delivered (round : Round) (code : Nat) (x : Station) : Station :=
  match x.live with
  | .silent => x
  | .heard =>
    if x.inGrantWindow round then { x with live := .warming, warm := 8, missed := 0 } else x
  | .warming =>
    if x.warm ≤ 1 then { x with live := .active, warm := 0, missed := 0, fresh := true }
    else { x with warm := x.warm - 1, missed := 0 }
  | .active =>
    if code = goingQuietCode then { x with live := .quieting, missed := 0 } else { x with missed := 0 }
  | .suspect =>
    if x.warm ≤ 1 then
      { x with live := .active, warm := 0, missed := 0, fresh := x.fresh || x.endsWarmup }
    else { x with live := .warming, warm := x.warm - 1, missed := 0 }
  | .quieting =>
    if code = goingQuietCode then { x with missed := 0 } else { x with live := .active, missed := 0 }
  | .lost => x
  | .returned => x

/-- A delivered frame answered by a revocation: its station does not hold a grant (R29, R32). -/
def Station.answeredByRevocation (x : Station) : Bool :=
  match x.live with
  | .silent => true
  | .heard => x.grant.isNone
  | .lost => true
  | .returned => true
  | .warming => false
  | .active => false
  | .suspect => false
  | .quieting => false

/-- The warm-up ends in ACTIVE with this verdict, so ADMITTED is raised (R41). -/
def Station.admittedBy (x : Station) : Bool :=
  match x.live with
  | .warming => decide (x.warm ≤ 1)
  | .suspect => x.endsWarmup
  | .silent => false
  | .heard => false
  | .active => false
  | .quieting => false
  | .lost => false
  | .returned => false

/-- The state condition of the reading gate (R34): ACTIVE when the verdict arrived, or made ACTIVE by it. -/
def readingGate (before after : LiveState) : Bool := before == .active || after == .active

/-! ## Hand-off (R37) -/

/-- A value limited to the top of its range, or put at the top by RANGE_HIGH (R37). -/
def handedValue (top code value : Nat) : Nat := if code = rangeHighCode then top else min top value

/-- A passed reading is handed to the WGT or the SPM (R37); a MAST reading carries the fresh mark and
clears it. -/
def State.handOff (slot code : Nat) (r : Reading) (fresh : Bool) (s : State) : State :=
  match r with
  | .mast speed direction =>
    (s.updMast slot
      (Mast.take { speed := handedValue 750 code speed, direction := direction,
                   heater := code == heaterFaultCode } fresh)).updStation slot
      (fun x => { x with fresh := false })
  | .dust c => s.takeDust slot (handedValue 20000 code c) code
  | .gauge h rain => s.takeGauge slot (handedValue 100 code h) rain (code == heaterFaultCode)

/-- A delivered verdict at the SRG (R32, R34, R37).  A fresh mark that no MAST reading has carried yet
stays through SUSPECT and QUIETING and goes with the next one (DEDUCED, log entry 33). -/
def State.delivered (slot : Nat) (f : StationFrame) (heardA heardB : Bool) (s : State) : State :=
  match s.station slot with
  | none => s
  | some x =>
    let y := (x.delivered s.flc.round f.code).hear s.flc.round f.code heardA heardB
    let s1 := s.updStation slot (fun _ => y)
    let s2 := if x.answeredByRevocation then s1.revoke slot else s1
    let s3 := if x.admittedBy then s2.raiseStation .routine .admitted slot else s2
    if readingGate x.live y.live && codeUsesReading f.code then s3.handOff slot f.code f.reading y.fresh
    else s3

/-! ## Missing verdicts (R33, R35, R36) -/

/-- A SUSPECT station enters LOST (R36). -/
def State.loseStation (slot : Nat) (s : State) : State :=
  ((s.updStation slot
    (fun x => { x with live := .lost, grant := none, warm := 0, missed := 8 })).revoke slot).raiseStation
      .urgent .lost slot

/-- A QUIETING station becomes SILENT (R35). -/
def State.quietStation (slot : Nat) (s : State) : State :=
  ((s.updStation slot
    (fun x => { x with live := .silent, grant := none, warm := 0, missed := 0 })).revoke slot).raiseStation
      .routine .quiet slot

/-- A missing verdict at the SRG (R33). -/
def State.missed (slot : Nat) (s : State) : State :=
  match s.station slot with
  | none => s
  | some x =>
    match x.live with
    | .silent => s
    | .heard => s
    | .lost => s
    | .returned => s
    | .warming => s.updStation slot (fun x => { x with live := .suspect, missed := 1 })
    | .active => s.updStation slot (fun x => { x with live := .suspect, missed := 1 })
    | .suspect =>
      if 8 ≤ x.missed + 1 then s.loseStation slot
      else s.updStation slot (fun x => { x with missed := x.missed + 1 })
    | .quieting =>
      if 4 ≤ x.missed + 1 then s.quietStation slot
      else s.updStation slot (fun x => { x with missed := x.missed + 1 })

/-! ## Announces (R27, R38) -/

/-- The configured station with an identity. -/
def State.stationWith (i : Identity) (s : State) : Option Station :=
  s.srg.stations.find? (fun x => x.cfg.identity == i)

/-- A stranger record refreshed by an announce (R38). -/
def Stranger.refresh (kind : Kind) (round : Round) (x : Stranger) : Stranger :=
  { x with kind := kind, last := round, count := countTo 255 x.count }

/-- A stranger announce (R38). -/
def State.strangerAnnounce (a : Announce) (s : State) : State :=
  if s.srg.strangers.any (fun x => x.identity == a.identity) then
    { s with
      srg.strangers := s.srg.strangers.map (fun x =>
        if x.identity = a.identity then x.refresh a.kind s.flc.round else x) }
  else
    let new : Stranger :=
      { identity := a.identity, kind := a.kind, firstEpoch := s.wrl.epoch, firstRound := s.flc.round,
        last := s.flc.round, count := 1 }
    let full := decide (8 ≤ s.srg.strangers.length)
    let removed := if full then s.srg.strangers.head?.map (fun x => x.identity) else none
    let kept := if full then s.srg.strangers.drop 1 else s.srg.strangers
    ({ s with srg.strangers := kept ++ [new] }).raise .routine
      (.stranger { identity := a.identity, kind := a.kind, removed := removed })

/-- The heard-on fields of an announce (R27). -/
def Station.announced (round : Round) (a : Announce) (x : Station) : Station :=
  { x with
    heardA := if a.heardA then some round else x.heardA
    heardB := if a.heardB then some round else x.heardB }

/-- The state of a station that enters the admission queue (R27, R39). -/
def Station.queued (x : Station) : Station :=
  { x with live := .heard, grant := none, warm := 0, missed := 0 }

/-- One announce (R27). -/
def State.takeAnnounce (a : Announce) (s : State) : State :=
  match s.stationWith a.identity with
  | none => s.strangerAnnounce a
  | some x =>
    let slot := x.cfg.slot
    if x.cfg.kind ≠ a.kind then s.raiseStation .routine .kindMismatch slot
    else
      let s1 := s.updStation slot (Station.announced s.flc.round a)
      match x.live with
      | .silent =>
        if s.srg.queue.length < 8 then (s1.updStation slot Station.queued).enqueue slot else s1
      | .lost =>
        (s1.updStation slot (fun x => { x with live := .returned })).raiseStation .urgent .returned slot
      | .heard => s1
      | .warming => s1
      | .active => s1
      | .suspect => s1
      | .quieting => s1
      | .returned => s1

/-- The round's announces, in the order of the list (R27). -/
def State.takeAnnounces (l : List Announce) (s : State) : State :=
  l.foldl (fun s a => s.takeAnnounce a) s

/-! ## Grants and revocations (R28, R31) -/

/-- A grant handed for a slot in the round that is starting (R28). -/
def State.grantSlot (round : Round) (slot : Nat) (s : State) : State :=
  let s1 := s.updStation slot (fun x => { x with grant := some round })
  { s1 with srg.revocations := s1.srg.revocations.filter (fun n => n != slot) }

/-- The identity configured in a slot, as a grant carries it (R28). -/
def State.identityAt (slot : Nat) (s : State) : Identity :=
  match s.station slot with
  | none => 0
  | some x => x.cfg.identity

/-- The slots that the beacon of a new round grants: up to 2 from the head of the queue (R28). -/
def State.grantsReady (s : State) : List Nat := s.srg.queue.take 2

/-- Step 1 of R28: the grants of the round that is starting. -/
def State.handGrants (round : Round) (s : State) : State :=
  s.grantsReady.foldl (fun s slot => s.grantSlot round slot) { s with srg.queue := s.srg.queue.drop 2 }

/-- Step 2 of R28: up to 2 revocations from the head of the list. -/
def State.handRevocations (s : State) : State :=
  { s with srg.revocations := s.srg.revocations.drop 2 }

/-- The grant of a HEARD station lapses at the close of grant round + 3 (R31). -/
def Station.lapses (round : Round) (x : Station) : Bool :=
  match x.live, x.grant with
  | .heard, some g => decide (3 ≤ roundsSince g round)
  | _, _ => false

/-- One lapse check (R31). -/
def State.lapseSlot (slot : Nat) (s : State) : State :=
  match s.station slot with
  | none => s
  | some x =>
    if x.lapses s.flc.round then
      ((s.updStation slot (fun x => { x with live := .silent, grant := none })).revoke slot).raiseStation
        .routine .lapsed slot
    else s

/-- The configured slots, ascending. -/
def State.slotNumbers (s : State) : List Nat := s.srg.stations.map (fun x => x.cfg.slot)

/-- The lapse checks of a round close (R31); in ascending slot order, which R31 leaves open (DESIGN CHOICE,
log entry 32). -/
def State.lapseGrants (s : State) : State := s.slotNumbers.foldl (fun s n => s.lapseSlot n) s

/-! ## ACK LOSS (R39) -/

/-- ACK LOSS on a LOST station, or on a RETURNED one without room in the queue (R39). -/
def State.ackToSilent (slot : Nat) (s : State) : State :=
  (s.updStation slot (fun x => { x with live := .silent, missed := 0 })).raiseStation .routine .ackLoss slot

/-- ACK LOSS on a RETURNED station with room in the queue (R39). -/
def State.ackToQueue (slot : Nat) (s : State) : State :=
  ((s.updStation slot Station.queued).enqueue slot).raiseStation .routine .ackLoss slot

/-- ACK LOSS (R39). -/
def ackLossCommand (slot : Byte) (a : Asked) (s : State) : State :=
  if inRange 1 48 slot.toNat then
    match s.station slot.toNat with
    | none => s.reply a .unknownItem []
    | some x =>
      match x.live with
      | .lost => (s.ackToSilent slot.toNat).reply a .done []
      | .returned =>
        if s.srg.queue.length < 8 then (s.ackToQueue slot.toNat).reply a .done []
        else (s.ackToSilent slot.toNat).reply a .done []
      | .silent => s.reply a .refusedState []
      | .heard => s.reply a .refusedState []
      | .warming => s.reply a .refusedState []
      | .active => s.reply a .refusedState []
      | .suspect => s.reply a .refusedState []
      | .quieting => s.reply a .refusedState []
  else s.replyRange a 0

/-! ## Configuration changes (R40) -/

/-- A station entry newly configured (R40). -/
def Station.created (c : StationCfg) : Station :=
  { cfg := c, live := .silent, grant := none, warm := 0, missed := 0, code := none, heardA := none,
    heardB := none, fresh := false }

/-- The stranger record of a newly configured identity is removed (R40). -/
def State.forgetStranger (i : Identity) (s : State) : State :=
  { s with srg.strangers := s.srg.strangers.filter (fun x => x.identity != i) }

/-- A slot leaves the admission queue. -/
def State.unqueue (slot : Nat) (s : State) : State :=
  { s with srg.queue := s.srg.queue.filter (fun n => n != slot) }

/-- A STATION item reaches the SRG (R40). -/
def State.applyStation (c : StationCfg) (s : State) : State :=
  match s.station c.slot with
  | none =>
    ({ s with srg.stations := insertKey (fun x => x.cfg.slot) (Station.created c) s.srg.stations }).forgetStranger
      c.identity
  | some x =>
    if x.cfg.identity = c.identity ∧ x.cfg.kind = c.kind then
      s.updStation c.slot (fun x => { x with cfg := c })
    else
      let s1 := (s.updStation c.slot (fun _ => Station.created c)).unqueue c.slot
      (if x.holdsGrant then s1.revoke c.slot else s1).forgetStranger c.identity

/-- REMOVE STATION reaches the SRG (R40). -/
def State.dropStation (slot : Nat) (s : State) : State :=
  match s.station slot with
  | none => s
  | some x =>
    let s1 :=
      ({ s with srg.stations := removeKey (fun x => x.cfg.slot) slot s.srg.stations }).unqueue slot
    if x.holdsGrant then s1.revoke slot else s1

/-! ## RESTART (R43) -/

/-- A station after a RESTART (R43): SILENT, the configured part kept. -/
def Station.restarted (x : Station) : Station := Station.created x.cfg

/-- RESTART at the SRG (R43). -/
def State.restartStations (s : State) : State :=
  { s with
    srg := { stations := s.srg.stations.map Station.restarted, queue := [], revocations := [],
             strangers := [] } }

end Sys2Proof.Machine
end

