-- ==== Sys2Proof/Machine/Cau.lean ====
section
/-! DEFINITION. The Configuration Agreement Unit (chapter 8): staging, proposal, acceptance and refusal,
the expiries, the result table with its checks, and the apply. -/

namespace Sys2Proof.Machine

/-! ## Notices and the return to FREE (R154, R167) -/

/-- A CONFIG notice: number and state as they stand after the event, owner and item count at it (R167). -/
def State.raiseConfig (event : ConfigEvent) (owner : Option Port) (items : Nat) (s : State) : State :=
  s.raise .routine
    (.config { event := event, number := s.cau.number, owner := owner, items := items,
               state := s.cau.state, round := s.flc.round, time := s.seconds })

/-- The pending set returned to FREE (R154). -/
def Cau.freed (c : Cau) : Cau :=
  { c with items := [], state := .free, owner := none, idleExpiry := none, proposalExpiry := none }

/-- The set returns to FREE with the notice of the event that frees it (R154, R167). -/
def State.freeSet (event : ConfigEvent) (s : State) : State :=
  ({ s with cau := s.cau.freed }).raiseConfig event s.cau.owner s.cau.items.length

/-! ## STAGE (R155) -/

/-- The place, counted from `n`, of the item with a key. -/
def stagedIndex (k : ItemKey) : Nat → List Item → Option Nat
  | _, [] => none
  | n, x :: rest => if x.key = k then some n else stagedIndex k (n + 1) rest

/-- An item put in the place of the staged item of its key (R155). -/
def replaceStaged (y : Item) : List Item → List Item
  | [] => []
  | x :: rest => if x.key = y.key then y :: rest else x :: replaceStaged y rest

/-- The idle expiry restarted: now plus 300 s (R155). -/
def State.restartIdle (s : State) : State := { s with cau.idleExpiry := some (s.seconds + 300) }

/-- A FREE set is claimed (R155). -/
def State.claimSet (x : Item) (port : Port) (s : State) : State :=
  ({ s with
    cau := { s.cau with
      items := [x], state := .opened, owner := some port, idleExpiry := some (s.seconds + 300),
      proposalExpiry := none } }).raiseConfig .claimed (some port) 1

/-- An item staged by the owner of an OPEN set (R155). -/
def State.stageOpen (item : List Byte) (a : Asked) (s : State) : State :=
  let s1 := s.restartIdle
  match checkItem item with
  | .bad i => s1.replyRange a i
  | .good x =>
    match stagedIndex x.key 1 s.cau.items with
    | some n =>
      ({ s1 with cau.items := replaceStaged x s.cau.items }).reply a .done
        [bytes1 n, bytes1 s.cau.items.length, bytes1 1]
    | none =>
      if s.cau.items.length < 64 then
        ({ s1 with cau.items := s.cau.items ++ [x] }).reply a .done
          [bytes1 (s.cau.items.length + 1), bytes1 (s.cau.items.length + 1)]
      else s1.reply a .refusedFull []

/-- STAGE (R155). -/
def stageCommand (item : List Byte) (a : Asked) (s : State) : State :=
  match s.cau.state with
  | .free =>
    (match checkItem item with
     | .bad i => s.replyRange a i
     | .good x => (s.claimSet x a.port).reply a .done [bytes1 1, bytes1 1])
  | .opened =>
    if s.cau.owner = some a.port then s.stageOpen item a else s.reply a .refusedBusy []
  | .proposed =>
    if s.cau.owner = some a.port then s.reply a .refusedState [] else s.reply a .refusedBusy []
  | .accepted => s.reply a .refusedBusy []

/-! ## DISCARD, PROPOSE, ACCEPT, REFUSE (R156, R158 to R160) -/

/-- DISCARD (R156). -/
def discardCommand (a : Asked) (s : State) : State :=
  match s.cau.state with
  | .free => s.reply a .refusedState []
  | .opened =>
    if s.cau.owner = some a.port then (s.freeSet (.discarded .command)).reply a .done []
    else s.reply a .refusedRole []
  | .proposed =>
    if s.cau.owner = some a.port then (s.freeSet (.discarded .command)).reply a .done []
    else s.reply a .refusedRole []
  | .accepted =>
    if s.cau.owner = some a.port then s.reply a .tooLate [] else s.reply a .refusedRole []

/-- The number of the next proposal: from 255 to 1 (R158). -/
def nextProposal (n : Nat) : Nat := if 255 ≤ n then 1 else n + 1

/-- The set is put forward (R158). -/
def State.proposeSet (s : State) : State :=
  ({ s with
    cau := { s.cau with
      number := nextProposal s.cau.number, state := .proposed, idleExpiry := none,
      proposalExpiry := some (s.seconds + 120) } }).raiseConfig .proposed s.cau.owner s.cau.items.length

/-- The data of a DONE PROPOSE and of an ACCEPTED ACCEPT: proposal number and item count. -/
def State.proposalUnits (s : State) : List (List Byte) :=
  [bytes1 s.cau.number, bytes1 s.cau.items.length]

/-- PROPOSE (R158). -/
def proposeCommand (a : Asked) (s : State) : State :=
  match s.cau.state with
  | .free => s.reply a .refusedState []
  | .opened =>
    if s.cau.owner = some a.port then s.proposeSet.reply a .done s.proposeSet.proposalUnits
    else s.reply a .refusedRole []
  | .proposed =>
    if s.cau.owner = some a.port then s.reply a .refusedState [] else s.reply a .refusedRole []
  | .accepted =>
    if s.cau.owner = some a.port then s.reply a .refusedState [] else s.reply a .refusedRole []

/-- The set is accepted (R159). -/
def State.acceptSet (s : State) : State :=
  ({ s with cau := { s.cau with state := .accepted, proposalExpiry := none } }).raiseConfig .accepted
    s.cau.owner s.cau.items.length

/-- An ACCEPT or REFUSE of a proposal that is not before the counterparty: TOO_LATE for the last
number, REFUSED_STATE for another (R159, R160). -/
def lateResult (n : Byte) (number : Nat) : Result :=
  if n.toNat = number then .tooLate else .refusedState

/-- ACCEPT (R159). -/
def acceptCommand (n : Byte) (a : Asked) (s : State) : State :=
  if n = 0 then s.replyRange a 0
  else
    match s.cau.state with
    | .free => s.reply a (lateResult n s.cau.number) []
    | .opened =>
      if s.cau.owner = some a.port then s.reply a .refusedRole []
      else s.reply a (lateResult n s.cau.number) []
    | .proposed =>
      if s.cau.owner = some a.port then s.reply a .refusedRole []
      else if n.toNat = s.cau.number then s.acceptSet.reply a .accepted s.acceptSet.proposalUnits
      else s.reply a .refusedState []
    | .accepted =>
      if s.cau.owner = some a.port then s.reply a .refusedRole [] else s.reply a .refusedState []

/-- REFUSE (R160). -/
def refuseCommand (n : Byte) (a : Asked) (s : State) : State :=
  if n = 0 then s.replyRange a 0
  else
    match s.cau.state with
    | .free => s.reply a (lateResult n s.cau.number) []
    | .opened =>
      if s.cau.owner = some a.port then s.reply a .refusedRole []
      else s.reply a (lateResult n s.cau.number) []
    | .proposed =>
      if s.cau.owner = some a.port then s.reply a .refusedRole []
      else if n.toNat = s.cau.number then (s.freeSet .refused).reply a .done []
      else s.reply a .refusedState []
    | .accepted =>
      if s.cau.owner = some a.port then s.reply a .refusedRole []
      else s.reply a (lateResult n s.cau.number) []

/-! ## Expiries, RESTART and master silence (R157, R161, R162) -/

/-- The idle expiry of an OPEN set (R157). -/
def State.expireIdle (s : State) : State :=
  match s.cau.state, s.cau.idleExpiry with
  | .opened, some e => (s.reach (tickTime e)).freeSet (.expired .idle)
  | _, _ => s

/-- The proposal expiry of a PROPOSED set (R161). -/
def State.expireProposal (s : State) : State :=
  match s.cau.state, s.cau.proposalExpiry with
  | .proposed, some e => (s.reach (tickTime e)).freeSet (.expired .proposal)
  | _, _ => s

/-- A set that is not FREE is discarded by RESTART (R162). -/
def State.restartSet (s : State) : State :=
  if s.cau.state = .free then s else s.freeSet (.discarded .restart)

/-- The master-silence expiry of a port discards the set that its master owns (R162). -/
def State.silenceSet (port : Port) (s : State) : State :=
  if s.cau.state ≠ .free ∧ s.cau.owner = some port then s.freeSet (.discarded .silence) else s

/-! ## The result table (R163) -/

/-- A configuration: the configured parts of the tables and the site parameters (R152). -/
structure Configuration where
  stations : List StationCfg
  piles : List PileCfg
  zones : List ZoneCfg
  paths : List PathCfg
  site : SiteParams
  deriving DecidableEq, Repr

/-- The configuration in force (R152). -/
def State.inForce (s : State) : Configuration :=
  { stations := s.srg.stations.map (fun x => x.cfg)
    piles := s.spm.piles.map (fun p => p.cfg)
    zones := s.zwc.zones.map (fun z => z.cfg)
    paths := s.rke.paths.map (fun p => p.cfg)
    site := s.cau.site }

/-- The order of a path's configured part. -/
def PathCfg.order (c : PathCfg) : Nat := pathOrder c.pile c.zone

/-- The target of a removal dropped (R163 step 2). -/
def Configuration.drop (k : ItemKey) (c : Configuration) : Configuration :=
  match k with
  | .station slot => { c with stations := removeKey (fun x => x.slot) slot c.stations }
  | .pile n => { c with piles := removeKey (fun x => x.pile) n c.piles }
  | .zone n => { c with zones := removeKey (fun x => x.zone) n c.zones }
  | .path p z => { c with paths := removeKey PathCfg.order (pathOrder p z) c.paths }
  | .site => c

/-- Step 2 of R163 for one item. -/
def Configuration.takeOut (c : Configuration) (x : Item) : Configuration :=
  match x with
  | .remove k => c.drop k
  | .station _ => c
  | .pile _ => c
  | .zone _ => c
  | .path _ => c
  | .site _ => c

/-- Step 3 of R163 for one item: written over its key. -/
def Configuration.write (c : Configuration) (x : Item) : Configuration :=
  match x with
  | .remove _ => c
  | .station y => { c with stations := insertKey (fun x => x.slot) y c.stations }
  | .pile y => { c with piles := insertKey (fun x => x.pile) y c.piles }
  | .zone y => { c with zones := insertKey (fun x => x.zone) y c.zones }
  | .path y => { c with paths := insertKey PathCfg.order y c.paths }
  | .site p => { c with site := p }

/-- The result table of the items (R163). -/
def Configuration.result (items : List Item) (c : Configuration) : Configuration :=
  items.foldl Configuration.write (items.foldl Configuration.takeOut c)

/-! ## The checks (R164) -/

/-- The key is configured. -/
def Configuration.has (c : Configuration) : ItemKey → Bool
  | .station slot => c.stations.any (fun x => x.slot == slot)
  | .pile n => c.piles.any (fun x => x.pile == n)
  | .zone n => c.zones.any (fun x => x.zone == n)
  | .path p z => c.paths.any (fun x => x.pile == p && x.zone == z)
  | .site => true

/-- The kind configured in a slot. -/
def Configuration.kindAt (c : Configuration) (slot : Nat) : Option Kind :=
  (findKey (fun x => x.slot) slot c.stations).map (fun x => x.kind)

/-- A pile names a slot as assigned or fallback mast. -/
def PileCfg.names (p : PileCfg) (slot : Nat) : Bool := p.assigned == slot || p.fallback == some slot

/-- The slot is named as a mast by a pile, or as a monitor by a zone (R164). -/
def Configuration.inUse (c : Configuration) (slot : Nat) : Bool :=
  c.piles.any (fun p => p.names slot) || c.zones.any (fun z => z.monitors.contains slot)

/-- Every pile that names the slot finds a MAST, every zone that names it finds a DUST (R164). -/
def Configuration.kindServes (c : Configuration) (slot : Nat) (k : Kind) : Bool :=
  c.piles.all (fun p => !p.names slot || k == .mast)
    && c.zones.all (fun z => !z.monitors.contains slot || k == .dust)

/-- The zone's level is CLEAR (R164). -/
def State.zoneClear (n : Nat) (s : State) : Bool :=
  match s.zone n with
  | none => true
  | some z => z.level == .clear

/-- The checks of a removal (R164): `c` is in force, `t` is the result table. -/
def State.removeChecks (s : State) (c t : Configuration) (k : ItemKey) : List (Bool × ApplyReason) :=
  (c.has k, ApplyReason.noTarget) ::
    (match k with
     | .zone n => [(s.zoneClear n, .zoneNotClear), (t.paths.all (fun x => x.zone != n), .orphanPath)]
     | .pile n => [(t.paths.all (fun x => x.pile != n), .orphanPath)]
     | .station slot => [(!t.inUse slot, .stationInUse)]
     | .path _ _ => []
     | .site => [])

/-- The checks of a STATION item (R164). -/
def stationChecks (t : Configuration) (y : StationCfg) : List (Bool × ApplyReason) :=
  [(t.stations.all (fun x => x.slot == y.slot || x.identity != y.identity), .dupIdentity),
   (t.stations.all (fun x => x.slot == y.slot || x.ring != y.ring), .dupPosition),
   (t.kindServes y.slot y.kind, .stationInUse)]

/-- The checks of a PILE item (R164). -/
def pileChecks (t : Configuration) (y : PileCfg) : List (Bool × ApplyReason) :=
  [(t.kindAt y.assigned == some .mast
      && (match y.fallback with
          | none => true
          | some slot => t.kindAt slot == some .mast), .pileMast)]

/-- The checks of a ZONE item (R164). -/
def zoneChecks (t : Configuration) (y : ZoneCfg) : List (Bool × ApplyReason) :=
  [(decide (y.tWatch < y.tWarn) && decide (y.tWarn < y.tAlert) && decide (y.hy < y.tWatch), .zoneOrder),
   (y.monitors.all (fun slot => t.kindAt slot == some .dust), .zoneMonitor)]

/-- The checks of a PATH item (R164). -/
def pathChecks (t : Configuration) (y : PathCfg) : List (Bool × ApplyReason) :=
  [(t.has (.pile y.pile) && t.has (.zone y.zone), .orphanPath)]

/-- The checks of a SITE item (R164): Span at most U0 - 30, T_parch below T_damp. -/
def siteChecks (y : SiteParams) : List (Bool × ApplyReason) :=
  [(decide (y.span + 30 ≤ y.u0) && decide (y.tParch < y.tDamp), .siteOrder)]

/-- The checks of an item, in the order of R164. -/
def State.itemChecks (s : State) (c t : Configuration) (x : Item) : List (Bool × ApplyReason) :=
  match x with
  | .remove k => s.removeChecks c t k
  | .station y => stationChecks t y
  | .pile y => pileChecks t y
  | .zone y => zoneChecks t y
  | .path y => pathChecks t y
  | .site y => siteChecks y

/-- The reason of the first check that fails. -/
def firstFailure : List (Bool × ApplyReason) → Option ApplyReason
  | [] => none
  | (good, r) :: rest => if good then firstFailure rest else some r

/-- The first item, counted from `n`, with a check that fails (R164). -/
def State.failingItem (s : State) (c t : Configuration) : Nat → List Item → Option (ApplyReason × Nat)
  | _, [] => none
  | n, x :: rest =>
    match firstFailure (s.itemChecks c t x) with
    | some r => some (r, n)
    | none => s.failingItem c t (n + 1) rest

/-- The index, counted from `n`, of the last item that meets a condition; `best` is the last so far. -/
def lastIndex (f : Item → Bool) : Nat → Nat → List Item → Nat
  | _, best, [] => best
  | n, best, x :: rest => lastIndex f (n + 1) (if f x then n else best) rest

/-- The item puts a path. -/
def Item.putsPath : Item → Bool
  | .path _ => true
  | .station _ => false
  | .pile _ => false
  | .zone _ => false
  | .site _ => false
  | .remove _ => false

/-- The number of stations of a kind. -/
def Configuration.kindCount (c : Configuration) (k : Kind) : Nat :=
  (c.stations.filter (fun x => x.kind == k)).length

/-- The most stations of a kind (section 4 of the overview, R164). -/
def kindLimit : Kind → Nat
  | .mast => 16
  | .dust => 32
  | .gauge => 8

/-- The kind is over its limit. -/
def Configuration.overLimit (c : Configuration) (k : Kind) : Bool := decide (kindLimit k < c.kindCount k)

/-- The item puts a station of a kind that is over its limit. -/
def Item.putsOver (t : Configuration) : Item → Bool
  | .station y => t.overLimit y.kind
  | .pile _ => false
  | .zone _ => false
  | .path _ => false
  | .site _ => false
  | .remove _ => false

/-- The two checks over the whole result table (R164). -/
def tableFailure (t : Configuration) (items : List Item) : Option (ApplyReason × Nat) :=
  if 128 < t.paths.length then some (.pathLimit, lastIndex Item.putsPath 1 0 items)
  else if t.overLimit .mast || t.overLimit .dust || t.overLimit .gauge then
    some (.kindLimit, lastIndex (Item.putsOver t) 1 0 items)
  else none

/-- The check of the pending set (R164): the reason and the failing item's index, or none. -/
def State.checkSet (s : State) : Option (ApplyReason × Nat) :=
  let t := s.inForce.result s.cau.items
  match s.failingItem s.inForce t 1 s.cau.items with
  | some x => some x
  | none => tableFailure t s.cau.items

/-! ## The apply (R163, R165, R166) -/

/-- Kind and identity of the station in a slot. -/
def State.occupant (slot : Nat) (s : State) : Option (Kind × Identity) :=
  (s.station slot).map (fun x => (x.cfg.kind, x.cfg.identity))

/-- A slot's change of occupant at the WGT and the SPM (R66, R85). -/
def State.changeOccupant (slot : Nat) (before after : Option (Kind × Identity)) (s : State) : State :=
  ((s.applyMast slot before after).applyGauge slot before after).applyMonitor slot before after

/-- A removal reaches the blocks (R40, R66, R85, R109, R132). -/
def State.applyRemoval (k : ItemKey) (s : State) : State :=
  match k with
  | .station slot => (s.dropStation slot).changeOccupant slot (s.occupant slot) none
  | .pile n => (s.dropPile n).dropWind n
  | .zone n => (s.dropZone n).dropZoneResult n
  | .path p z => s.dropPath p z
  | .site => s

/-- The removals are taken first (R163). -/
def State.applyOut (s : State) (x : Item) : State :=
  match x with
  | .remove k => s.applyRemoval k
  | .station _ => s
  | .pile _ => s
  | .zone _ => s
  | .path _ => s
  | .site _ => s

/-- A put reaches the blocks (R40, R66, R85, R109, R132, R166). -/
def State.applyPut (s : State) (x : Item) : State :=
  match x with
  | .remove _ => s
  | .station y =>
    (s.applyStation y).changeOccupant y.slot (s.occupant y.slot) (some (y.kind, y.identity))
  | .pile y => (s.applyPile y).applyWind y
  | .zone y => (s.applyZone y).applyZoneResult y
  | .path y => s.applyPath y
  | .site p => { s with cau.site := p }

/-- The items applied: removals, then puts, each in staging order (R163, R166). -/
def State.applyItems (items : List Item) (s : State) : State :=
  items.foldl State.applyPut (items.foldl State.applyOut s)

/-- An apply that passes its checks (R166): the blocks, the CONFIG entry, the notice APPLIED. -/
def State.applyGood (s : State) : State :=
  ((s.applyItems s.cau.items).record (.config s.cau.number s.cau.owner s.cau.items.length)).freeSet .applied

/-- The CAU at a round close (R163, R165, R166). -/
def State.applySet (s : State) : State :=
  match s.cau.state with
  | .accepted =>
    (match s.checkSet with
     | some (r, i) => s.freeSet (.applyFailed r i)
     | none => s.applyGood)
  | .free => s
  | .opened => s
  | .proposed => s

end Sys2Proof.Machine
end

