-- ==== Sys2Proof/Machine/Loop.lean ====
section
/-! DEFINITION. The Field Loop Controller (chapter 1): listening, the rounds and their beacons, the
checks on copies, slot verdicts, the announce merge, the ring-break estimate and the mode decision. -/

namespace Sys2Proof.Machine

/-! ## Notices (R22) -/

/-- A LOOP notice of the FLC as it stands, with the round number that R22 gives the change. -/
def Flc.notice (round : Round) (f : Flc) : LoopNotice :=
  { mode := f.mode, reasons := f.reasons, halt := f.halt, attempts := f.attempts, round := round,
    breakA := f.breakA, breakB := f.breakB }

/-- A LOOP notice (R22). -/
def State.raiseLoop (cls : NoticeClass) (round : Round) (s : State) : State :=
  s.raise cls (.loop (s.flc.notice round))

/-! ## LISTEN (R14 to R16) -/

/-- The length of a listen period, 2 s (R14). -/
def listenTime : Time := 2000000

/-- The length of a back-off, 1 s (R15). -/
def backOffTime : Time := 1000000

/-- A foreign beacon heard (R15): one start attempt less, then HALTED or a back-off. -/
def State.hearForeign (s : State) : State :=
  match s.flc.mode, s.flc.listen with
  | .listen, some (.listening _) =>
    if s.flc.attempts - 1 = 0 then
      ({ s with
        flc := { s.flc with
          attempts := 0, mode := .halted, listen := none, halt := some .foreignBeacon } }).raiseLoop
            .urgent 0
    else
      ({ s with
        flc := { s.flc with
          attempts := s.flc.attempts - 1, listen := some (.backOff (s.now + backOffTime)) } }).raiseLoop
            .routine 0
  | _, _ => s

/-- The back-off ends and a new listen period starts (R15). -/
def State.endBackOff (s : State) : State :=
  match s.flc.mode, s.flc.listen with
  | .listen, some (.backOff e) =>
    { s.reach e with flc.listen := some (.listening (e + listenTime)) }
  | _, _ => s

/-! ## The start of a round (R1, R2, R4, R28) -/

/-- A place is free in the admission queue after the grants of this beacon (R4). -/
def windowOpen (queue : List Nat) : Bool := decide (queue.length < 8)

/-- The FLC at the start of a round (R1, R4): the windows start anew and the beacon is fixed; the
running counts and the foreign-beacon flag carry what the quiet gap brought (R3, R11). -/
def Flc.begin (round : Round) (start : Time) (b : Beacon) (f : Flc) : Flc :=
  { f with
    round := round
    progress := some { start := start, phaseB := false, slotsEnded := 0, closed := false }
    beacon := some b
    echoAB := false
    echoBA := false
    taken := []
    announced := []
    announces := []
    verdicts := [] }

/-- The grants that the beacon of a new round carries: identity and slot (R4, R28). -/
def State.beaconGrants (s : State) : List (Identity × Nat) :=
  s.grantsReady.map (fun slot => (s.identityAt slot, slot))

/-- A round starts (R1, R4): grants, then revocations are taken from the SRG, and the beacon is built. -/
def State.beginRound (round : Round) (start : Time) (s : State) : State :=
  let granted := s.handGrants round
  let revoked := granted.handRevocations
  { revoked with
    flc := revoked.flc.begin round start
      { round := round.truncate 16
        mode := revoked.flc.mode
        epoch := revoked.wrl.epoch
        openWindow := windowOpen granted.srg.queue
        grants := s.beaconGrants
        revocations := granted.srg.revocations.take 2 } }

/-- The listen period ends without a foreign beacon (R16): RUNNING, and round 0 begins at once. -/
def State.endListen (s : State) : State :=
  match s.flc.mode, s.flc.listen with
  | .listen, some (.listening e) =>
    let s1 := s.reach e
    (({ s1 with flc := { s1.flc with mode := .running, listen := none } }).beginRound 0 e).raiseLoop
      .routine 0
  | _, _ => s

/-- The length of a round, 250 ms (R1). -/
def roundTime : Time := 250000

/-- The quiet gap ends and the next round begins (R1, R2). -/
def State.startRound (s : State) : State :=
  match s.flc.progress with
  | none => s
  | some p =>
    if s.flc.mode.runs && p.closed then
      (s.reach (p.start + roundTime)).beginRound (s.flc.round + 1) (p.start + roundTime)
    else s

/-- The beginning of phase B-out, 2.5 ms into the round (R5). -/
def phaseBTime : Time := 2500

/-- Phase B-out begins (R5): the beacon goes out on side B, and side A receives. -/
def State.startPhaseB (s : State) : State :=
  match s.flc.progress with
  | none => s
  | some p =>
    if s.flc.mode.runs && !p.phaseB && !p.closed && p.slotsEnded == 0 then
      { s.reach (p.start + phaseBTime) with flc.progress := some { p with phaseB := true } }
    else s

/-! ## Copies (R5 to R11) -/

/-- The window is the one that runs (R1), as far as the ends taken so far say.  The ends of slots that are
not configured need not be taken, so slot `n` runs from the end of any slot before it and the admission
window from the start of the round on (DESIGN CHOICE, log entry 17). -/
def Progress.inWindow (p : Progress) : Window → Bool
  | .phaseA => !p.phaseB && !p.closed && p.slotsEnded == 0
  | .phaseB => p.phaseB && !p.closed && p.slotsEnded == 0
  | .slot n => decide (p.slotsEnded < n) && !p.closed
  | .admission => !p.closed
  | .quietGap => p.closed

/-- A side receives in a window: not while the coordinator transmits on it (R5). -/
def sideReceives (side : Side) : Window → Bool
  | .phaseA => side == .b
  | .phaseB => side == .a
  | .slot _ => true
  | .admission => true
  | .quietGap => true

/-- A copy that completes before the end of its window arrives while that window runs (log entry 17). -/
def Progress.receives (side : Side) (w : Window) (e : CopyEnd) (p : Progress) : Bool :=
  sideReceives side w && (e != .inWindow || p.inWindow w)

/-- One more copy of a class (R12). -/
def Counts.add (c : CopyClass) (k : Counts) : Counts :=
  match c with
  | .valid => { k with valid := countTo 255 k.valid }
  | .syntaxError => { k with syntaxErrors := countTo 255 k.syntaxErrors }
  | .contentError => { k with content := countTo 255 k.content }
  | .boundaryViolation => { k with boundary := countTo 255 k.boundary }

/-- `n` copies moved from valid to content (R12). -/
def Counts.reclass (n : Nat) (k : Counts) : Counts :=
  { k with valid := k.valid - n, content := min 255 (k.content + n) }

/-- The counting interval of a copy, seen from the round in progress: the one that runs, the last one
that a round close has ended, or an earlier one, whose counts are no longer held. -/
inductive Interval where
  | running
  | last
  | earlier
  deriving DecidableEq, Repr

/-- The interval that was open `back` round closes ago. -/
def intervalBack (back : Nat) : Interval :=
  match back with
  | 0 => .running
  | 1 => .last
  | _ => .earlier

/-- The counting interval that holds the opening flag of a copy (R3, R7): it ends at the round close of
the window's round, and the quiet gap belongs to the interval of the round that follows.  A copy that
completes after its round opened in the round before the one in progress (DESIGN CHOICE, log entry 17). -/
def Progress.interval (w : Window) (e : CopyEnd) (p : Progress) : Interval :=
  intervalBack ((if p.closed then 1 else 0) + (if e = .afterRound then 1 else 0)
    - (if w = .quietGap then 1 else 0))

/-- A copy counted on its side, in the counts of the round whose interval holds its opening flag (R7). -/
def Flc.countCopy (side : Side) (w : Window) (e : CopyEnd) (c : CopyClass) (f : Flc) : Flc :=
  match f.progress.map (Progress.interval w e) with
  | some .running => { f with running := f.running.upd (Counts.add c) side }
  | some .last => { f with last := f.last.upd (Counts.add c) side }
  | some .earlier => f
  | none => f

/-- A BEACON copy judged against the beacon sent (R6, R11). -/
def Flc.judgeBeacon (side : Side) (w : Window) (content : List Byte) (f : Flc) : CopyClass × Flc :=
  if f.beacon.map Beacon.content = some content then
    match side, w with
    | .b, .phaseA => (.valid, { f with echoAB := true })
    | .a, .phaseB => (.valid, { f with echoBA := true })
    | _, _ => (.boundaryViolation, f)
  else (.valid, { f with foreignHeard := true })

/-- The content checks of a slot (R8). -/
def stationMatches (cfg : Option StationCfg) (x : StationFrame) : Bool :=
  match cfg with
  | none => false
  | some c => x.identity == c.identity && x.reading.kind == c.kind

/-- A STATION copy that begins in slot `n` (R8). -/
def Flc.judgeStation (side : Side) (n : Nat) (cfg : Option StationCfg) (x : StationFrame) (f : Flc) :
    CopyClass × Flc :=
  if f.taken.any (fun t => t.slot == n && t.side == side) then (.contentError, f)
  else
    (if stationMatches cfg x then .valid else .contentError,
     { f with taken := f.taken ++ [{ slot := n, side := side, frame := x, ok := stationMatches cfg x }] })

/-- The beacon of the round says that the admission window is open (R10). -/
def Flc.admits (f : Flc) : Bool := (f.beacon.map (fun b => b.openWindow)).getD false

/-- An ANNOUNCE copy that begins in the admission window (R10). -/
def Flc.judgeAnnounce (side : Side) (i : Identity) (kindByte : Byte) (f : Flc) : CopyClass × Flc :=
  if !f.admits then (.contentError, f)
  else if f.announced.contains (side, i) then (.contentError, f)
  else
    let f1 := { f with announced := f.announced ++ [(side, i)] }
    if i = 0 then (.contentError, f1)
    else
      match kindOfCode kindByte.toNat with
      | none => (.contentError, f1)
      | some k =>
        (.valid, { f1 with announces := f1.announces ++ [{ side := side, identity := i, kind := k }] })

/-- The boundary check (R7): a copy that does not complete in its window, and in the quiet gap every
copy without the BEACON frame-kind code. -/
def boundaryCopy (w : Window) (e : CopyEnd) (bytes : List Byte) : Bool :=
  e != .inWindow || (w == .quietGap && bytes.head? != some beaconCode)

/-- The checks of a copy in their order (R7, R8, R10, R11).  A BEACON copy that begins in a slot after the copy
taken there is judged by R11, as R7 sends every BEACON copy, and not by R8 (DESIGN CHOICE, log entry 38). -/
def State.judgeCopy (side : Side) (w : Window) (e : CopyEnd) (bytes : List Byte) (s : State) :
    CopyClass × Flc :=
  if boundaryCopy w e bytes then (.boundaryViolation, s.flc)
  else
    match parseLoopCopy bytes with
    | none => (.syntaxError, s.flc)
    | some (.beacon content) => s.flc.judgeBeacon side w content
    | some (.station x) =>
      (match w with
       | .slot n => s.flc.judgeStation side n ((s.station n).map (fun y => y.cfg)) x
       | _ => (.contentError, s.flc))
    | some (.announce i k) =>
      (match w with
       | .admission => s.flc.judgeAnnounce side i k
       | _ => (.contentError, s.flc))

/-- A copy while rounds run (R7, R12). -/
def State.roundCopy (side : Side) (w : Window) (e : CopyEnd) (bytes : List Byte) (s : State) : State :=
  match s.flc.progress with
  | none => s
  | some p =>
    if p.receives side w e then
      let (c, f) := s.judgeCopy side w e bytes
      { s with flc := f.countCopy side w e c }
    else s

/-- A copy in a listen period (R14): framing and CRC are checked, and a BEACON is foreign. -/
def State.listenCopy (bytes : List Byte) (s : State) : State :=
  match deframe bytes with
  | some (k :: _) => if k = beaconCode then s.hearForeign else s
  | _ => s

/-- A frame copy on a side, by the loop mode (R7, R14, R15, R20). -/
def State.takeCopy (side : Side) (w : Window) (e : CopyEnd) (bytes : List Byte) (s : State) : State :=
  match s.flc.mode with
  | .listen => s.listenCopy bytes
  | .running => s.roundCopy side w e bytes
  | .degraded => s.roundCopy side w e bytes
  | .halted => s

/-! ## The end of a slot (R9) -/

/-- The frame of a side's valid copy in a slot. -/
def Flc.validCopy (n : Nat) (side : Side) (f : Flc) : Option StationFrame :=
  (f.taken.find? (fun t => t.slot == n && t.side == side && t.ok)).map (fun t => t.frame)

/-- The verdict of a slot (R9). -/
inductive Verdict where
  | delivered (frame : StationFrame) (heardA heardB : Bool)
  | missing
  | clash
  deriving DecidableEq, Repr

/-- The merge of the two sides (R9); a clash is a missing verdict whose copies are reclassified. -/
def mergeCopies : Option StationFrame → Option StationFrame → Verdict
  | some x, none => .delivered x true false
  | none, some y => .delivered y false true
  | some x, some y => if x = y then .delivered x true true else .clash
  | none, none => .missing

/-- `n` copies of each side moved from valid to content in the running counts (R12). -/
def Flc.reclassBoth (n : Nat) (f : Flc) : Flc :=
  { f with running := { a := f.running.a.reclass n, b := f.running.b.reclass n } }

/-- A delivered verdict kept for the ring-break estimate (R13). -/
def State.noteVerdict (v : RoundVerdict) (s : State) : State :=
  { s with flc.verdicts := s.flc.verdicts ++ [v] }

/-- The verdict passed to the SRG, and kept for the ring-break estimate when it is delivered (R9, R13). -/
def State.passVerdict (n ring : Nat) (v : Verdict) (s : State) : State :=
  match v with
  | .delivered x hA hB =>
    (s.noteVerdict { ring := ring, heardA := hA, heardB := hB }).delivered n x hA hB
  | .missing => s.missed n
  | .clash => ({ s with flc := s.flc.reclassBoth 1 }).missed n

/-- The end of slot `n` after the start of the round (R1). -/
def slotEndTime (n : Nat) : Time := 5000 + 4000 * n

/-- A slot ends (R9); a slot that is not configured passes no verdict. -/
def State.endSlot (n : Nat) (s : State) : State :=
  match s.flc.progress with
  | none => s
  | some p =>
    if s.flc.mode.runs && p.inWindow (.slot n) && decide (n ≤ 48) then
      let s1 : State := { s.reach (p.start + slotEndTime n) with flc.progress := some { p with slotsEnded := n } }
      match s1.station n with
      | none => s1
      | some x => s1.passVerdict n x.cfg.ring (mergeCopies (s1.flc.validCopy n .a) (s1.flc.validCopy n .b))
    else s

/-! ## The round close of the FLC (R3) -/

/-- The copies of an identity on the other side. -/
def otherCopy (l : List AnnounceCopy) (x : AnnounceCopy) : Option AnnounceCopy :=
  l.find? (fun y => y.identity == x.identity && y.side != x.side)

/-- The first copy of every identity, in order of completion (R10). -/
def firstCopies : List AnnounceCopy → List Identity → List AnnounceCopy
  | [], _ => []
  | x :: rest, seen =>
    if x.identity ∈ seen then firstCopies rest seen
    else x :: firstCopies rest (x.identity :: seen)

/-- The announce of an identity; differing kinds on the two sides give none (R10). -/
def announceOf (l : List AnnounceCopy) (x : AnnounceCopy) : Option Announce :=
  match otherCopy l x with
  | none =>
    some { identity := x.identity, kind := x.kind, heardA := x.side == .a, heardB := x.side == .b }
  | some y =>
    if y.kind = x.kind then some { identity := x.identity, kind := x.kind, heardA := true, heardB := true }
    else none

/-- The round's announces in their order (R10). -/
def mergedAnnounces (l : List AnnounceCopy) : List Announce := (firstCopies l []).filterMap (announceOf l)

/-- The number of identities whose two copies differ in kind (R10). -/
def announceClashes (l : List AnnounceCopy) : Nat :=
  ((firstCopies l []).filter (fun x => (announceOf l x).isNone)).length

/-- The highest of a list. -/
def highestOf : List Nat → Option Nat
  | [] => none
  | n :: rest =>
    match highestOf rest with
    | none => some n
    | some m => some (max n m)

/-- The lowest of a list. -/
def lowestOf : List Nat → Option Nat
  | [] => none
  | n :: rest =>
    match lowestOf rest with
    | none => some n
    | some m => some (min n m)

/-- Last A position (R13). -/
def lastA (vs : List RoundVerdict) : Option Nat :=
  highestOf ((vs.filter (fun v => v.heardA && !v.heardB)).map (fun v => v.ring))

/-- First B position (R13). -/
def firstB (vs : List RoundVerdict) : Option Nat :=
  lowestOf ((vs.filter (fun v => v.heardB && !v.heardA)).map (fun v => v.ring))

/-- An echo consecutive-miss counter at a round close (R6). -/
def missAfter (present : Bool) (n : Nat) : Nat := if present then 0 else countTo 3 n

/-- A side was noisy in the round (R12). -/
def Counts.noisy (k : Counts) : Bool := decide (8 ≤ k.syntaxErrors)

/-- A consecutive-noisy counter at a round close (R12). -/
def noisyAfter (k : Counts) (n : Nat) : Nat := if k.noisy then countTo 3 n else 0

/-- The consecutive foreign-beacon count at a round close (R19). -/
def foreignAfter (heard : Bool) (n : Nat) : Nat := if heard then countTo 2 n else 0

/-- Steps 1 and 2 of R3: the announce merge's reclassifications, and the counts of the round. -/
def Flc.endCounts (f : Flc) : Flc :=
  let g := f.reclassBoth (announceClashes f.announces)
  { g with last := g.running, running := { a := Counts.zero, b := Counts.zero } }

/-- Step 4 of R3. -/
def Flc.estimate (f : Flc) : Flc := { f with breakA := lastA f.verdicts, breakB := firstB f.verdicts }

/-- The counters of step 5 of R3, from the counts of the round just ended. -/
def Flc.updateCounters (f : Flc) : Flc :=
  { f with
    missAB := missAfter f.echoAB f.missAB
    missBA := missAfter f.echoBA f.missBA
    noisy := { a := noisyAfter f.last.a f.noisy.a, b := noisyAfter f.last.b f.noisy.b }
    foreignCount := foreignAfter f.foreignHeard f.foreignCount
    foreignHeard := false }

/-- The reasons whose conditions hold (R17). -/
def Flc.conditions (f : Flc) : Reasons :=
  { ringOpen := f.missAB == 3 || f.missBA == 3, noisyA := f.noisy.a == 3, noisyB := f.noisy.b == 3 }

/-- Some reason stands in the set. -/
def Reasons.any (r : Reasons) : Bool := r.ringOpen || r.noisyA || r.noisyB

/-- The union of two sets. -/
def Reasons.union (x y : Reasons) : Reasons :=
  { ringOpen := x.ringOpen || y.ringOpen, noisyA := x.noisyA || y.noisyA, noisyB := x.noisyB || y.noisyB }

/-- A clean round (R18). -/
def Flc.clean (f : Flc) : Bool := f.echoAB && f.echoBA && !f.last.a.noisy && !f.last.b.noisy

/-- The recovery count after a round (R18). -/
def Flc.recoveryAfter (f : Flc) : Nat := if f.clean then f.recovery + 1 else 0

/-- The decision in RUNNING (R17), with the class of its LOOP notice. -/
def Flc.decideRunning (f : Flc) : Flc × Option NoticeClass :=
  if f.conditions.any then
    ({ f with mode := .degraded, reasons := f.conditions, recovery := 0 }, some .urgent)
  else (f, none)

/-- The decision in DEGRADED (R18), with the class of its LOOP notice. -/
def Flc.decideDegraded (f : Flc) : Flc × Option NoticeClass :=
  let reasons := f.reasons.union f.conditions
  if 40 ≤ f.recoveryAfter then
    ({ f with mode := .running, reasons := .empty, recovery := 0 }, some .routine)
  else
    ({ f with reasons := reasons, recovery := f.recoveryAfter },
     if reasons = f.reasons then none else some .urgent)

/-- The checks of R17 and R18 by the mode. -/
def Flc.decide (f : Flc) : Flc × Option NoticeClass :=
  match f.mode with
  | .running => f.decideRunning
  | .degraded => f.decideDegraded
  | .listen => (f, none)
  | .halted => (f, none)

/-- The FLC halts at a round close (R19). -/
def Flc.haltLoop (f : Flc) : Flc :=
  { f with mode := .halted, reasons := .empty, halt := some .foreignBeacon, progress := none, beacon := none }

/-- The mode decision of a round close with its one LOOP notice (R17 to R19, R22). -/
def State.decideMode (s : State) : State :=
  if 2 ≤ s.flc.foreignCount then
    ({ s with flc := s.flc.decide.1.haltLoop }).raiseLoop .urgent s.flc.round
  else
    match s.flc.decide with
    | (f, none) => { s with flc := f }
    | (f, some cls) => ({ s with flc := f }).raiseLoop cls s.flc.round

/-- The round close happens 229 ms into the round (R3). -/
def closeTime : Time := 229000

/-- The round-close work of the FLC in its order (R3), with the announces taken by the SRG and the grant
lapses after them (R27, R31). -/
def State.closeLoop (s : State) : State :=
  let announces := mergedAnnounces s.flc.announces
  let s1 := ({ s with flc := s.flc.endCounts }).takeAnnounces announces
  let s2 := s1.lapseGrants
  ({ s2 with flc := s2.flc.estimate.updateCounters }).decideMode

/-! ## RESTART (R21, R24) -/

/-- The FLC after a RESTART (R14, R21, R24). -/
def Flc.restarted (now : Time) (attempts : Nat) : Flc :=
  { Flc.afterPower with listen := some (.listening (now + listenTime)), attempts := attempts }

/-- RESTART at the FLC (R21). -/
def State.restartLoop (s : State) : State :=
  { s with flc := Flc.restarted s.now s.cau.site.attempts }

end Sys2Proof.Machine
end

