-- ==== Sys2Proof/Machine/Reports.lean ====
section
/-! DEFINITION. The read commands (R191, R192, R168, R189, R190): what each response holds, in order.
Entries of lists over configured things lead with their key (log entry 27). -/

namespace Sys2Proof.Machine

/-! ## Pieces -/

/-- An age as it is reported: 255 when it is 255 or more (R87). -/
def encAge (age : Option Nat) : List Byte := encOpt1 (age.map (fun n => min 255 n))

/-- The remaining seconds to an expiry, two bytes after the presence byte (R196; DESIGN CHOICE, log
entry 39). -/
def encLeft (clock : Seconds) (e : Option Seconds) : List Byte := encOpt2 (e.map (fun e => e - clock))

/-- A list inside a fixed part or an entry: the count byte, then the entries (R196). -/
def encList (entries : List (List Byte)) : List Byte := bytes1 entries.length ++ entries.flatten

/-! ## Loop, record and stations -/

/-- The counts of a side (R23). -/
def Counts.bytes (k : Counts) : List Byte :=
  bytes1 k.valid ++ bytes1 k.syntaxErrors ++ bytes1 k.content ++ bytes1 k.boundary

/-- The loop status fields (R23). -/
def Flc.report (f : Flc) : List Byte :=
  bytes1 f.mode.code ++ bytes1 f.reasons.code ++ encHalt f.halt ++ bytes1 f.attempts
    ++ bytes4 f.round.toNat ++ f.last.a.bytes ++ f.last.b.bytes
    ++ bytes1 f.missAB ++ bytes1 f.missBA ++ bytes1 f.noisy.a ++ bytes1 f.noisy.b
    ++ bytes1 f.recovery ++ encOpt0 f.breakA ++ encOpt0 f.breakB

/-- The loop part of STATUS (R191). -/
def Flc.statusPart (f : Flc) : List Byte :=
  bytes1 f.mode.code ++ bytes1 f.reasons.code ++ encHalt f.halt ++ bytes1 f.attempts
    ++ encOpt0 f.breakA ++ encOpt0 f.breakB

/-- The sequence number of the oldest held entry. -/
def Wrl.oldest (w : Wrl) : Seq := (w.entries.head?.map (fun e => e.seq)).getD 0

/-- The sequence number of the newest entry. -/
def Wrl.newest (w : Wrl) : Seq := (w.entries.getLast?.map (fun e => e.seq)).getD 0

/-- The record part of STATUS (R191). -/
def Wrl.statusPart (w : Wrl) : List Byte :=
  bytes4 w.newest.toNat ++ bytes4 w.oldest.toNat ++ bytes2 w.entries.length ++ bytes4 w.readPoint.toNat
    ++ encFlag w.gap.isSome ++ encOpt4 w.gap

/-- The live states in the order of R25. -/
def liveStates : List LiveState :=
  [.silent, .heard, .warming, .active, .suspect, .quieting, .lost, .returned]

/-- The station part of STATUS (R191). -/
def Srg.statusPart (g : Srg) : List Byte :=
  liveStates.flatMap (fun l => bytes1 (g.stations.filter (fun x => x.live == l)).length)
    ++ bytes1 g.queue.length ++ bytes1 g.strangers.length

/-- The place of a slot in a list, counted from `n`. -/
def placeIn (slot : Nat) : Nat → List Nat → Option Nat
  | _, [] => none
  | n, x :: rest => if x = slot then some n else placeIn slot (n + 1) rest

/-- One station of READ STATIONS (R42): every field of R25 except the fresh mark, the place in the
admission queue, 0 when absent (DESIGN CHOICE, log entry 39), and whether a revocation is listed. -/
def Station.report (g : Srg) (x : Station) : List Byte :=
  bytes1 x.cfg.slot ++ encFlag true ++ bytes3 x.cfg.identity.toNat ++ bytes1 x.cfg.kind.code
    ++ bytes1 x.cfg.ring ++ bytes1 x.live.code ++ encOpt4 x.grant ++ bytes1 x.warm ++ bytes1 x.missed
    ++ encOpt1 x.code ++ encOpt4 x.heardA ++ encOpt4 x.heardB
    ++ encFlag (g.queue.contains x.cfg.slot) ++ encOpt0 (placeIn x.cfg.slot 1 g.queue)
    ++ encFlag (g.revocations.contains x.cfg.slot)

/-- One stranger record of READ STRANGERS (R38, R42). -/
def Stranger.report (x : Stranger) : List Byte :=
  bytes3 x.identity.toNat ++ bytes1 x.kind.code ++ [x.firstEpoch] ++ bytes4 x.firstRound.toNat
    ++ bytes4 x.last.toNat ++ bytes1 x.count

/-! ## Wind (R68) -/

/-- The site part of the gust report (R68). -/
def State.windPart (s : State) : List Byte :=
  bytes4 (s.wgt.lastClose.getD s.flc.round).toNat ++ encOpt0 s.wgt.site.lead
    ++ encOpt2 s.wgt.site.leadMean ++ encOpt2 s.wgt.site.leadDir ++ bytes1 s.wgt.site.available
    ++ encFlag s.wgt.windBlind

/-- One mast summary (R54). -/
def Mast.report (m : Mast) : List Byte :=
  let x := m.summary
  bytes1 m.slot ++ bytes1 x.present ++ encFlag x.available ++ encOpt2 x.peak ++ encOpt2 x.gustDir
    ++ encOpt2 x.latestDir ++ encOpt2 x.mean ++ bytes1 x.disagree ++ encFlag x.doubtful
    ++ encOpt2 x.effGust ++ encOpt2 x.effLatest ++ encFlag x.gusting ++ encFlag x.heater
    ++ encFlag x.counted.isSome ++ encOpt0Wide x.counted

/-- One gust record with its member list (R55). -/
def Gust.report (g : Gust) : List Byte :=
  bytes2 g.id ++ bytes1 g.state.code ++ [g.openEpoch] ++ bytes4 g.openRound.toNat ++ bytes1 g.origin
    ++ bytes2 g.direction ++ bytes2 g.peak ++ encList (g.members.map bytes1)
    ++ bytes4 g.lastActive.toNat ++ encOpt4 g.closedRound ++ encFlag g.merged

/-! ## Site, piles, paths (R87, R111) -/

/-- One gauge record of the site dryness part (R87). -/
def Gauge.report (g : Gauge) : List Byte :=
  bytes1 g.slot
    ++ encOpt 3 (g.reading.map (fun r => bytes1 r.humidity ++ encFlag r.rain ++ encFlag r.heater))
    ++ encAge g.age ++ encFlag g.current

/-- One monitor hold of the site dryness part (R87). -/
def Monitor.report (m : Monitor) : List Byte :=
  bytes1 m.slot ++ encOpt2 (m.value.map (fun v => v.1)) ++ encAge m.age ++ encFlag m.current
    ++ encFlag m.heater ++ encFlag m.rangeHigh ++ encFlag m.goingQuiet

/-- The fixed part of the site dryness part of STATUS (R87); the pending band has a presence byte
(DESIGN CHOICE, log entry 39). -/
def Spm.statusPart (p : Spm) : List Byte :=
  bytes1 p.band.code ++ encOpt1 (p.pendingBand.map Band.code) ++ bytes1 p.persistence
    ++ bytes2 p.noGauge ++ bytes1 p.gaugesAtClose ++ encOpt1 p.lowestRh ++ encFlag p.rain

/-- The configured part of a pile (R79). -/
def PileCfg.bytes (c : PileCfg) : List Byte := bytes1 c.size ++ bytes1 c.assigned ++ encOpt0 c.fallback

/-- The pile wind record (R92, R111); the mast source and the basis have presence bytes (DESIGN CHOICE, log
entry 39). -/
def windBytes (c : Option WindChoice) : List Byte :=
  encOpt0 (c.map (fun c => c.mast)) ++ encOpt1 (c.map (fun c => c.source.code))
    ++ encOpt1 (c.map (fun c => c.basis.code)) ++ encOpt2 (c.map (fun c => c.direction))
    ++ encOpt0Wide (c.bind (fun c => c.gust))

/-- One pile of READ PILE: the SPM fields (R87), then the pile wind record (R111). -/
def State.pileReport (s : State) (p : Pile) : List Byte :=
  bytes1 p.cfg.pile ++ p.cfg.bytes ++ bytes1 p.dryness ++ bytes2 p.sub ++ bytes1 p.activity.code
    ++ encOpt 5 (p.wetting.map (fun w => [w.1] ++ bytes4 w.2.toNat)) ++ bytes1 p.advice.code
    ++ encOpt 9 (p.values.map (fun v => bytes2 v.u ++ bytes2 v.ut ++ bytes2 v.e ++ bytes3 v.emission))
    ++ encFlag p.estimated ++ windBytes (s.wind p.cfg.pile)

/-- The configured part of a path (R90). -/
def PathCfg.bytes (c : PathCfg) : List Byte :=
  bytes2 c.bearing ++ bytes1 c.halfWidth ++ bytes2 c.distance

/-- One path of READ PATHS (R90, R111). -/
def Path.report (p : Path) : List Byte :=
  bytes1 p.cfg.pile ++ bytes1 p.cfg.zone ++ p.cfg.bytes
    ++ encOpt1 (p.result.map (fun r => r.angle)) ++ encOpt2 (p.result.map (fun r => r.weight))
    ++ encOpt 4 (p.result.map (fun r => bytes4 r.share))

/-! ## Zones and lines (R135, R111, R149) -/

/-- The configured part of a zone (R113). -/
def ZoneCfg.bytes (c : ZoneCfg) : List Byte :=
  encList (c.monitors.map bytes1) ++ bytes2 c.tWatch ++ bytes2 c.tWarn ++ bytes2 c.tAlert ++ bytes1 c.hy
    ++ bytes1 c.dgWatch ++ bytes1 c.dgWarn ++ bytes1 c.dgAlert ++ bytes2 c.dwell ++ bytes3 c.fm
    ++ bytes2 c.fd ++ bytes2 c.background

/-- A floor with its remaining seconds (R135), under one presence byte (DESIGN CHOICE, log entry 39). -/
def floorBytes (clock : Seconds) (f : Option Floor) : List Byte :=
  encOpt 3 (f.map (fun f => bytes1 f.level.code ++ bytes2 (f.expiry - clock)))

/-- The components of the last delivery (R114). -/
def LastDelivery.bytes (d : LastDelivery) : List Byte :=
  bytes4 d.round.toNat ++ bytes2 d.risk ++ bytes2 d.modelled ++ bytes2 d.measured ++ encOpt0 d.dominant
    ++ encOpt0Wide d.gust

/-- The live part of a zone (R114), with remaining times in seconds (R135); the cause of the last level
change has a presence byte (DESIGN CHOICE, log entry 39). -/
def Zone.liveBytes (clock : Seconds) (z : Zone) : List Byte :=
  bytes1 z.level.code ++ bytes1 z.riseWatch ++ bytes1 z.riseWarn ++ bytes1 z.riseAlert ++ bytes2 z.dwell
    ++ floorBytes clock z.tFloor ++ floorBytes clock z.qFloor ++ bytes1 z.alert.code
    ++ encLeft clock z.silence ++ bytes1 z.service.code ++ encLeft clock z.testEnd
    ++ encFlag z.blind ++ encFlag z.noModel ++ encFlag z.dark
    ++ encOpt 13 (z.last.map LastDelivery.bytes) ++ bytes1 z.sign.code ++ bytes1 z.siren.code
    ++ encOpt1 (z.cause.map LevelCause.code) ++ encOpt4 z.levelSeq

/-- The output demand of a zone (R135). -/
def Zone.demandBytes (z : Zone) : List Byte := bytes1 z.sign.code ++ bytes1 z.siren.code

/-- One monitor result (R91). -/
def MonitorResult.bytes (m : MonitorResult) : List Byte :=
  bytes1 m.slot ++ encFlag m.index.isSome ++ encOpt2 m.net ++ encOpt2 m.index

/-- The zone result record (R91, R111). -/
def ZoneResult.bytes (r : ZoneResult) : List Byte :=
  encOpt4 r.round ++ bytes3 r.sum ++ encOpt0 r.dominant ++ encOpt0Wide r.gust ++ bytes2 r.modelled
    ++ bytes1 r.blindCount ++ encList (r.monitors.map MonitorResult.bytes) ++ bytes2 r.measured
    ++ encFlag r.blind ++ encFlag r.noModel ++ bytes2 r.risk

/-- The line data (R149). -/
def Line.report (clock : Seconds) (l : Line) : List Byte :=
  bytes1 l.demand.code ++ bytes1 l.state.code ++ encLeft clock l.retryEnd ++ bytes1 l.short
    ++ bytes1 l.clean ++ encFlag l.openFlag ++ encFlag (l.state == .on)

/-- The line data of a line by its number. -/
def State.lineUnit (n : Nat) (s : State) : List Byte :=
  match s.line n with
  | none => []
  | some l => l.report s.seconds

/-- One zone of STATUS (R135); the levels of the floors have presence bytes (DESIGN CHOICE, log entry 39). -/
def Zone.statusPart (z : Zone) : List Byte :=
  bytes1 z.cfg.zone ++ bytes1 z.level.code ++ bytes1 z.alert.code
    ++ encOpt1 (z.tFloor.map (fun f => f.level.code)) ++ encOpt1 (z.qFloor.map (fun f => f.level.code))
    ++ encFlag z.silence.isSome ++ bytes1 z.service.code ++ encFlag z.testEnd.isSome
    ++ encFlag z.blind ++ encFlag z.dark ++ encFlag z.noModel ++ encOpt2 (z.last.map (fun d => d.risk))

/-! ## Configuration (R168) -/

/-- The expiry present in the pending set (R168). -/
def Cau.expiry (c : Cau) : Option Seconds :=
  match c.idleExpiry with
  | some e => some e
  | none => c.proposalExpiry

/-- The header of the pending set (R168). -/
def State.setHeader (s : State) : List Byte :=
  bytes1 s.cau.state.code ++ encOwner s.cau.owner ++ bytes1 s.cau.number ++ bytes1 s.cau.items.length
    ++ encLeft s.seconds s.cau.expiry

/-- The item-kind code and the two key bytes of a key (11.3). -/
def ItemKey.kindCode : ItemKey → Nat
  | .station _ => 1
  | .pile _ => 2
  | .zone _ => 3
  | .path _ _ => 4
  | .site => 5

def ItemKey.bytes : ItemKey → List Byte
  | .station slot => bytes1 slot ++ bytes1 0
  | .pile n => bytes1 n ++ bytes1 0
  | .zone n => bytes1 n ++ bytes1 0
  | .path p z => bytes1 p ++ bytes1 z
  | .site => bytes1 0 ++ bytes1 0

/-- The fields of a STATION item (R153). -/
def StationCfg.bytes (c : StationCfg) : List Byte :=
  bytes3 c.identity.toNat ++ bytes1 c.kind.code ++ bytes1 c.ring

/-- The site parameters (R152). -/
def SiteParams.bytes (p : SiteParams) : List Byte :=
  bytes2 p.gThr ++ bytes1 p.gExc ++ bytes2 p.u0 ++ bytes2 p.span ++ bytes2 p.interval ++ bytes1 p.tDamp
    ++ bytes1 p.tParch ++ bytes1 p.hy ++ bytes1 p.attempts ++ bytes2 p.timeoutT ++ bytes2 p.timeoutQ

/-- The kind code of an item: REMOVE is 6 (11.3). -/
def Item.kindCode : Item → Nat
  | .station _ => 1
  | .pile _ => 2
  | .zone _ => 3
  | .path _ => 4
  | .site _ => 5
  | .remove _ => 6

/-- The fields of an item (R153); a REMOVE has its target kind. -/
def Item.fields : Item → List Byte
  | .station c => c.bytes
  | .pile c => c.bytes
  | .zone c => c.bytes
  | .path c => c.bytes
  | .site p => p.bytes
  | .remove k => bytes1 k.kindCode

/-- An item as READ CONFIG ITEM reports it (R168): kind, key and every field as staged. -/
def Item.report (x : Item) : List Byte := bytes1 x.kindCode ++ x.key.bytes ++ x.fields

/-- The item at an index, counted from 1. -/
def Cau.itemAt (n : Nat) (c : Cau) : Option Item := if n = 0 then none else c.items[n - 1]?

/-- The configured part in force for a key (R168). -/
def State.inForceBytes (k : ItemKey) (s : State) : Option (List Byte) :=
  match k with
  | .station slot => (s.station slot).map (fun x => encFlag true ++ x.cfg.bytes)
  | .pile n => (s.pile n).map (fun p => p.cfg.bytes)
  | .zone n => (s.zone n).map (fun z => z.cfg.bytes)
  | .path p z => (s.path p z).map (fun x => x.cfg.bytes)
  | .site => some s.cau.site.bytes

/-! ## Ports (R182) -/

/-- The number of queued notices and how many of them are URGENT (R182). -/
def PortState.queuePart (p : PortState) : List Byte :=
  bytes1 p.notices.length ++ bytes1 (p.notices.filter (fun x => x.cls == .urgent)).length

/-- The code of a master state, HEARD before SILENT (log entry 28). -/
def MasterState.code : MasterState → Nat
  | .heard => 1
  | .silent => 2

/-- The watchdog fields (R182). -/
def Watchdog.report (clock : Seconds) (w : Watchdog) : List Byte :=
  bytes1 w.master.code ++ bytes2 w.timeout ++ encLeft clock w.expiry

/-- The port part of STATUS (R182). -/
def State.portPart (port : Port) (s : State) : List Byte :=
  encFlag (s.pif.port port).dropped ++ s.pif.t.queuePart ++ s.pif.q.queuePart ++ s.pif.s.queuePart
    ++ s.pif.watchT.report s.seconds ++ s.pif.watchQ.report s.seconds

/-! ## The commands -/

/-- The parts of STATUS in their order (R191). -/
def State.statusUnits (port : Port) (s : State) : List (List Byte) :=
  [bytes4 s.seconds ++ [s.wrl.epoch] ++ bytes4 s.flc.round.toNat, s.flc.statusPart, s.wrl.statusPart,
   s.srg.statusPart, s.windPart, s.spm.statusPart]
    ++ listUnits (s.spm.gauges.map Gauge.report) ++ listUnits (s.spm.monitors.map Monitor.report)
    ++ [s.setHeader] ++ listUnits (s.zwc.zones.map Zone.statusPart)
    ++ s.oda.lines.map (Line.report s.seconds) ++ [s.portPart port]

/-- STATUS (R191): the response is formed, and forming it clears the asking port's flag (R178). -/
def statusCommand (a : Asked) (s : State) : State :=
  (s.updPort a.port (fun p => { p with dropped := false })).reply a .done (s.statusUnits a.port)

/-- The parts of READ ZONE (R192): the ZWC fields and the output demand, the RKE record, the two lines.
The configured part, the live part and the demand are three units, and the RKE record is one, with its monitor
results (DESIGN CHOICE, log entry 37). -/
def State.zoneUnits (z : Zone) (s : State) : List (List Byte) :=
  [z.cfg.bytes, z.liveBytes s.seconds, z.demandBytes,
   ((s.zoneResult z.cfg.zone).map ZoneResult.bytes).getD [],
   s.lineUnit (2 * z.cfg.zone - 1), s.lineUnit (2 * z.cfg.zone)]

/-- READ ZONE (R192). -/
def readZoneCommand (zone : Byte) (a : Asked) (s : State) : State :=
  if zoneInRange zone then
    match s.zone zone.toNat with
    | none => s.reply a .unknownItem []
    | some z => s.reply a .done (s.zoneUnits z)
  else s.replyRange a 0

/-- READ PILE (R192). -/
def readPileCommand (a : Asked) (s : State) : State :=
  s.reply a .done (listUnits (s.spm.piles.map s.pileReport))

/-- READ STATIONS (R42). -/
def readStationsCommand (a : Asked) (s : State) : State :=
  s.reply a .done (listUnits (s.srg.stations.map (Station.report s.srg)))

/-- READ STRANGERS (R42). -/
def readStrangersCommand (a : Asked) (s : State) : State :=
  s.reply a .done (listUnits (s.srg.strangers.map Stranger.report))

/-- READ GUSTS (R68). -/
def readGustsCommand (a : Asked) (s : State) : State :=
  s.reply a .done
    ([s.windPart] ++ listUnits (s.wgt.masts.map Mast.report) ++ listUnits (s.wgt.gusts.map Gust.report))

/-- READ PATHS (R111). -/
def readPathsCommand (a : Asked) (s : State) : State :=
  s.reply a .done (listUnits (s.rke.paths.map Path.report))

/-- READ LOOP (R23). -/
def readLoopCommand (a : Asked) (s : State) : State := s.reply a .done [s.flc.report]

/-- READ CONFIG ITEM with source PENDING (R168, R196).  Where the kind and the key are both out of range, the
response names the kind (DESIGN CHOICE, log entry 35). -/
def readPending (kind key1 key2 : Byte) (a : Asked) (s : State) : State :=
  if kind ≠ 0 then s.replyRange a 1
  else if key1 ≠ 0 ∨ 64 < key2.toNat then s.replyRange a 2
  else if key2 = 0 then s.reply a .done [s.setHeader]
  else
    match s.cau.itemAt key2.toNat with
    | none => s.reply a .unknownItem []
    | some x => s.reply a .done [x.report]

/-- READ CONFIG ITEM with source IN_FORCE (R168). -/
def readInForce (kind key1 key2 : Byte) (a : Asked) (s : State) : State :=
  if inRange 1 5 kind.toNat then
    match keyOf kind.toNat key1.toNat key2.toNat with
    | none => s.replyRange a 2
    | some k =>
      match s.inForceBytes k with
      | none => s.reply a .unknownItem []
      | some data => s.reply a .done [data]
  else s.replyRange a 1

/-- READ CONFIG ITEM (R168). -/
def readConfigItemCommand (source kind key1 key2 : Byte) (a : Asked) (s : State) : State :=
  if source = 0x01#8 then readPending kind key1 key2 a s
  else if source = 0x02#8 then readInForce kind key1 key2 a s
  else s.replyRange a 0

/-! ## The record (R189, R190, R197) -/

/-- The held entries from a sequence number onward. -/
def entriesFrom (n : Seq) : List Entry → List Entry
  | [] => []
  | e :: rest => if e.seq = n then e :: rest else entriesFrom n rest

/-- The entries that READ LOG NEXT delivers (R189). -/
def Wrl.nextEntries (w : Wrl) : List Entry := (entriesFrom w.readPoint w.entries).take 4

/-- The gap byte of segment 1, with first lost and first held while a gap is pending (R197). -/
def Wrl.gapBytes (w : Wrl) : List Byte :=
  match w.gap with
  | none => bytes1 0
  | some lost => bytes1 1 ++ bytes4 lost.toNat ++ bytes4 w.readPoint.toNat

/-- Entries cut into segments of at most 68 data bytes, each segment opening with a gap byte (R197). -/
def packEntries : List (List Byte) → List Byte → List (List Byte)
  | [], cur => [cur]
  | u :: rest, cur =>
    if cur.length + u.length ≤ 68 then packEntries rest (cur ++ u)
    else cur :: packEntries rest (bytes1 0 ++ u)

/-- The record after a READ LOG NEXT (R189). -/
def Wrl.afterNext (w : Wrl) : Wrl :=
  { w with readPoint := w.readPoint + BitVec.ofNat 32 w.nextEntries.length, gap := none }

/-- READ LOG NEXT (R189). -/
def readLogNextCommand (a : Asked) (s : State) : State :=
  ({ s with wrl := s.wrl.afterNext }).replySegments a .done
    (packEntries (s.wrl.nextEntries.map Entry.bytes) s.wrl.gapBytes)

/-- READ LOG AT (R190). -/
def readLogAtCommand (seq : Seq) (a : Asked) (s : State) : State :=
  match s.wrl.entries.find? (fun e => e.seq == seq) with
  | some e => s.reply a .done [e.bytes]
  | none => s.reply a .unknownItem [bytes4 s.wrl.oldest.toNat ++ bytes4 s.wrl.newest.toNat]

end Sys2Proof.Machine
end

