-- ==== Sys2Proof/Machine/Ports.lean ====
section
/-! DEFINITION. The Port Interface (chapter 9): receivers, the holding of commands, how a command is
judged and handed to its owner, the watchdogs, RESTART, and the round close of all blocks together. -/

namespace Sys2Proof.Machine

/-! ## RESTART (R181, R187) -/

/-- RESTART at the WRL (R187): the epoch increases, then MARK RESTART is written. -/
def State.markRestart (port : Port) (s : State) : State :=
  ({ s with wrl := { s.wrl with epoch := s.wrl.epoch + 1 } }).record (.restart port)

/-- The blocks that take a RESTART after the FLC and the WRL: SRG, WGT, SPM, RKE, ZWC, CAU, an order that R181
leaves open (DESIGN CHOICE, log entry 32). -/
def State.restartBlocks (s : State) : State :=
  s.restartStations.restartWind.restartSite.restartRisk.restartZones.restartSet

/-- RESTART (R181): the response enters the queue before the notices that the RESTART raises. -/
def restartCommand (a : Asked) (s : State) : State :=
  let s1 := s.restartLoop.markRestart a.port
  (s1.reply a .done [[s1.wrl.epoch]]).restartBlocks

/-! ## Taking a command (R173, R175) -/

/-- The owning block takes a command (R173 step 3). -/
def runCommand (c : Command) (a : Asked) (s : State) : State :=
  match c with
  | .status => statusCommand a s
  | .readZone zone => readZoneCommand zone a s
  | .readPile => readPileCommand a s
  | .readStations => readStationsCommand a s
  | .readStrangers => readStrangersCommand a s
  | .readGusts => readGustsCommand a s
  | .readPaths => readPathsCommand a s
  | .readConfigItem source kind key1 key2 => readConfigItemCommand source kind key1 key2 a s
  | .readLoop => readLoopCommand a s
  | .reportWetting pile => reportWettingCommand pile a s
  | .reportActivity pile activity => reportActivityCommand pile activity a s
  | .floor zone level minutes => floorCommand zone level minutes a s
  | .ackAlert zone => ackAlertCommand zone a s
  | .silence zone minutes => silenceCommand zone minutes a s
  | .service zone state => serviceCommand zone state a s
  | .test zone => testCommand zone a s
  | .clearLine line => clearLineCommand line a s
  | .ackLoss slot => ackLossCommand slot a s
  | .stage item => stageCommand item a s
  | .discard => discardCommand a s
  | .propose => proposeCommand a s
  | .accept number => acceptCommand number a s
  | .refuse number => refuseCommand number a s
  | .restart => restartCommand a s
  | .readLogNext => readLogNextCommand a s
  | .readLogAt seq => readLogAtCommand seq a s

/-- A command judged in the order of R173: tag and format, authority, owner. -/
def judgeCommand (c : Option Command) (a : Asked) (s : State) : State :=
  if a.tag = 0 then s.reply a .malformed []
  else
    match c with
    | none => s.reply a .malformed []
    | some c => if c.allowed a.port then runCommand c a s else s.reply a .refusedRole []

/-- The code of a frame's content; a free byte where there is none (log entry 5). -/
def contentCode : List Byte → Byte
  | [] => Config.missingHeaderByte 0
  | code :: _ => code

/-- The tag of a frame's content; a free byte where there is none (log entry 5). -/
def contentTag : List Byte → Byte
  | _ :: tag :: _ => tag
  | _ => Config.missingHeaderByte 1

/-- The command in a frame's content; none where the content holds no code and tag, or its format is
not that of a command (R196). -/
def commandOf : List Byte → Option Command
  | code :: tag :: params => if tag = 0 then none else parseCommand code params
  | _ => none

/-- The command in the content of a well-formed frame is taken (R173). -/
def State.takeContent (port : Port) (content : List Byte) (releases : Bool) (s : State) : State :=
  match commandOf content with
  | none =>
    s.reply { port := port, code := contentCode content, tag := contentTag content, releases := releases }
      .malformed []
  | some c =>
    judgeCommand (some c)
      { port := port, code := contentCode content, tag := contentTag content, releases := releases } s

/-- The format of a command of the table is right, but for an item that a STAGE carries (R196). -/
def Command.formatGood : Command → Bool
  | .stage item => itemFormat item
  | _ => true

/-- The command if its format is right. -/
def Command.formatted (c : Command) : Option Command := if c.formatGood then some c else none

/-- A command of the table is taken from a port: it is the port's executing command where the port has
none, and its response then releases the holding (log entry 12). -/
def State.issue (port : Port) (tag : Byte) (c : Command) (s : State) : State :=
  match (s.pif.port port).executing with
  | none =>
    judgeCommand c.formatted { port := port, code := c.code, tag := tag, releases := true }
      (s.updPort port (fun p => { p with executing := some (c.content tag) }))
  | some _ =>
    judgeCommand c.formatted { port := port, code := c.code, tag := tag, releases := false } s

/-! ## Watchdogs (R180) -/

/-- A watchdog restarted by a well-formed frame (R180). -/
def Watchdog.restarted (clock : Seconds) (timeout : Nat) : Watchdog :=
  { timeout := timeout, expiry := some (clock + timeout), master := .heard }

/-- The watchdog of a port restarts, and MASTER_RESTORED is raised where the master was SILENT (R180). -/
def State.restartWatch (port : Port) (s : State) : State :=
  match port with
  | .t =>
    let s1 := { s with pif := { s.pif with watchT := Watchdog.restarted s.seconds s.cau.site.timeoutT } }
    if s.pif.watchT.master = .silent then s1.raise .routine (.site (.masterRestored .t)) else s1
  | .q =>
    let s1 := { s with pif := { s.pif with watchQ := Watchdog.restarted s.seconds s.cau.site.timeoutQ } }
    if s.pif.watchQ.master = .silent then s1.raise .routine (.site (.masterRestored .q)) else s1
  | .s => s

/-- A watchdog after its expiry (R180). -/
def Watchdog.expired (w : Watchdog) : Watchdog := { w with expiry := none, master := .silent }

/-- The watchdog of a port, where it has one. -/
def Pif.watch (p : Pif) : Port → Option Watchdog
  | .t => some p.watchT
  | .q => some p.watchQ
  | .s => none

/-- The watchdog of a port stopped by its expiry. -/
def Pif.stopWatch (p : Pif) : Port → Pif
  | .t => { p with watchT := p.watchT.expired }
  | .q => { p with watchQ := p.watchQ.expired }
  | .s => p

/-- What the expiry of a port's watchdog does, once its time is reached (R180, R134, R82, R162).  The blocks
take it in the order ZWC, SPM, CAU, which R180 leaves open (DESIGN CHOICE, log entry 32). -/
def State.silenceMaster (port : Port) (s : State) : State :=
  ((((({ s with pif := s.pif.stopWatch port }).record (.action .masterSilent port)).raise .urgent
    (.site (.masterSilent port))).silenceZones port).silencePiles port).silenceSet port

/-- The expiry time of a watchdog is reached (R180). -/
def State.expireWatch (port : Port) (s : State) : State :=
  match (s.pif.watch port).bind (fun w => w.expiry) with
  | none => s
  | some e => (s.reach (tickTime e)).silenceMaster port

/-! ## Receivers and holding (R171, R172) -/

/-- The receiver of a port put into a state. -/
def State.setReceiver (port : Port) (r : Receiver) (s : State) : State :=
  s.updPort port (fun p => { p with receiver := r })

/-- The limit of an incomplete frame, 100 ms (R171). -/
def frameLimit : Time := 100000

/-- A flag that opens a frame (R171). -/
def State.openFrame (port : Port) (s : State) : State := s.setReceiver port (.inside s.now)

/-- The frame is still incomplete at its limit (R171). -/
def State.timeoutFrame (port : Port) (s : State) : State :=
  match (s.pif.port port).receiver with
  | .hunting => s
  | .inside since => (s.reach (since + frameLimit)).setReceiver port .hunting

/-- The frame is longer than 72 content bytes and its CRC (R171). -/
def State.discardLong (port : Port) (s : State) : State := s.setReceiver port .hunting

/-- The bytes hold more than 72 content bytes and the CRC (R171).  Bytes with an invalid stuffing sequence have
no content length and are never over-long (DESIGN CHOICE, log entry 15). -/
def overLong (bytes : List Byte) : Bool :=
  match unstuff bytes with
  | none => false
  | some plain => decide (74 < plain.length)

/-- A flag after these bytes opens a new frame and ends nothing (R171): the receiver hunts, or no byte
stands between this flag and the last, or the frame has been discarded before, at its excess byte or at
100 ms (DESIGN CHOICE, log entry 15: such a frame leaves the receiver hunting). -/
def Receiver.opensFrame (now : Time) (bytes : List Byte) : Receiver → Bool
  | .hunting => true
  | .inside since => bytes.isEmpty || overLong bytes || decide (since + frameLimit < now)

/-- The content of a frame that is well-formed (R171): at most 72 content bytes and the CRC. -/
def wellFormedContent (bytes : List Byte) (stopBitError : Bool) : Option (List Byte) :=
  if stopBitError || overLong bytes then none else deframe bytes

/-- A busy refusal (R172). -/
def busyFrame (content : List Byte) : TxFrame :=
  { content := [contentCode content, contentTag content] ++ bytes1 Result.refusedBusy.code ++ bytes1 129,
    releases := false, busy := true }

/-- A busy refusal put into the response queue, unless it would be the third unsent one (R172). -/
def PortState.refuseBusy (now : Time) (content : List Byte) (p : PortState) : PortState :=
  if (p.responses.filter (fun f => f.busy)).length < 2 then p.queueFrames now [busyFrame content] else p

/-- What the holding makes of a well-formed frame (R172). -/
def State.holdContent (port : Port) (content : List Byte) (s : State) : State :=
  match (s.pif.port port).executing, (s.pif.port port).waiting with
  | none, _ =>
    (s.updPort port (fun p => { p with executing := some content })).takeContent port content true
  | some _, none => s.updPort port (fun p => { p with waiting := some content })
  | some _, some _ => s.updPort port (fun p => p.refuseBusy s.now content)

/-- A frame is judged at its closing flag, and the receiver hunts again (R171, R172). -/
def State.judgeFrame (port : Port) (bytes : List Byte) (stopBitError : Bool) (s : State) : State :=
  let s1 := s.setReceiver port .hunting
  match wellFormedContent bytes stopBitError with
  | none => s1
  | some content => (s1.restartWatch port).holdContent port content

/-- A flag after the bytes of a frame (R171): it closes the frame that the receiver is inside, and opens
one otherwise. -/
def State.receiveFrame (port : Port) (bytes : List Byte) (stopBitError : Bool) (s : State) : State :=
  if (s.pif.port port).receiver.opensFrame s.now bytes then s.openFrame port
  else s.judgeFrame port bytes stopBitError

/-! ## The transmitter (R172, R176) -/

/-- The last frame of the executing command's response has gone out (R172): the waiting command becomes
the executing command and is taken. -/
def State.releaseHolding (port : Port) (s : State) : State :=
  let s1 := s.updPort port (fun p => { p with executing := p.waiting, waiting := none })
  match (s.pif.port port).waiting with
  | none => s1
  | some content => s1.takeContent port content true

/-- A port finishes sending a frame (R176): the arbiter chooses the next one, and the holding is
released where the frame was the last of its response. -/
def State.completeFrame (port : Port) (s : State) : State :=
  match (s.pif.port port).sending with
  | none => s
  | some x =>
    let s1 := s.reach x.ends
    let s2 := s1.updPort port (fun p => { p with sending := none }.arbitrate s1.now)
    if x.frame.releases then s2.releaseHolding port else s2

/-! ## The round close of all blocks (R3, R163, R89) -/

/-- The work of a round close, block by block: the apply, the FLC with the SRG, the WGT, the SPM, and
the assessment with its deliveries. -/
def State.closeBlocks (s : State) : State := s.applySet.closeLoop.closeWind.closeSite.assess

/-- The round close, 229 ms into the round (R3).  Taken while slots have not ended, it closes the round all
the same, and those slots give no verdict (DESIGN CHOICE, log entry 17). -/
def State.closeRound (s : State) : State :=
  match s.flc.progress with
  | none => s
  | some p =>
    if s.flc.mode.runs && !p.closed then
      ({ s.reach (p.start + closeTime) with flc.progress := some { p with closed := true } }).closeBlocks
    else s

end Sys2Proof.Machine
end

