-- ==== Sys2Proof/Machine/ActionCommands.lean ====
section
/-! DEFINITION. The meanings of the commands that change piles, zones, lines, stations and the pending set (R175). -/

namespace Sys2Proof.Machine

/-- REPORT WETTING (R81). -/
def execReportWetting (port : Port) (tag pile : Byte) (s : State) : Host.Outcome State Fault Refusal :=
  .next (s.issue port tag (.reportWetting pile))

/-- REPORT ACTIVITY (R82). -/
def execReportActivity (port : Port) (tag pile activity : Byte) (s : State) : Host.Outcome State Fault Refusal :=
  .next (s.issue port tag (.reportActivity pile activity))

/-- FLOOR (R121). -/
def execFloor (port : Port) (tag zone level : Byte) (minutes : BitVec 16) (s : State) : Host.Outcome State Fault Refusal :=
  .next (s.issue port tag (.floor zone level minutes))

/-- ACK ALERT (R124). -/
def execAckAlert (port : Port) (tag zone : Byte) (s : State) : Host.Outcome State Fault Refusal :=
  .next (s.issue port tag (.ackAlert zone))

/-- SILENCE (R125). -/
def execSilence (port : Port) (tag zone : Byte) (minutes : BitVec 16) (s : State) : Host.Outcome State Fault Refusal :=
  .next (s.issue port tag (.silence zone minutes))

/-- SERVICE (R126). -/
def execService (port : Port) (tag zone state : Byte) (s : State) : Host.Outcome State Fault Refusal :=
  .next (s.issue port tag (.service zone state))

/-- TEST (R127). -/
def execTest (port : Port) (tag zone : Byte) (s : State) : Host.Outcome State Fault Refusal :=
  .next (s.issue port tag (.test zone))

/-- CLEAR LINE (R146). -/
def execClearLine (port : Port) (tag line : Byte) (s : State) : Host.Outcome State Fault Refusal :=
  .next (s.issue port tag (.clearLine line))

/-- ACK LOSS (R39). -/
def execAckLoss (port : Port) (tag slot : Byte) (s : State) : Host.Outcome State Fault Refusal :=
  .next (s.issue port tag (.ackLoss slot))

/-- STAGE (R155). -/
def execStage (port : Port) (tag : Byte) (item : List Byte) (s : State) : Host.Outcome State Fault Refusal :=
  .next (s.issue port tag (.stage item))

/-- DISCARD (R156). -/
def execDiscard (port : Port) (tag : Byte) (s : State) : Host.Outcome State Fault Refusal :=
  .next (s.issue port tag .discard)

/-- PROPOSE (R158). -/
def execPropose (port : Port) (tag : Byte) (s : State) : Host.Outcome State Fault Refusal :=
  .next (s.issue port tag .propose)

/-- ACCEPT (R159). -/
def execAccept (port : Port) (tag number : Byte) (s : State) : Host.Outcome State Fault Refusal :=
  .next (s.issue port tag (.accept number))

/-- REFUSE (R160). -/
def execRefuse (port : Port) (tag number : Byte) (s : State) : Host.Outcome State Fault Refusal :=
  .next (s.issue port tag (.refuse number))

end Sys2Proof.Machine
end

