-- ==== Sys2Proof/Machine/LoopEvents.lean ====
section
/-! DEFINITION. The meanings of the resets and of the events of the field loop (chapters 1 and 5). -/

namespace Sys2Proof.Machine

/-- POWER (R187, R24, R44, R69, R88, R112, R136, R151, R169, R183, R193): everything but the queue of waiting
commands is as after reset. -/
def execPower (s : State) : Host.Outcome State Fault Refusal :=
  .next { State.reset with pending := s.pending }

/-- RESTART (R181). -/
def execRestart (port : Port) (tag : Byte) (s : State) : Host.Outcome State Fault Refusal :=
  .next (s.issue port tag .restart)

/-- MASTER_SILENCE_EXPIRY (R180). -/
def execMasterSilenceExpiry (port : Port) (s : State) : Host.Outcome State Fault Refusal :=
  .next (s.expireWatch port)

/-- LISTEN_PERIOD_END (R16). -/
def execListenPeriodEnd (s : State) : Host.Outcome State Fault Refusal :=
  .next s.endListen

/-- FOREIGN_BEACON_HEARD (R15). -/
def execForeignBeaconHeard (s : State) : Host.Outcome State Fault Refusal :=
  .next s.hearForeign

/-- BACK_OFF_END (R15). -/
def execBackOffEnd (s : State) : Host.Outcome State Fault Refusal :=
  .next s.endBackOff

/-- ROUND_START (R4). -/
def execRoundStart (s : State) : Host.Outcome State Fault Refusal :=
  .next s.startRound

/-- PHASE_B_OUT (R5). -/
def execPhaseBOut (s : State) : Host.Outcome State Fault Refusal :=
  .next s.startPhaseB

/-- LOOP_COPY (R7). -/
def execLoopCopy (side : Side) (window : Window) (ending : CopyEnd) (bytes : List Byte) (s : State) : Host.Outcome State Fault Refusal :=
  .next (s.takeCopy side window ending bytes)

/-- SLOT_END (R9). -/
def execSlotEnd (slot : Nat) (s : State) : Host.Outcome State Fault Refusal :=
  .next (s.endSlot slot)

/-- ROUND_CLOSE (R3). -/
def execRoundClose (s : State) : Host.Outcome State Fault Refusal :=
  .next s.closeRound

end Sys2Proof.Machine
end

