-- ==== Sys2Proof/Machine/PortEvents.lean ====
section
/-! DEFINITION. The meanings of the events of the supervisory ports (chapter 9). -/

namespace Sys2Proof.Machine

/-- PORT_FRAME (R172). -/
def execPortFrame (port : Port) (bytes : List Byte) (stopBitError : Bool) (s : State) : Host.Outcome State Fault Refusal :=
  .next (s.receiveFrame port bytes stopBitError)

/-- PORT_FRAME_TIMEOUT (R171). -/
def execPortFrameTimeout (port : Port) (s : State) : Host.Outcome State Fault Refusal :=
  .next (s.timeoutFrame port)

/-- TRANSMIT_COMPLETE (R176). -/
def execTransmitComplete (port : Port) (s : State) : Host.Outcome State Fault Refusal :=
  .next (s.completeFrame port)

/-- PORT_OPENING_FLAG (R171). -/
def execPortOpeningFlag (port : Port) (s : State) : Host.Outcome State Fault Refusal :=
  .next (s.openFrame port)

/-- PORT_FRAME_OVERLENGTH (R171). -/
def execPortFrameOverlength (port : Port) (s : State) : Host.Outcome State Fault Refusal :=
  .next (s.discardLong port)

end Sys2Proof.Machine
end

