-- ==== Sys2Proof/Machine/ReadCommands.lean ====
section
/-! DEFINITION. The meanings of the read commands (chapter 10, R175). -/

namespace Sys2Proof.Machine

/-- STATUS (R191). -/
def execStatus (port : Port) (tag : Byte) (s : State) : Host.Outcome State Fault Refusal :=
  .next (s.issue port tag .status)

/-- READ ZONE (R192). -/
def execReadZone (port : Port) (tag zone : Byte) (s : State) : Host.Outcome State Fault Refusal :=
  .next (s.issue port tag (.readZone zone))

/-- READ PILE (R192). -/
def execReadPile (port : Port) (tag : Byte) (s : State) : Host.Outcome State Fault Refusal :=
  .next (s.issue port tag .readPile)

/-- READ STATIONS (R42). -/
def execReadStations (port : Port) (tag : Byte) (s : State) : Host.Outcome State Fault Refusal :=
  .next (s.issue port tag .readStations)

/-- READ STRANGERS (R42). -/
def execReadStrangers (port : Port) (tag : Byte) (s : State) : Host.Outcome State Fault Refusal :=
  .next (s.issue port tag .readStrangers)

/-- READ GUSTS (R68). -/
def execReadGusts (port : Port) (tag : Byte) (s : State) : Host.Outcome State Fault Refusal :=
  .next (s.issue port tag .readGusts)

/-- READ PATHS (R111). -/
def execReadPaths (port : Port) (tag : Byte) (s : State) : Host.Outcome State Fault Refusal :=
  .next (s.issue port tag .readPaths)

/-- READ CONFIG ITEM (R168). -/
def execReadConfigItem (port : Port) (tag source kind key1 key2 : Byte) (s : State) : Host.Outcome State Fault Refusal :=
  .next (s.issue port tag (.readConfigItem source kind key1 key2))

/-- READ LOOP (R23). -/
def execReadLoop (port : Port) (tag : Byte) (s : State) : Host.Outcome State Fault Refusal :=
  .next (s.issue port tag .readLoop)

/-- READ LOG NEXT (R189). -/
def execReadLogNext (port : Port) (tag : Byte) (s : State) : Host.Outcome State Fault Refusal :=
  .next (s.issue port tag .readLogNext)

/-- READ LOG AT (R190). -/
def execReadLogAt (port : Port) (tag : Byte) (seq : BitVec 32) (s : State) : Host.Outcome State Fault Refusal :=
  .next (s.issue port tag (.readLogAt seq))

end Sys2Proof.Machine
end

