-- ==== Sys2Proof/Machine/TimedEvents.lean ====
section
/-! DEFINITION. The meanings of the events of the output lines, of the zones and of the pending set. -/

namespace Sys2Proof.Machine

/-- SHORT (R140). -/
def execShort (line : Nat) (s : State) : Host.Outcome State Fault Refusal :=
  .next (s.shortLine line)

/-- RETRY_WAIT_END (R141). -/
def execRetryWaitEnd (line : Nat) (s : State) : Host.Outcome State Fault Refusal :=
  .next (s.endRetry line)

/-- PATTERN_PHASE_CHANGE (R139). -/
def execPatternPhaseChange (gen : Generator) (s : State) : Host.Outcome State Fault Refusal :=
  .next (s.changePhase gen)

/-- LINE_CHECK (R144). -/
def execLineCheck (sense : BitVec 32) (s : State) : Host.Outcome State Fault Refusal :=
  .next (s.checkLines sense)

/-- CLEAN_COUNT_TICK (R142). -/
def execCleanCountTick (s : State) : Host.Outcome State Fault Refusal :=
  .next s.cleanTick

/-- FLOOR_EXPIRY (R122). -/
def execFloorExpiry (zone : Nat) (role : Port) (s : State) : Host.Outcome State Fault Refusal :=
  .next (s.expireFloor zone role)

/-- SILENCE_EXPIRY (R125). -/
def execSilenceExpiry (zone : Nat) (s : State) : Host.Outcome State Fault Refusal :=
  .next (s.expireSilence zone)

/-- TEST_END (R128). -/
def execTestEnd (zone : Nat) (s : State) : Host.Outcome State Fault Refusal :=
  .next (s.completeTest zone)

/-- IDLE_EXPIRY (R157). -/
def execIdleExpiry (s : State) : Host.Outcome State Fault Refusal :=
  .next s.expireIdle

/-- PROPOSAL_EXPIRY (R161). -/
def execProposalExpiry (s : State) : Host.Outcome State Fault Refusal :=
  .next s.expireProposal

end Sys2Proof.Machine
end

