-- ==== Sys2Proof/Machine/Dispatch.lean ====
section
/-! DEFINITION. One arm for each command of the table. -/

namespace Sys2Proof.Machine

/-- The effect of a command on everything but the queue of waiting commands. -/
def exec (i : Instr) (s : State) : Host.Outcome State Fault Refusal :=
  match i with
  | .power => Sys2Proof.Machine.execPower s
  | .restart port tag => Sys2Proof.Machine.execRestart port tag s
  | .masterSilenceExpiry port => Sys2Proof.Machine.execMasterSilenceExpiry port s
  | .listenPeriodEnd => Sys2Proof.Machine.execListenPeriodEnd s
  | .foreignBeaconHeard => Sys2Proof.Machine.execForeignBeaconHeard s
  | .backOffEnd => Sys2Proof.Machine.execBackOffEnd s
  | .roundStart => Sys2Proof.Machine.execRoundStart s
  | .loopCopy side window ending bytes => Sys2Proof.Machine.execLoopCopy side window ending bytes s
  | .slotEnd slot => Sys2Proof.Machine.execSlotEnd slot s
  | .roundClose => Sys2Proof.Machine.execRoundClose s
  | .short line => Sys2Proof.Machine.execShort line s
  | .retryWaitEnd line => Sys2Proof.Machine.execRetryWaitEnd line s
  | .patternPhaseChange gen => Sys2Proof.Machine.execPatternPhaseChange gen s
  | .lineCheck sense => Sys2Proof.Machine.execLineCheck sense s
  | .cleanCountTick => Sys2Proof.Machine.execCleanCountTick s
  | .floorExpiry zone role => Sys2Proof.Machine.execFloorExpiry zone role s
  | .silenceExpiry zone => Sys2Proof.Machine.execSilenceExpiry zone s
  | .testEnd zone => Sys2Proof.Machine.execTestEnd zone s
  | .idleExpiry => Sys2Proof.Machine.execIdleExpiry s
  | .proposalExpiry => Sys2Proof.Machine.execProposalExpiry s
  | .portFrame port bytes stopBitError => Sys2Proof.Machine.execPortFrame port bytes stopBitError s
  | .portFrameTimeout port => Sys2Proof.Machine.execPortFrameTimeout port s
  | .transmitComplete port => Sys2Proof.Machine.execTransmitComplete port s
  | .status port tag => Sys2Proof.Machine.execStatus port tag s
  | .readZone port tag zone => Sys2Proof.Machine.execReadZone port tag zone s
  | .readPile port tag => Sys2Proof.Machine.execReadPile port tag s
  | .readStations port tag => Sys2Proof.Machine.execReadStations port tag s
  | .readStrangers port tag => Sys2Proof.Machine.execReadStrangers port tag s
  | .readGusts port tag => Sys2Proof.Machine.execReadGusts port tag s
  | .readPaths port tag => Sys2Proof.Machine.execReadPaths port tag s
  | .readConfigItem port tag source kind key1 key2 => Sys2Proof.Machine.execReadConfigItem port tag source kind key1 key2 s
  | .readLoop port tag => Sys2Proof.Machine.execReadLoop port tag s
  | .reportWetting port tag pile => Sys2Proof.Machine.execReportWetting port tag pile s
  | .reportActivity port tag pile activity => Sys2Proof.Machine.execReportActivity port tag pile activity s
  | .floor port tag zone level minutes => Sys2Proof.Machine.execFloor port tag zone level minutes s
  | .ackAlert port tag zone => Sys2Proof.Machine.execAckAlert port tag zone s
  | .silence port tag zone minutes => Sys2Proof.Machine.execSilence port tag zone minutes s
  | .service port tag zone state => Sys2Proof.Machine.execService port tag zone state s
  | .test port tag zone => Sys2Proof.Machine.execTest port tag zone s
  | .clearLine port tag line => Sys2Proof.Machine.execClearLine port tag line s
  | .ackLoss port tag slot => Sys2Proof.Machine.execAckLoss port tag slot s
  | .stage port tag item => Sys2Proof.Machine.execStage port tag item s
  | .discard port tag => Sys2Proof.Machine.execDiscard port tag s
  | .propose port tag => Sys2Proof.Machine.execPropose port tag s
  | .accept port tag number => Sys2Proof.Machine.execAccept port tag number s
  | .refuse port tag number => Sys2Proof.Machine.execRefuse port tag number s
  | .readLogNext port tag => Sys2Proof.Machine.execReadLogNext port tag s
  | .readLogAt port tag seq => Sys2Proof.Machine.execReadLogAt port tag seq s
  | .portOpeningFlag port => Sys2Proof.Machine.execPortOpeningFlag port s
  | .portFrameOverlength port => Sys2Proof.Machine.execPortFrameOverlength port s
  | .phaseBOut => Sys2Proof.Machine.execPhaseBOut s

end Sys2Proof.Machine
end

