-- ==== Sys2Proof/Machine/Timers.lean ====
section
/-! DEFINITION. The events that the coordinator's own clock brings: which of them is due next (sections
3.1 and 3.2).  Events of the same moment stand in the order of the list (log entry 8). -/

namespace Sys2Proof.Machine

/-- An event and the moment at which it is due. -/
structure Due where
  time : Time
  event : Instr
  deriving DecidableEq, Repr

/-- The event of an expiry that is present. -/
def dueAt (e : Option Seconds) (i : Instr) : List Due :=
  match e with
  | none => []
  | some n => [{ time := tickTime n, event := i }]

/-- The next event of the loop (R1, R14, R15). -/
def Flc.due (f : Flc) : List Due :=
  match f.mode with
  | .halted => []
  | .listen =>
    (match f.listen with
     | some (.listening e) => [{ time := e, event := .listenPeriodEnd }]
     | some (.backOff e) => [{ time := e, event := .backOffEnd }]
     | none => [])
  | _ =>
    match f.progress with
    | none => []
    | some p =>
      if p.closed then [{ time := p.start + roundTime, event := .roundStart }]
      else if !p.phaseB && p.slotsEnded == 0 then [{ time := p.start + phaseBTime, event := .phaseBOut }]
      else if p.slotsEnded < 48 then
        [{ time := p.start + slotEndTime (p.slotsEnded + 1), event := .slotEnd (p.slotsEnded + 1) }]
      else [{ time := p.start + closeTime, event := .roundClose }]

/-- The events of the output lines (R138, R141, R142, R144). -/
def Oda.due (o : Oda) : List Due :=
  [{ time := o.nextPhase .slow, event := .patternPhaseChange .slow },
   { time := o.nextPhase .fast, event := .patternPhaseChange .fast }]
    ++ o.lines.flatMap (fun l => if l.state = .retryWait then dueAt l.retryEnd (.retryWaitEnd l.line) else [])
    ++ [{ time := tickTime (o.cleanTicks + 1), event := .cleanCountTick },
        { time := o.nextCheck, event := .lineCheck (Config.senseInput o.checks) }]

/-- The events of a zone (R122, R125, R128). -/
def Zone.due (z : Zone) : List Due :=
  dueAt (z.tFloor.map (fun f => f.expiry)) (.floorExpiry z.cfg.zone .t)
    ++ dueAt (z.qFloor.map (fun f => f.expiry)) (.floorExpiry z.cfg.zone .q)
    ++ dueAt z.silence (.silenceExpiry z.cfg.zone)
    ++ dueAt z.testEnd (.testEnd z.cfg.zone)

/-- The expiries of the pending set (R157, R161). -/
def Cau.due (c : Cau) : List Due :=
  (if c.state = .opened then dueAt c.idleExpiry .idleExpiry else [])
    ++ (if c.state = .proposed then dueAt c.proposalExpiry .proposalExpiry else [])

/-- The events of a port (R171, R176). -/
def PortState.due (port : Port) (p : PortState) : List Due :=
  (match p.sending with
   | none => []
   | some x => [{ time := x.ends, event := .transmitComplete port }])
    ++ (match p.receiver with
        | .hunting => []
        | .inside since => [{ time := since + frameLimit, event := .portFrameTimeout port }])

/-- The events of the ports and watchdogs. -/
def Pif.due (p : Pif) : List Due :=
  p.t.due .t ++ p.q.due .q ++ p.s.due .s
    ++ dueAt p.watchT.expiry (.masterSilenceExpiry .t) ++ dueAt p.watchQ.expiry (.masterSilenceExpiry .q)

/-- Everything that the clock brings, one event of each kind. -/
def State.due (s : State) : List Due :=
  s.flc.due ++ s.oda.due ++ s.zwc.zones.flatMap Zone.due ++ s.cau.due ++ s.pif.due

/-- The event with the earliest moment, the first of the list among equals. -/
def earliest : List Due → Option Due
  | [] => none
  | d :: rest =>
    match earliest rest with
    | none => some d
    | some e => if d.time ≤ e.time then some d else some e

/-- The event that the clock brings next. -/
def State.nextEvent (s : State) : Option Instr := (earliest s.due).map (fun d => d.event)

end Sys2Proof.Machine
end

