-- ==== Sys2Proof/Safety.lean ====
section
/-! DEFINITION. What holds of every state that the coordinator can be in: the bounds and exclusions that
the chapters give their state.  Each is a plain predicate, so that statements can say that a step keeps
it. -/

namespace Sys2Proof.Machine

/-- The notice queue of a port as R177 and R178 have it: at most 32 notices, URGENT ahead of ROUTINE and
each class by its stamps, stamps given out before, and at most one notice of a coalesced kind for a
subject. -/
def PortState.QueueOk (p : PortState) : Prop :=
  p.notices.length ≤ 32
    ∧ p.notices.Pairwise (fun x y => x.ahead y = true ∧ x.stamp ≠ y.stamp)
    ∧ (∀ x ∈ p.notices, x.stamp < p.nextStamp)
    ∧ p.notices.Pairwise (fun x y => x.notice.subject = none ∨ x.notice.subject ≠ y.notice.subject)

/-- The three notice queues. -/
def State.QueuesOk (s : State) : Prop := s.pif.t.QueueOk ∧ s.pif.q.QueueOk ∧ s.pif.s.QueueOk

/-- A zone's level is never below its highest floor (R120). -/
def Zone.FloorOk (z : Zone) : Prop := z.highestFloor.rank ≤ z.level.rank

/-- No zone's level is below its highest floor (R120); the zone table stands in order of its key (R113). -/
def State.FloorsOk (s : State) : Prop :=
  s.zwc.zones.Pairwise (fun x y => x.cfg.zone < y.cfg.zone) ∧ ∀ z ∈ s.zwc.zones, z.FloorOk

/-- The sequence numbers of consecutive entries rise by one, from `n` (R184). -/
def chainFrom (n : Seq) : List Entry → Prop
  | [] => True
  | e :: rest => e.seq = n ∧ chainFrom (n + 1) rest

/-- The record as R184 has it: 1 to 256 entries, each numbered one above the one before, the next number
one above the newest. -/
def Wrl.RecordOk (w : Wrl) : Prop :=
  1 ≤ w.entries.length ∧ w.entries.length ≤ 256
    ∧ chainFrom (w.nextSeq - BitVec.ofNat 32 w.entries.length) w.entries

/-- A set that is not FREE holds 1 to 64 items and has an owner, T or Q (R154). -/
def Cau.Held (c : Cau) : Prop :=
  1 ≤ c.items.length ∧ c.items.length ≤ 64 ∧ (c.owner = some .t ∨ c.owner = some .q)

/-- What R154 gives each state of the set: a FREE set holds nothing, and each expiry is present in its
state alone. -/
def Cau.StateOk (c : Cau) : Prop :=
  match c.state with
  | .free => c.items = [] ∧ c.owner = none ∧ c.idleExpiry = none ∧ c.proposalExpiry = none
  | .opened => c.Held ∧ c.idleExpiry.isSome ∧ c.proposalExpiry = none
  | .proposed => c.Held ∧ c.idleExpiry = none ∧ c.proposalExpiry.isSome
  | .accepted => c.Held ∧ c.idleExpiry = none ∧ c.proposalExpiry = none

/-- The pending set as R154 has it: at most one item for a key, a proposal number from 0 to 255, and what
the table gives its state. -/
def Cau.SetOk (c : Cau) : Prop :=
  c.items.Pairwise (fun x y => x.key ≠ y.key) ∧ c.number ≤ 255 ∧ c.StateOk

/-- A line record as R137 has it: the drive start is present while the line drives, the retry end in
RETRY_WAIT alone, and a LATCHED line is one of 8 shorts. -/
def Line.LineOk (l : Line) : Prop :=
  (l.driveStart.isSome ↔ l.state = .on) ∧ (l.retryEnd.isSome ↔ l.state = .retryWait)
    ∧ (l.state = .latched ↔ l.short = 8) ∧ l.short ≤ 8 ∧ l.clean ≤ 10 ∧ l.openMiss ≤ 3
    ∧ l.openPresent ≤ 3

/-- The output lines (R137). -/
def State.LinesOk (s : State) : Prop :=
  s.oda.lines.map (fun l => l.line) = (List.range 32).map (fun i => i + 1) ∧ ∀ l ∈ s.oda.lines, l.LineOk

/-- The loop as sections 1.2 and 1.5 have it: a round is in progress exactly while rounds run, a listen
phase exactly in LISTEN, the halt reason in HALTED alone, and the counters within their ranges. -/
def Flc.LoopOk (f : Flc) : Prop :=
  (f.progress.isSome ↔ f.mode.runs = true) ∧ (f.listen.isSome ↔ f.mode = .listen)
    ∧ (f.halt.isSome ↔ f.mode = .halted) ∧ f.missAB ≤ 3 ∧ f.missBA ≤ 3 ∧ f.noisy.a ≤ 3 ∧ f.noisy.b ≤ 3
    ∧ f.foreignCount ≤ 2 ∧ f.recovery < 40
    ∧ (f.mode ≠ .degraded → f.reasons = .empty) ∧ (f.mode = .degraded → f.reasons ≠ .empty)

/-- The announce copies of the round stand once for each side and identity (R10). -/
def CopiesDistinct (l : List AnnounceCopy) : Prop :=
  l.Pairwise (fun x y => x.side ≠ y.side ∨ x.identity ≠ y.identity)

/-- The announce copies of the round: once for each side and identity, and each among the identities seen on
its side (R10). -/
def Flc.AnnouncesOk (f : Flc) : Prop :=
  CopiesDistinct f.announces ∧ ∀ x ∈ f.announces, (x.side, x.identity) ∈ f.announced

/-- Start attempts of a SITE item, in the range of R152. -/
def Item.attemptsOk : Item → Prop
  | .site p => p.attempts ≤ 7
  | _ => True

/-- The loop, with its announce copies, and its start attempts and those that the configuration gives it within
0 to 7 (sections 1.2, 1.3 and 1.5, R10, R152). -/
def State.LoopOk (s : State) : Prop :=
  s.flc.LoopOk ∧ s.flc.AnnouncesOk ∧ s.flc.attempts ≤ 7 ∧ s.cau.site.attempts ≤ 7 ∧ ∀ x ∈ s.cau.items, x.attemptsOk

/-! ## What a change leaves alone -/

/-- The parts of the state: the clock, the ten blocks, the waiting commands. -/
inductive Part where
  | now
  | flc
  | srg
  | wgt
  | spm
  | rke
  | zwc
  | oda
  | cau
  | pif
  | wrl
  | pending
  deriving DecidableEq, Repr

/-- `t` agrees with `s` in every part but those listed. -/
structure KeepsBut (ps : List Part) (s t : State) : Prop where
  now : Part.now ∉ ps → t.now = s.now
  flc : Part.flc ∉ ps → t.flc = s.flc
  srg : Part.srg ∉ ps → t.srg = s.srg
  wgt : Part.wgt ∉ ps → t.wgt = s.wgt
  spm : Part.spm ∉ ps → t.spm = s.spm
  rke : Part.rke ∉ ps → t.rke = s.rke
  zwc : Part.zwc ∉ ps → t.zwc = s.zwc
  oda : Part.oda ∉ ps → t.oda = s.oda
  cau : Part.cau ∉ ps → t.cau = s.cau
  pif : Part.pif ∉ ps → t.pif = s.pif
  wrl : Part.wrl ∉ ps → t.wrl = s.wrl
  pending : Part.pending ∉ ps → t.pending = s.pending

/-! ## What a command of a master leaves -/

/-- The frames that a port has begun to send or will send as responses, oldest first. -/
def PortState.outgoing (p : PortState) : List TxFrame :=
  (match p.sending with
   | none => []
   | some x => [x.frame]) ++ p.responses

/-- The frames of a response from its units (R174). -/
def answerFrames (a : Asked) (r : Result) (units : List (List Byte)) : List TxFrame :=
  responseFrames a r 1 (packUnits units [])

/-- The last thing that the asking port has begun to send, or will send as responses, is this response. -/
def State.Answers (t : State) (a : Asked) (r : Result) (units : List (List Byte)) : Prop :=
  answerFrames a r units <:+ (t.pif.port a.port).outgoing

/-- The ports when a row's command has been put into an empty place of the holding. -/
def State.held (port : Port) (content : List Byte) (s : State) : State :=
  match (s.pif.port port).executing with
  | none => s.updPort port (fun p => { p with executing := some content })
  | some _ => s

/-- The command that a row of the table takes from a port; its response releases the holding where the port
has no executing command (log entry 12). -/
def rowAsked (s : State) (port : Port) (tag : Byte) (c : Command) : Asked :=
  { port := port, code := c.code, tag := tag, releases := (s.pif.port port).executing.isNone }

/-- What a row leaves of the ports, its response and the notices apart: the receivers, the waiting
commands, the watchdogs, and the executing commands, where the row's command takes an empty place (log
entry 12). -/
structure PortsAfter (s t : State) (port : Port) (content : List Byte) : Prop where
  receivers : ∀ p, (t.pif.port p).receiver = (s.pif.port p).receiver
  waiting : ∀ p, (t.pif.port p).waiting = (s.pif.port p).waiting
  executing : (t.pif.port port).executing = some ((s.pif.port port).executing.getD content)
  others : ∀ p, p ≠ port → (t.pif.port p).executing = (s.pif.port p).executing
  watchT : t.pif.watchT = s.pif.watchT
  watchQ : t.pif.watchQ = s.pif.watchQ

/-- What an event that no master sends leaves of the ports: everything but what is sent and queued. -/
structure PortsQuiet (s t : State) : Prop where
  receivers : ∀ p, (t.pif.port p).receiver = (s.pif.port p).receiver
  waiting : ∀ p, (t.pif.port p).waiting = (s.pif.port p).waiting
  executing : ∀ p, (t.pif.port p).executing = (s.pif.port p).executing
  watchT : t.pif.watchT = s.pif.watchT
  watchQ : t.pif.watchQ = s.pif.watchQ

/-- The row of the table that takes a command from a port. -/
def rowOf (port : Port) (tag : Byte) : Command → Instr
  | .status => .status port tag
  | .readZone zone => .readZone port tag zone
  | .readPile => .readPile port tag
  | .readStations => .readStations port tag
  | .readStrangers => .readStrangers port tag
  | .readGusts => .readGusts port tag
  | .readPaths => .readPaths port tag
  | .readConfigItem source kind key1 key2 => .readConfigItem port tag source kind key1 key2
  | .readLoop => .readLoop port tag
  | .reportWetting pile => .reportWetting port tag pile
  | .reportActivity pile activity => .reportActivity port tag pile activity
  | .floor zone level minutes => .floor port tag zone level minutes
  | .ackAlert zone => .ackAlert port tag zone
  | .silence zone minutes => .silence port tag zone minutes
  | .service zone state => .service port tag zone state
  | .test zone => .test port tag zone
  | .clearLine line => .clearLine port tag line
  | .ackLoss slot => .ackLoss port tag slot
  | .stage item => .stage port tag item
  | .discard => .discard port tag
  | .propose => .propose port tag
  | .accept number => .accept port tag number
  | .refuse number => .refuse port tag number
  | .restart => .restart port tag
  | .readLogNext => .readLogNext port tag
  | .readLogAt seq => .readLogAt port tag seq

/-- The next state of a row that answers with a result: the response is the last of its port, the ports
are otherwise left as a row leaves them (log entry 12), and nothing but the parts listed and the ports has
changed. -/
structure RowResult (ps : List Part) (s : State) (port : Port) (tag : Byte) (c : Command) (r : Result)
    (units : List (List Byte)) (t : State) : Prop where
  answers : t.Answers (rowAsked s port tag c) r units
  ports : PortsAfter s t port (c.content tag)
  keeps : KeepsBut (.pif :: ps) s t

/-- The ports after a row that raises one notice and then answers (R173, R174, R177): an idle transmitter
takes the notice before the response (log entry 11), and a frame ends when log entry 13 says. -/
def State.portsNoticed (s : State) (port : Port) (tag : Byte) (c : Command) (cls : NoticeClass) (n : Notice)
    (r : Result) (units : List (List Byte)) : Pif :=
  (((s.held port (c.content tag)).raise cls n).reply (rowAsked s port tag c) r units).pif

/-- The notice of a zone whose DARK is judged again: URGENT when it begins, ROUTINE when it ends (R130). -/
def State.darkNoticed (z : Zone) (dark : Bool) (s : State) : State :=
  if z.dark = dark then s
  else s.raise (if dark then .urgent else .routine)
    (.level ({ z with dark := dark }.notice s.seconds .dark z.level z.level))

/-- A LOOP notice, where the round close raises one (R22). -/
def State.loopNoticed (cls : Option NoticeClass) (n : LoopNotice) (s : State) : State :=
  match cls with
  | none => s
  | some c => s.raise c (.loop n)

/-- The watchdogs after a well-formed frame on a port, which restarts its own (R180). -/
def State.heardOn (port : Port) (s : State) : State :=
  match port with
  | .t => { s with pif := { s.pif with
      watchT := { timeout := s.cau.site.timeoutT, expiry := some (s.seconds + s.cau.site.timeoutT),
                  master := .heard } } }
  | .q => { s with pif := { s.pif with
      watchQ := { timeout := s.cau.site.timeoutQ, expiry := some (s.seconds + s.cau.site.timeoutQ),
                  master := .heard } } }
  | .s => s

/-- A record that a mast enters at this round close (R58, R60): its last active round, its peak and its
member list follow, and an OPEN one is CONFIRMED, since it then has two members (R61). -/
def Gust.entered (round : Round) (slot peak : Nat) (merged : Bool) (g : Gust) : Gust :=
  { g with
    lastActive := round
    peak := max g.peak peak
    members := g.members ++ [slot]
    merged := g.merged || merged
    state := if g.state = .opened ∧ 1 ≤ g.members.length then .confirmed else g.state }

/-- The record that a mast opens at this round close (R59). -/
def Gust.openedBy (s : State) (id slot dir peak : Nat) : Gust :=
  { id := id, state := .opened, openEpoch := s.wrl.epoch, openRound := s.flc.round, origin := slot,
    direction := dir, peak := peak, members := [slot], lastActive := s.flc.round, closedRound := none,
    merged := false }

/-- The record after one more entry, stamped now (R186). -/
def State.logged (s : State) (body : EntryBody) : Wrl :=
  s.wrl.append
    { seq := s.wrl.nextSeq, epoch := s.wrl.epoch, round := s.flc.round, time := s.seconds, body := body }

/-- Two states agree on every line but those listed. -/
def LinesBut (ns : List Nat) (s t : State) : Prop := ∀ n, n ∉ ns → t.line n = s.line n

/-- Two states agree on every zone but one. -/
def ZonesBut (n : Nat) (s t : State) : Prop := ∀ m, m ≠ n → t.zone m = s.zone m

/-- Only one zone, and of the lines only its sign and siren line, may differ. -/
def ZoneOnly (n : Nat) (s t : State) : Prop := ZonesBut n s t ∧ LinesBut [2 * n - 1, 2 * n] s t

/-- Two zones agree but for the output demand, and the second one's demand is the one that R129 derives
from it. -/
def Zone.Shows (z z' : Zone) : Prop :=
  z' = { z with sign := z'.sign, siren := z'.siren } ∧ z'.sign = z'.signDemand ∧ z'.siren = z'.sirenDemand

/-- The slots configured with a kind, ascending (R45, R70, R77). -/
def State.slotsOf (s : State) (k : Kind) : List Nat :=
  (s.srg.stations.filter (fun x => x.cfg.kind == k)).map (fun x => x.cfg.slot)

/-- The tables of the configuration in force stand in strictly ascending order of their keys, and the
blocks that keep a record for each configured thing keep one for each (R25, R45, R70, R77, R79, R90, R91,
R92, R113). -/
structure State.TablesOk (s : State) : Prop where
  stations : s.srg.stations.Pairwise (fun x y => x.cfg.slot < y.cfg.slot)
  piles : s.spm.piles.Pairwise (fun x y => x.cfg.pile < y.cfg.pile)
  zones : s.zwc.zones.Pairwise (fun x y => x.cfg.zone < y.cfg.zone)
  paths : s.rke.paths.Pairwise (fun x y => x.order < y.order)
  results : s.rke.zones.map (fun r => r.zone) = s.zwc.zones.map (fun z => z.cfg.zone)
  winds : s.rke.winds.map (fun w => w.pile) = s.spm.piles.map (fun p => p.cfg.pile)
  masts : s.wgt.masts.map (fun m => m.slot) = s.slotsOf .mast
  gauges : s.spm.gauges.map (fun g => g.slot) = s.slotsOf .gauge
  monitors : s.spm.monitors.map (fun m => m.slot) = s.slotsOf .dust

/-- The gust list as R55 has it: at most 16 records, ids 1 to 65535 and all different, and no mast in more
than one record that is not CLOSED. -/
structure State.GustsOk (s : State) : Prop where
  size : s.wgt.gusts.length ≤ 16
  next : 1 ≤ s.wgt.nextId ∧ s.wgt.nextId ≤ 65535
  range : ∀ g ∈ s.wgt.gusts, 1 ≤ g.id ∧ g.id ≤ 65535
  ids : s.wgt.gusts.Pairwise (fun x y => x.id ≠ y.id)
  members : s.wgt.gusts.Pairwise
    (fun x y => x.live = true → y.live = true → ∀ n ∈ x.members, n ∉ y.members)

/-! ## The round close -/

/-- The state at a round close, before any block has done its work (R3). -/
def State.atClose (p : Progress) (s : State) : State :=
  { s.reach (p.start + 229000) with flc.progress := some { p with closed := true } }

/-- The state at a round close right after the apply, which every block takes before its own work (R163):
what the blocks' work starts from. -/
def State.closing (s : State) (p : Progress) : State := (s.atClose p).applySet

end Sys2Proof.Machine
end

