-- ==== Sys2Proof/Certificates/Slice0/Obligations.lean ====
section
/-! DEFINITION. The statements for the provers.  Each docstring names the rules that it formalises and, in
brackets at its end, what in it rests on a log entry and so is the model's choice or deduction.  Where ports
are given through State.raise or portsNoticed, an idle one sends at once (log 11), a frame that ends when log 13
says. -/

open Sys2Proof Sys2Proof.Machine

/-! ## The step and the clock -/

/-- The command at the front of the queue is taken with the rest of the queue left waiting. -/
def Obligations.StepTakesTheFrontCommand : Prop :=
  ∀ (s : State) (c : Instr) (rest : List Instr), s.pending = c :: rest →
    step s = exec c { s with pending := rest }

/-- With no command waiting, there is an event that the coordinator's own clock brings next, and it takes
place. [Log 8: that an idle step is the clock's next event.] -/
def Obligations.EmptyQueueRunsTheClock : Prop :=
  ∀ s : State, s.pending = [] → ∃ i, s.nextEvent = some i ∧ step s = exec i s

/-! ## Resets -/

/-- POWER (R24, R44, R69, R88, R112, R136, R151, R169, R183, R193): the loop listens, every table is empty,
every line is OFF, every port is idle with empty queues, both watchdogs run for 60 s, and the record holds
MARK POWER_UP as entry 1. [Log 9: the queue of waiting commands stays. Log 25: the stamp counter and the
transmitter of a port.] -/
def Obligations.PowerEmptiesTheCoordinator : Prop :=
  ∀ s : State, ∃ t, exec .power s = .next t ∧ t.pending = s.pending ∧ t.now = 0
    ∧ t.flc.mode = .listen ∧ t.flc.listen = some (.listening 2000000) ∧ t.flc.attempts = 3
    ∧ t.flc.round = 0 ∧ t.flc.progress = none ∧ t.flc.halt = none ∧ t.flc.reasons = .empty
    ∧ t.srg = { stations := [], queue := [], revocations := [], strangers := [] }
    ∧ t.wgt.masts = [] ∧ t.wgt.gusts = [] ∧ t.wgt.nextId = 1 ∧ t.wgt.windBlind = true
    ∧ t.wgt.site = { lead := none, leadMean := none, leadDir := none, available := 0 }
    ∧ t.spm.gauges = [] ∧ t.spm.monitors = [] ∧ t.spm.piles = []
    ∧ t.spm.band = .dry ∧ t.spm.pendingBand = none ∧ t.spm.persistence = 0 ∧ t.spm.noGauge = 0
    ∧ t.spm.gaugesAtClose = 0
    ∧ t.rke = { paths := [], zones := [], winds := [] } ∧ t.zwc.zones = []
    ∧ t.oda.lines.map (fun l => l.line) = (List.range 32).map (fun i => i + 1)
    ∧ (∀ l ∈ t.oda.lines, l =
        { line := l.line, demand := .off, state := .off, retryEnd := none, short := 0, clean := 0,
          openFlag := false, openMiss := 0, openPresent := 0, driveStart := none })
    ∧ t.oda.slowOn = true ∧ t.oda.fastOn = true
    ∧ t.cau = { items := [], state := .free, owner := none, number := 0, idleExpiry := none,
                proposalExpiry := none,
                site := { gThr := 150, gExc := 50, u0 := 120, span := 60, interval := 480, tDamp := 75,
                          tParch := 35, hy := 5, attempts := 3, timeoutT := 60, timeoutQ := 60 } }
    ∧ (∀ p, t.pif.port p =
        { receiver := .hunting, executing := none, waiting := none, responses := [], notices := [],
          nextStamp := 0, dropped := false, sending := none })
    ∧ t.pif.watchT = { timeout := 60, expiry := some 60, master := .heard }
    ∧ t.pif.watchQ = { timeout := 60, expiry := some 60, master := .heard }
    ∧ t.wrl.entries = [{ seq := 1, epoch := 0, round := 0, time := 0, body := .powerUp }]
    ∧ t.wrl.nextSeq = 2 ∧ t.wrl.epoch = 0 ∧ t.wrl.readPoint = 1 ∧ t.wrl.gap = none

/-- The invariants below hold after POWER and of the reset state. -/
def Obligations.ResetMeetsTheInvariants : Prop :=
  State.reset.QueuesOk ∧ State.reset.FloorsOk ∧ State.reset.wrl.RecordOk ∧ State.reset.cau.SetOk
    ∧ State.reset.LinesOk ∧ State.reset.LoopOk ∧ State.reset.TablesOk ∧ State.reset.GustsOk

/-- RESTART (R181, R21, R43, R67, R86, R110, R133, R150, R162, R187): the loop listens anew, every station is
SILENT, rings, gauge readings, holds and gust list are emptied, the zone results and path results return to
nothing, the piles with their winds, the band, the levels, floors, alerts, silences and service states are
kept, tests end, the line records are kept but for the demands, the pending set is discarded, the epoch goes
up and is recorded. [Log 12: the holding of a row.] -/
def Obligations.RestartKeepsLevelsAndPiles : Prop :=
  ∀ (s : State) (port : Port) (tag : Byte), tag ≠ 0 → port ≠ .s →
    ∃ t, exec (.restart port tag) s = .next t
      ∧ RowResult [.flc, .wrl, .srg, .wgt, .spm, .rke, .zwc, .oda, .cau] s port tag .restart .done
          [[s.wrl.epoch + 1]] t
      ∧ t.flc.mode = .listen ∧ t.flc.listen = some (.listening (s.now + 2000000))
      ∧ t.flc.attempts = s.cau.site.attempts ∧ t.flc.round = 0 ∧ t.flc.progress = none
      ∧ t.flc.halt = none ∧ t.flc.reasons = .empty
      ∧ t.flc.last = { a := .zero, b := .zero } ∧ t.flc.running = { a := .zero, b := .zero }
      ∧ t.wrl.epoch = s.wrl.epoch + 1 ∧ t.wrl.nextSeq = s.wrl.nextSeq + 1
      ∧ t.wrl.entries.getLast? =
          some { seq := s.wrl.nextSeq, epoch := s.wrl.epoch + 1, round := 0, time := s.seconds,
                 body := .restart port }
      ∧ t.srg = { stations := s.srg.stations.map (fun x =>
                    { cfg := x.cfg, live := .silent, grant := none, warm := 0, missed := 0, code := none,
                      heardA := none, heardB := none, fresh := false }),
                  queue := [], revocations := [], strangers := [] }
      ∧ t.wgt.gusts = [] ∧ t.wgt.nextId = s.wgt.nextId ∧ t.wgt.windBlind = true
      ∧ t.wgt.site = { lead := none, leadMean := none, leadDir := none, available := 0 }
      ∧ t.wgt.masts.map (fun m => m.slot) = s.wgt.masts.map (fun m => m.slot)
      ∧ (∀ m ∈ t.wgt.masts, m.reading = none ∧ m.ring = List.replicate 12 none ∧ m.acc = none
          ∧ m.disagree = 0 ∧ m.heater = false ∧ m.summary.available = false)
      ∧ t.spm.piles = s.spm.piles ∧ t.spm.band = s.spm.band ∧ t.spm.pendingBand = none
      ∧ t.spm.persistence = 0 ∧ t.spm.noGauge = 0 ∧ t.spm.gaugesAtClose = s.spm.gaugesAtClose
      ∧ t.spm.gauges.map (fun g => g.slot) = s.spm.gauges.map (fun g => g.slot)
      ∧ (∀ g ∈ t.spm.gauges, g.reading = none)
      ∧ t.spm.monitors.map (fun m => m.slot) = s.spm.monitors.map (fun m => m.slot)
      ∧ (∀ m ∈ t.spm.monitors, m.value = none ∧ m.heater = false ∧ m.rangeHigh = false
          ∧ m.goingQuiet = false)
      ∧ t.rke.winds = s.rke.winds
      ∧ t.rke.paths = s.rke.paths.map (fun p => { cfg := p.cfg, result := none })
      ∧ t.rke.zones = s.rke.zones.map (fun r =>
          { zone := r.zone, round := none, sum := 0, dominant := none, gust := none, modelled := 0,
            blindCount := 0,
            monitors := r.monitors.map (fun m => { slot := m.slot, net := none, index := none }),
            measured := 0, blind := false, noModel := false, risk := 0 })
      ∧ (∀ n z, s.zone n = some z → ∃ z', t.zone n = some z' ∧ z'.cfg = z.cfg ∧ z'.level = z.level
          ∧ z'.tFloor = z.tFloor ∧ z'.qFloor = z.qFloor ∧ z'.alert = z.alert ∧ z'.silence = z.silence
          ∧ z'.service = z.service ∧ z'.testEnd = none ∧ z'.last = none ∧ z'.dwell = 0
          ∧ z'.riseWatch = 0 ∧ z'.riseWarn = 0 ∧ z'.riseAlert = 0 ∧ z'.noModel = true
          ∧ z'.blind = !z.cfg.monitors.isEmpty ∧ z'.dark = z.dark ∧ z'.cause = z.cause
          ∧ z'.levelSeq = z.levelSeq ∧ z'.sign = z'.signDemand ∧ z'.siren = z'.sirenDemand)
      ∧ t.oda = { s.oda with lines := t.oda.lines }
      ∧ (∀ n l, s.line n = some l → ∃ l', t.line n = some l'
          ∧ l' = { l with demand := l'.demand, state := l'.state, driveStart := l'.driveStart }
          ∧ (l.state = .retryWait ∨ l.state = .latched →
              l'.state = l.state ∧ l'.driveStart = l.driveStart))
      ∧ t.cau.state = .free ∧ (s.cau.state ≠ .free → t.cau = s.cau.freed)
      ∧ t.cau.number = s.cau.number ∧ t.cau.site = s.cau.site

/-- The master-silence expiry of a port (R180, R134, R82, R162): the watchdog stops, MASTER_SILENT is
recorded, the port's floors go, the Q-port's also ends silences and tests, the T-port's makes every activity
UNKNOWN, and a pending set of that owner is discarded; a zone whose floor goes starts its dwell anew. [Log 2:
the time of an expiry taken late.] -/
def Obligations.MasterSilenceWithdrawsTheMaster : Prop :=
  ∀ (s : State) (port : Port) (w : Watchdog) (e : Seconds), s.pif.watch port = some w →
    w.expiry = some e →
    ∃ t, exec (.masterSilenceExpiry port) s = .next t
      ∧ KeepsBut [.now, .pif, .wrl, .zwc, .oda, .spm, .cau] s t ∧ t.now = max s.now (e * 1000000)
      ∧ t.pif.watch port = some { w with expiry := none, master := .silent }
      ∧ (∀ p, p ≠ port → t.pif.watch p = s.pif.watch p)
      ∧ (∀ p, (t.pif.port p).executing = (s.pif.port p).executing
          ∧ (t.pif.port p).waiting = (s.pif.port p).waiting
          ∧ (t.pif.port p).receiver = (s.pif.port p).receiver)
      ∧ t.wrl = ({ s with now := t.now }).logged (.action .masterSilent port)
      ∧ (∀ n z, s.zone n = some z → ∃ z', t.zone n = some z' ∧ z'.level = z.level ∧ z'.cfg = z.cfg
          ∧ z'.alert = z.alert ∧ z'.service = z.service ∧ z'.last = z.last
          ∧ (port = .t → z'.tFloor = none ∧ z'.qFloor = z.qFloor ∧ z'.silence = z.silence
              ∧ z'.testEnd = z.testEnd ∧ z'.dwell = (if z.tFloor.isSome then 0 else z.dwell))
          ∧ (port = .q → z'.qFloor = none ∧ z'.silence = none ∧ z'.testEnd = none
              ∧ z'.tFloor = z.tFloor ∧ z'.dwell = (if z.qFloor.isSome then 0 else z.dwell))
          ∧ (z' ≠ z → z'.sign = z'.signDemand ∧ z'.siren = z'.sirenDemand))
      ∧ (port = .t → t.spm = { s.spm with
          piles := s.spm.piles.map (fun p => { p with activity := .unknown }) })
      ∧ (port ≠ .t → t.spm = s.spm)
      ∧ (s.cau.state ≠ .free → s.cau.owner = some port → t.cau = s.cau.freed)
      ∧ (s.cau.owner ≠ some port → t.cau = s.cau)

/-! ## The field loop -/

/-- What ends a listen period (R15, R16, R4). Its own end brings RUNNING, and round 0 begins at that moment
with its beacon. A foreign beacon takes one start attempt: the last one halts the loop, another one starts a
back-off of 1 s, after which a new listen period of 2 s runs. Each raises its LOOP notice: ROUTINE for RUNNING
and for a back-off, URGENT for HALTED (R22). [Log 2: the time of an end taken late.] -/
def Obligations.ListenPeriodsStartOrBackOff : Prop :=
  (∀ (s : State) (e : Time), s.flc.mode = .listen → s.flc.listen = some (.listening e) →
    ∃ t, exec .listenPeriodEnd s = .next t ∧ KeepsBut [.now, .flc, .srg, .pif] s t ∧ PortsQuiet s t
      ∧ t.now = max s.now e ∧ t.flc.mode = .running ∧ t.flc.listen = none ∧ t.flc.round = 0
      ∧ t.flc.progress = some { start := e, phaseB := false, slotsEnded := 0, closed := false }
      ∧ t.flc.attempts = s.flc.attempts ∧ t.flc.reasons = s.flc.reasons
      ∧ t.pif = (({ s with now := t.now }).raise .routine
          (.loop { mode := .running, reasons := s.flc.reasons, halt := s.flc.halt, attempts := s.flc.attempts,
                   round := 0, breakA := s.flc.breakA, breakB := s.flc.breakB })).pif
      ∧ (∃ b, t.flc.beacon = some b ∧ b.round = 0 ∧ b.mode = .running ∧ b.epoch = s.wrl.epoch
          ∧ b.grants.map (fun g => g.2) = s.srg.queue.take 2)
      ∧ t.srg.queue = s.srg.queue.drop 2)
  ∧ (∀ (s : State) (e : Time), s.flc.mode = .listen → s.flc.listen = some (.listening e) →
    ∃ t, exec .foreignBeaconHeard s = .next t ∧ KeepsBut [.flc, .pif] s t ∧ PortsQuiet s t
      ∧ t.flc.attempts = s.flc.attempts - 1 ∧ t.flc.round = s.flc.round
      ∧ t.flc.last = s.flc.last ∧ t.flc.running = s.flc.running
      ∧ (s.flc.attempts ≤ 1 → t.flc.mode = .halted ∧ t.flc.halt = some .foreignBeacon
          ∧ t.flc.listen = none
          ∧ t.pif = (s.raise .urgent
              (.loop { mode := .halted, reasons := s.flc.reasons, halt := some .foreignBeacon, attempts := 0,
                       round := 0, breakA := s.flc.breakA, breakB := s.flc.breakB })).pif)
      ∧ (1 < s.flc.attempts → t.flc.mode = .listen ∧ t.flc.halt = s.flc.halt
          ∧ t.flc.listen = some (.backOff (s.now + 1000000))
          ∧ t.pif = (s.raise .routine
              (.loop { mode := .listen, reasons := s.flc.reasons, halt := s.flc.halt,
                       attempts := s.flc.attempts - 1, round := 0, breakA := s.flc.breakA,
                       breakB := s.flc.breakB })).pif))
  ∧ (∀ (s : State) (e : Time), s.flc.mode = .listen → s.flc.listen = some (.backOff e) →
      exec .foreignBeaconHeard s = .next s
      ∧ ∃ t, exec .backOffEnd s = .next t ∧ KeepsBut [.now, .flc] s t ∧ t.now = max s.now e
        ∧ t.flc = { s.flc with listen := some (.listening (e + 2000000)) })

/-- A round starts 250 ms after the one before (R1, R2, R4, R28): the number rises by one, up to two grants
leave the head of the admission queue and carry the round, up to two revocations leave the list, and the
beacon says what R4 lays down. Phase B-out begins 2.5 ms into the round (R5), and from then on side A receives
the beacon window's copies and side B does not. [Log 2: the time of a start taken late. Log 17: which window
runs.] -/
def Obligations.RoundsStartWithTheirBeacon : Prop :=
  (∀ (s : State) (p : Progress), s.flc.mode.runs = true → s.flc.progress = some p → p.closed = true →
    ∃ t, exec .roundStart s = .next t ∧ KeepsBut [.now, .flc, .srg] s t
      ∧ t.now = max s.now (p.start + 250000) ∧ t.flc.round = s.flc.round + 1 ∧ t.flc.mode = s.flc.mode
      ∧ t.flc.progress =
          some { start := p.start + 250000, phaseB := false, slotsEnded := 0, closed := false }
      ∧ t.flc.echoAB = false ∧ t.flc.echoBA = false ∧ t.flc.running = s.flc.running
      ∧ t.flc.last = s.flc.last ∧ t.flc.foreignHeard = s.flc.foreignHeard
      ∧ t.srg.queue = s.srg.queue.drop 2 ∧ t.srg.strangers = s.srg.strangers
      ∧ (∀ n x, s.station n = some x → n ∈ s.srg.queue.take 2 →
          t.station n = some { x with grant := some (s.flc.round + 1) })
      ∧ (∀ n, n ∉ s.srg.queue.take 2 → t.station n = s.station n)
      ∧ (∃ b, t.flc.beacon = some b ∧ b.round = (s.flc.round + 1).truncate 16 ∧ b.mode = s.flc.mode
          ∧ b.epoch = s.wrl.epoch ∧ b.openWindow = decide ((s.srg.queue.drop 2).length < 8)
          ∧ b.grants = (s.srg.queue.take 2).map (fun n => (s.identityAt n, n))
          ∧ b.revocations =
              (s.srg.revocations.filter (fun n => decide (n ∉ s.srg.queue.take 2))).take 2
          ∧ t.srg.revocations =
              (s.srg.revocations.filter (fun n => decide (n ∉ s.srg.queue.take 2))).drop 2))
  ∧ (∀ (s : State) (p : Progress), s.flc.mode.runs = true → s.flc.progress = some p → p.phaseB = false →
    p.closed = false → p.slotsEnded = 0 →
    ∃ t, exec .phaseBOut s = .next t ∧ KeepsBut [.now, .flc] s t ∧ t.now = max s.now (p.start + 2500)
      ∧ t.flc = { s.flc with progress := some { p with phaseB := true } }
      ∧ (∀ q, t.flc.progress = some q → q.receives .a .phaseB .inWindow = true
          ∧ q.receives .b .phaseB .inWindow = false ∧ q.receives .b .phaseA .inWindow = false
          ∧ q.receives .a .phaseA .inWindow = false))

/-- A copy on a receiving side is counted once, in one class, on its own side, in the counts of the interval
that holds its opening flag (R3, R7, R12): the running counts, those of the round last completed, or counts no
longer held. One that does not complete in its window is a boundary violation, as is one in the quiet gap
without the BEACON code, and another one that fails the syntax checks is a syntax error. A foreign beacon is
valid and noted (R11); the first STATION copy of a side in a slot is taken and valid where the slot's station
matches it, and any further or other one is a content error (R8); an ANNOUNCE copy is valid in an open
admission window, once for an identity on a side, with an identity and a kind (R10). No copy is counted in
LISTEN or HALTED: in a listen period a BEACON whose framing and CRC pass is a foreign beacon heard, and any
other copy changes nothing (R14); in a back-off and in HALTED none does (R15, R20). [Log 38: a BEACON copy
after the copy taken in a slot. Log 18: an identity received. Log 16: what passes in a listen period. Log 17:
which copies are received, and a late copy's interval.] -/
def Obligations.CopiesAreCountedOnce : Prop :=
  (∀ (s : State) (side : Side) (w : Window) (e : CopyEnd) (bytes : List Byte) (p : Progress) (back : Nat),
    s.flc.mode.runs = true → s.flc.progress = some p → p.receives side w e = true →
    back = (if p.closed then 1 else 0) + (if e = .afterRound then 1 else 0)
      - (if w = .quietGap then 1 else 0) →
    ∃ t c, exec (.loopCopy side w e bytes) s = .next t ∧ KeepsBut [.flc] s t
      ∧ (back = 0 → t.flc.running = s.flc.running.upd (Counts.add c) side ∧ t.flc.last = s.flc.last)
      ∧ (back = 1 → t.flc.last = s.flc.last.upd (Counts.add c) side ∧ t.flc.running = s.flc.running)
      ∧ (2 ≤ back → t.flc.running = s.flc.running ∧ t.flc.last = s.flc.last)
      ∧ (e ≠ .inWindow → c = .boundaryViolation)
      ∧ (e = .inWindow → w = .quietGap → bytes.head? ≠ some 0x01#8 → c = .boundaryViolation)
      ∧ (e = .inWindow → w ≠ .quietGap ∨ bytes.head? = some 0x01#8 → parseLoopCopy bytes = none →
          c = .syntaxError)
      ∧ (∀ content, e = .inWindow → w ≠ .quietGap ∨ bytes.head? = some 0x01#8 →
          parseLoopCopy bytes = some (.beacon content) → s.flc.beacon.map Beacon.content ≠ some content →
          c = .valid ∧ t.flc.foreignHeard = true)
      ∧ (∀ x, e = .inWindow → w ≠ .quietGap → parseLoopCopy bytes = some (.station x) →
          ((∀ n, w ≠ .slot n) → c = .contentError ∧ t.flc.taken = s.flc.taken)
          ∧ (∀ n, w = .slot n → (∃ y ∈ s.flc.taken, y.slot = n ∧ y.side = side) →
              c = .contentError ∧ t.flc.taken = s.flc.taken)
          ∧ (∀ n ok, w = .slot n → (∀ y ∈ s.flc.taken, y.slot ≠ n ∨ y.side ≠ side) →
              (ok = true ↔ ∃ z, s.station n = some z ∧ z.cfg.identity = x.identity
                ∧ z.cfg.kind = x.reading.kind) →
              c = (if ok then .valid else .contentError)
              ∧ t.flc.taken = s.flc.taken ++ [{ slot := n, side := side, frame := x, ok := ok }]))
      ∧ (∀ i k, e = .inWindow → w ≠ .quietGap → parseLoopCopy bytes = some (.announce i k) →
          (w ≠ .admission ∨ (∀ b, s.flc.beacon = some b → b.openWindow = false)
              ∨ (side, i) ∈ s.flc.announced ∨ i = 0 ∨ kindOfCode k.toNat = none →
            c = .contentError ∧ t.flc.announces = s.flc.announces)
          ∧ (∀ b kind, w = .admission → s.flc.beacon = some b → b.openWindow = true →
              (side, i) ∉ s.flc.announced → i ≠ 0 → kindOfCode k.toNat = some kind →
              c = .valid ∧ t.flc.announced = s.flc.announced ++ [(side, i)]
              ∧ t.flc.announces = s.flc.announces ++ [{ side := side, identity := i, kind := kind }]))
      ∧ t.flc.mode = s.flc.mode ∧ t.flc.round = s.flc.round ∧ t.flc.progress = s.flc.progress
      ∧ t.flc.beacon = s.flc.beacon ∧ t.flc.missAB = s.flc.missAB ∧ t.flc.missBA = s.flc.missBA
      ∧ t.flc.noisy = s.flc.noisy ∧ t.flc.recovery = s.flc.recovery
      ∧ t.flc.foreignCount = s.flc.foreignCount ∧ t.flc.verdicts = s.flc.verdicts)
  ∧ (∀ (s : State) (side : Side) (w : Window) (e : CopyEnd) (bytes : List Byte),
    (s.flc.mode = .halted ∨ (∃ x, s.flc.mode = .listen ∧ s.flc.listen = some (.backOff x)) →
      exec (.loopCopy side w e bytes) s = .next s)
    ∧ (∀ x, s.flc.mode = .listen → s.flc.listen = some (.listening x) →
      (∀ rest, deframe bytes = some (0x01#8 :: rest) →
        exec (.loopCopy side w e bytes) s = exec .foreignBeaconHeard s)
      ∧ ((∀ rest, deframe bytes ≠ some (0x01#8 :: rest)) → exec (.loopCopy side w e bytes) s = .next s)))

/-- The coordinator's own beacon, received back on the far side within its phase, makes that direction's echo
present; received in any later window of the round, a slot, the admission window or the quiet gap, or
completing past its window, it is a boundary violation; it is never foreign (R6, R11). [Log 17: which window
runs, and a late copy's interval. Log 38: in a slot whose side has taken a STATION copy before it, R8 would
make it a content error.] -/
def Obligations.OwnBeaconIsTheEcho : Prop :=
  ∀ (s : State) (p : Progress) (b : Beacon), s.flc.mode.runs = true → s.flc.progress = some p →
    s.flc.beacon = some b → b.mode.runs = true → b.grants.length ≤ 2 → b.revocations.length ≤ 2 →
    (p.inWindow .phaseA = true →
      ∃ t, exec (.loopCopy .b .phaseA .inWindow (stuff (b.content ++ crcBytes b.content))) s = .next t
        ∧ KeepsBut [.flc] s t ∧ t.flc.echoAB = true ∧ t.flc.echoBA = s.flc.echoBA
        ∧ t.flc.foreignHeard = s.flc.foreignHeard
        ∧ t.flc.running.b = s.flc.running.b.add .valid ∧ t.flc.running.a = s.flc.running.a)
    ∧ (p.inWindow .phaseB = true →
      ∃ t, exec (.loopCopy .a .phaseB .inWindow (stuff (b.content ++ crcBytes b.content))) s = .next t
        ∧ KeepsBut [.flc] s t ∧ t.flc.echoBA = true ∧ t.flc.echoAB = s.flc.echoAB
        ∧ t.flc.foreignHeard = s.flc.foreignHeard
        ∧ t.flc.running.a = s.flc.running.a.add .valid ∧ t.flc.running.b = s.flc.running.b)
    ∧ (∀ side w e back, p.receives side w e = true → e ≠ .inWindow ∨ (w ≠ .phaseA ∧ w ≠ .phaseB) →
      back = (if p.closed then 1 else 0) + (if e = .afterRound then 1 else 0)
        - (if w = .quietGap then 1 else 0) →
      ∃ t, exec (.loopCopy side w e (stuff (b.content ++ crcBytes b.content))) s = .next t
        ∧ KeepsBut [.flc] s t ∧ t.flc.echoAB = s.flc.echoAB ∧ t.flc.echoBA = s.flc.echoBA
        ∧ t.flc.foreignHeard = s.flc.foreignHeard ∧ t.flc.taken = s.flc.taken
        ∧ (back = 0 → t.flc.running = s.flc.running.upd (Counts.add .boundaryViolation) side
            ∧ t.flc.last = s.flc.last)
        ∧ (back = 1 → t.flc.last = s.flc.last.upd (Counts.add .boundaryViolation) side
            ∧ t.flc.running = s.flc.running)
        ∧ (2 ≤ back → t.flc.running = s.flc.running ∧ t.flc.last = s.flc.last))

/-- What a missing verdict leaves of the station in slot `n` (R33, R35, R36): WARMING or ACTIVE to SUSPECT,
SUSPECT to LOST at the 8th, QUIETING to SILENT at the 4th, the last two with a revocation and their notice. -/
structure SlotMissed (s t : State) (n : Nat) (x y : Station) : Prop where
  station : t.station n = some y
  others : ∀ m, m ≠ n → t.station m = s.station m
  kept : y.cfg = x.cfg ∧ y.code = x.code ∧ y.heardA = x.heardA ∧ y.heardB = x.heardB ∧ y.fresh = x.fresh
  lists : t.srg.queue = s.srg.queue ∧ t.srg.strangers = s.srg.strangers
  first : x.live = .warming ∨ x.live = .active →
    y.live = .suspect ∧ y.missed = 1 ∧ y.warm = x.warm ∧ y.grant = x.grant
  again : x.live = .suspect → x.missed + 1 < 8 → y = { x with missed := x.missed + 1 }
  lost : x.live = .suspect → 8 ≤ x.missed + 1 →
    y.live = .lost ∧ y.missed = 8 ∧ y.warm = 0 ∧ y.grant = none
      ∧ t.pif = (({ s with now := t.now }).raise .urgent
          (.station { slot := n, identity := x.cfg.identity, kind := x.cfg.kind, cause := .lost,
                      live := .lost, missed := 8, code := x.code, round := s.flc.round })).pif
  quieting : x.live = .quieting → x.missed + 1 < 4 → y = { x with missed := x.missed + 1 }
  quiet : x.live = .quieting → 4 ≤ x.missed + 1 →
    y.live = .silent ∧ y.missed = 0 ∧ y.warm = 0 ∧ y.grant = none
      ∧ t.pif = (({ s with now := t.now }).raise .routine
          (.station { slot := n, identity := x.cfg.identity, kind := x.cfg.kind, cause := .quiet,
                      live := .silent, missed := 0, code := x.code, round := s.flc.round })).pif
  revoked : y.live ≠ x.live → y.live ≠ .suspect →
    t.srg.revocations = (if n ∈ s.srg.revocations then s.srg.revocations else s.srg.revocations ++ [n])
  held : y.live = x.live ∨ y.live = .suspect → t.srg.revocations = s.srg.revocations ∧ t.pif = s.pif
  absent : x.live = .silent ∨ x.live = .heard ∨ x.live = .lost ∨ x.live = .returned → y = x

/-- A slot in which neither side has a valid copy is missing, and so is one whose two valid copies differ,
each of which becomes a content error (R9); the station moves as R33, R35 and R36 lay down. The end of a slot
that is not configured passes no verdict and moves nothing (R9). [Log 2: the time of an end taken late. Log
17: SLOT_END may name any slot that has not ended.] -/
def Obligations.MissedSlotsLoseTheStation : Prop :=
  (∀ (s : State) (p : Progress) (n : Nat) (x : Station), s.flc.mode.runs = true →
    s.flc.progress = some p → p.inWindow (.slot n) = true → n ≤ 48 → s.station n = some x →
    (s.flc.validCopy n .a = none → s.flc.validCopy n .b = none →
      ∃ t y, exec (.slotEnd n) s = .next t ∧ KeepsBut [.now, .flc, .srg, .pif] s t ∧ PortsQuiet s t
        ∧ t.now = max s.now (p.start + 5000 + 4000 * n)
        ∧ t.flc = { s.flc with progress := some { p with slotsEnded := n } } ∧ SlotMissed s t n x y)
    ∧ (∀ f g, s.flc.validCopy n .a = some f → s.flc.validCopy n .b = some g → f ≠ g →
      ∃ t y, exec (.slotEnd n) s = .next t ∧ KeepsBut [.now, .flc, .srg, .pif] s t ∧ PortsQuiet s t
        ∧ t.now = max s.now (p.start + 5000 + 4000 * n)
        ∧ t.flc = { s.flc with
            progress := some { p with slotsEnded := n }
            running := {
              a := { s.flc.running.a with valid := s.flc.running.a.valid - 1,
                                          content := min 255 (s.flc.running.a.content + 1) }
              b := { s.flc.running.b with valid := s.flc.running.b.valid - 1,
                                          content := min 255 (s.flc.running.b.content + 1) } } }
        ∧ SlotMissed s t n x y))
  ∧ (∀ (s : State) (p : Progress) (n : Nat), s.flc.mode.runs = true → s.flc.progress = some p →
    p.inWindow (.slot n) = true → n ≤ 48 → s.station n = none →
    exec (.slotEnd n) s = .next { s with
      now := max s.now (p.start + 5000 + 4000 * n)
      flc := { s.flc with progress := some { p with slotsEnded := n } } })

/-- A slot whose sides merge into a delivered verdict moves the station as R30, R32 and R35 lay down, a frame
from a station without a grant is answered by a revocation (R29, R32), and a reading goes no further unless
the station is ACTIVE before or after it (R34). [Log 2: the time of an end taken late. Log 17: SLOT_END may
name any slot that has not ended.] -/
def Obligations.DeliveredSlotsMoveTheStation : Prop :=
  ∀ (s : State) (p : Progress) (n : Nat) (x : Station) (f : StationFrame) (hA hB : Bool),
    s.flc.mode.runs = true → s.flc.progress = some p → p.inWindow (.slot n) = true → n ≤ 48 →
    s.station n = some x →
    mergeCopies (s.flc.validCopy n .a) (s.flc.validCopy n .b) = .delivered f hA hB →
    ∃ t y, exec (.slotEnd n) s = .next t ∧ KeepsBut [.now, .flc, .srg, .wgt, .spm, .pif] s t
      ∧ PortsQuiet s t ∧ t.now = max s.now (p.start + 5000 + 4000 * n)
      ∧ t.flc.verdicts = s.flc.verdicts ++ [{ ring := x.cfg.ring, heardA := hA, heardB := hB }]
      ∧ t.flc.running = s.flc.running
      ∧ t.station n = some y ∧ (∀ m, m ≠ n → t.station m = s.station m) ∧ y.cfg = x.cfg
      ∧ t.srg.queue = s.srg.queue ∧ t.srg.strangers = s.srg.strangers
      ∧ y.code = some f.code ∧ y.grant = x.grant
      ∧ y.heardA = (if hA then some s.flc.round else x.heardA)
      ∧ y.heardB = (if hB then some s.flc.round else x.heardB)
      ∧ (x.live = .warming → 1 < x.warm → y.live = .warming ∧ y.warm = x.warm - 1 ∧ y.missed = 0)
      ∧ (x.live = .warming → x.warm ≤ 1 → y.live = .active ∧ y.warm = 0 ∧ y.missed = 0)
      ∧ (x.live = .active → f.code = 15 → y.live = .quieting ∧ y.missed = 0)
      ∧ (x.live = .active → f.code ≠ 15 → y.live = .active ∧ y.missed = 0)
      ∧ (x.live = .suspect → 1 < x.warm → y.live = .warming ∧ y.warm = x.warm - 1 ∧ y.missed = 0)
      ∧ (x.live = .suspect → x.warm ≤ 1 → y.live = .active ∧ y.warm = 0 ∧ y.missed = 0)
      ∧ (x.live = .quieting → f.code = 15 → y.live = .quieting ∧ y.missed = 0)
      ∧ (x.live = .quieting → f.code ≠ 15 → y.live = .active ∧ y.missed = 0)
      ∧ (x.live = .heard → x.inGrantWindow s.flc.round = true →
          y.live = .warming ∧ y.warm = 8 ∧ y.missed = 0)
      ∧ (x.live = .heard → x.inGrantWindow s.flc.round = false →
          y.live = .heard ∧ y.warm = x.warm ∧ y.missed = x.missed)
      ∧ (x.live = .silent ∨ x.live = .lost ∨ x.live = .returned →
          y.live = x.live ∧ y.warm = x.warm ∧ y.missed = x.missed)
      ∧ (x.holdsGrant = false → t.srg.revocations =
          (if n ∈ s.srg.revocations then s.srg.revocations else s.srg.revocations ++ [n]))
      ∧ (x.holdsGrant = true → t.srg.revocations = s.srg.revocations)
      ∧ (x.live ≠ .active → y.live ≠ .active → t.wgt = s.wgt ∧ t.spm = s.spm)

/-- The round's announces are taken one by one (R27): an identity that no entry has goes to the stranger list,
which it refreshes, joins, or joins in place of the record first heard (R38); one of another kind raises
KIND_MISMATCH; a SILENT station joins the admission queue while it holds fewer than 8, a LOST one is RETURNED,
and any other is only heard. At the round close the announces, merged by identity in the order of their first
copies (R10), are taken first, and then a HEARD station whose grant round lies 3 or more rounds back lapses to
SILENT with a revocation (R31). [Log 17: a close taken before every slot has ended.] -/
def Obligations.AnnouncesReachTheRegistry : Prop :=
  (∀ l : List AnnounceCopy, CopiesDistinct l →
    (∀ a : Announce, a ∈ mergedAnnounces l ↔
      (∃ x ∈ l, x.identity = a.identity) ∧ (∀ x ∈ l, x.identity = a.identity → x.kind = a.kind)
      ∧ (a.heardA = true ↔ ∃ x ∈ l, x.identity = a.identity ∧ x.side = .a)
      ∧ (a.heardB = true ↔ ∃ x ∈ l, x.identity = a.identity ∧ x.side = .b))
    ∧ (mergedAnnounces l).Pairwise (fun a b => a.identity ≠ b.identity
        ∧ ∃ before x after, l = before ++ x :: after ∧ x.identity = a.identity
          ∧ ∀ y ∈ before, y.identity ≠ b.identity))
  ∧ (∀ (s : State) (a : Announce), (∀ x ∈ s.srg.stations, x.cfg.identity ≠ a.identity) →
    ((∃ r ∈ s.srg.strangers, r.identity = a.identity) →
      s.takeAnnounce a = { s with srg := { s.srg with
        strangers := s.srg.strangers.map (fun r =>
          if r.identity = a.identity then
            { r with kind := a.kind, last := s.flc.round, count := min 255 (r.count + 1) }
          else r) } })
    ∧ (∀ new : Stranger, (∀ r ∈ s.srg.strangers, r.identity ≠ a.identity) →
      new = { identity := a.identity, kind := a.kind, firstEpoch := s.wrl.epoch,
              firstRound := s.flc.round, last := s.flc.round, count := 1 } →
      (s.srg.strangers.length < 8 →
        s.takeAnnounce a =
          ({ s with srg := { s.srg with strangers := s.srg.strangers ++ [new] } }).raise .routine
            (.stranger { identity := a.identity, kind := a.kind, removed := none }))
      ∧ (∀ first rest, 8 ≤ s.srg.strangers.length → s.srg.strangers = first :: rest →
        s.takeAnnounce a =
          ({ s with srg := { s.srg with strangers := rest ++ [new] } }).raise .routine
            (.stranger { identity := a.identity, kind := a.kind, removed := some first.identity }))))
  ∧ (∀ (s : State) (a : Announce) (x : Station), s.TablesOk → x ∈ s.srg.stations →
    x.cfg.identity = a.identity → (∀ y ∈ s.srg.stations, y.cfg.identity = a.identity → y = x) →
    (x.cfg.kind ≠ a.kind →
      s.takeAnnounce a = s.raise .routine
        (.station { slot := x.cfg.slot, identity := x.cfg.identity, kind := x.cfg.kind,
                    cause := .kindMismatch, live := x.live, missed := x.missed, code := x.code,
                    round := s.flc.round }))
    ∧ (∀ (y : Station) (t : State), x.cfg.kind = a.kind →
      y = { x with heardA := if a.heardA then some s.flc.round else x.heardA,
                   heardB := if a.heardB then some s.flc.round else x.heardB } →
      t = s.takeAnnounce a →
      (∀ n, n ≠ x.cfg.slot → t.station n = s.station n)
      ∧ t.srg.revocations = s.srg.revocations ∧ t.srg.strangers = s.srg.strangers
      ∧ KeepsBut [.srg, .pif] s t
      ∧ (x.live = .silent → s.srg.queue.length < 8 →
          t.station x.cfg.slot = some { y with live := .heard, grant := none, warm := 0, missed := 0 }
            ∧ t.srg.queue = s.srg.queue ++ [x.cfg.slot] ∧ t.pif = s.pif)
      ∧ (x.live = .lost →
          t.station x.cfg.slot = some { y with live := .returned } ∧ t.srg.queue = s.srg.queue
            ∧ t.pif = (s.raise .urgent
                (.station { slot := x.cfg.slot, identity := x.cfg.identity, kind := x.cfg.kind,
                            cause := .returned, live := .returned, missed := x.missed, code := x.code,
                            round := s.flc.round })).pif)
      ∧ (¬(x.live = .silent ∧ s.srg.queue.length < 8) → x.live ≠ .lost →
          t.station x.cfg.slot = some y ∧ t.srg.queue = s.srg.queue ∧ t.pif = s.pif)))
  ∧ (∀ (s : State) (p : Progress) (v : State), s.flc.mode.runs = true → s.flc.progress = some p →
    p.closed = false → s.TablesOk →
    v = (s.closing p).takeAnnounces (mergedAnnounces s.flc.announces) →
    ∃ t, exec .roundClose s = .next t ∧ t.srg.queue = v.srg.queue ∧ t.srg.strangers = v.srg.strangers
      ∧ (∀ n x, v.station n = some x →
          (x.live = .heard → ∀ g, x.grant = some g → 3 ≤ (s.flc.round - g).toNat →
            t.station n = some { x with live := .silent, grant := none } ∧ n ∈ t.srg.revocations)
          ∧ (x.live ≠ .heard ∨ x.grant = none ∨ (∃ g, x.grant = some g ∧ (s.flc.round - g).toNat < 3) →
            t.station n = some x ∧ (n ∈ t.srg.revocations → n ∈ v.srg.revocations)))
      ∧ v.srg.revocations <+: t.srg.revocations)

/-- The round close of the loop (R3, R6, R12, R13, R17, R18, R19): the counters follow the round, the running
counts become those of the last completed round, with the announces whose kinds differ moved to the content
errors (R10), the ring-break estimate is that of the round's verdicts, and the mode is decided: HALTED at the
second foreign round, DEGRADED while a counter stands at 3, RUNNING after 40 clean rounds in a row. One LOOP
notice follows the announces and the lapses where the mode changes or a reason is added, URGENT but for the
return to RUNNING, with the round just closed (R22), and the work of the other blocks comes after it. [Log 2:
the time of a close taken late. Logs 19 and 20: the order of the blocks, and the one notice at a halt. Log 17:
a close taken before every slot has ended.] -/
def Obligations.RoundCloseDecidesTheMode : Prop :=
  ∀ (s : State) (p : Progress), s.flc.mode.runs = true → s.flc.progress = some p → p.closed = false →
    ∃ t, exec .roundClose s = .next t
      ∧ KeepsBut [.now, .flc, .srg, .wgt, .spm, .rke, .zwc, .oda, .cau, .pif, .wrl] s t
      ∧ PortsQuiet s t ∧ t.now = max s.now (p.start + 229000)
      ∧ t.flc.round = s.flc.round ∧ t.flc.running = { a := .zero, b := .zero }
      ∧ t.flc.missAB = (if s.flc.echoAB then 0 else min 3 (s.flc.missAB + 1))
      ∧ t.flc.missBA = (if s.flc.echoBA then 0 else min 3 (s.flc.missBA + 1))
      ∧ t.flc.noisy.a = (if 8 ≤ s.flc.running.a.syntaxErrors then min 3 (s.flc.noisy.a + 1) else 0)
      ∧ t.flc.noisy.b = (if 8 ≤ s.flc.running.b.syntaxErrors then min 3 (s.flc.noisy.b + 1) else 0)
      ∧ t.flc.foreignCount = (if s.flc.foreignHeard then min 2 (s.flc.foreignCount + 1) else 0)
      ∧ t.flc.foreignHeard = false
      ∧ t.flc.last.a.syntaxErrors = s.flc.running.a.syntaxErrors
      ∧ t.flc.last.b.syntaxErrors = s.flc.running.b.syntaxErrors
      ∧ t.flc.last.a.boundary = s.flc.running.a.boundary ∧ t.flc.last.b.boundary = s.flc.running.b.boundary
      ∧ (∀ k : Nat, CopiesDistinct s.flc.announces →
          k = (s.flc.announces.filter (fun x => decide (x.side = .a
            ∧ ∃ y ∈ s.flc.announces, y.side = .b ∧ y.identity = x.identity ∧ y.kind ≠ x.kind))).length →
          t.flc.last.a.valid = s.flc.running.a.valid - k ∧ t.flc.last.b.valid = s.flc.running.b.valid - k
            ∧ t.flc.last.a.content = min 255 (s.flc.running.a.content + k)
            ∧ t.flc.last.b.content = min 255 (s.flc.running.b.content + k))
      ∧ t.flc.breakA = lastA s.flc.verdicts ∧ t.flc.breakB = firstB s.flc.verdicts
      ∧ (2 ≤ t.flc.foreignCount →
          t.flc.mode = .halted ∧ t.flc.halt = some .foreignBeacon ∧ t.flc.reasons = .empty
            ∧ t.flc.progress = none)
      ∧ (t.flc.foreignCount < 2 → t.flc.progress = some { p with closed := true })
      ∧ (t.flc.foreignCount < 2 → s.flc.mode = .running →
          t.flc.mode = (if t.flc.conditions.any then .degraded else .running)
          ∧ (t.flc.conditions.any = true → t.flc.reasons = t.flc.conditions ∧ t.flc.recovery = 0)
          ∧ (t.flc.conditions.any = false →
              t.flc.reasons = s.flc.reasons ∧ t.flc.recovery = s.flc.recovery))
      ∧ (t.flc.foreignCount < 2 → s.flc.mode = .degraded →
          (t.flc.mode = .running ↔
            s.flc.echoAB = true ∧ s.flc.echoBA = true ∧ s.flc.running.a.syntaxErrors < 8
              ∧ s.flc.running.b.syntaxErrors < 8 ∧ 40 ≤ s.flc.recovery + 1)
          ∧ (t.flc.mode = .running → t.flc.reasons = .empty ∧ t.flc.recovery = 0)
          ∧ (t.flc.mode ≠ .running →
              t.flc.mode = .degraded ∧ t.flc.reasons = s.flc.reasons.union t.flc.conditions
              ∧ t.flc.recovery = (if s.flc.echoAB ∧ s.flc.echoBA ∧ s.flc.running.a.syntaxErrors < 8
                  ∧ s.flc.running.b.syntaxErrors < 8 then s.flc.recovery + 1 else 0)))
      ∧ (∀ (u : State) (cls : Option NoticeClass),
          u = ((s.closing p).takeAnnounces (mergedAnnounces s.flc.announces)).lapseGrants →
          cls = (if 2 ≤ t.flc.foreignCount then some .urgent
            else if s.flc.mode = .running then (if t.flc.mode = .degraded then some .urgent else none)
            else if t.flc.mode = .running then some .routine
            else if t.flc.reasons = s.flc.reasons then none
            else some .urgent) →
          t = ({ u.loopNoticed cls
                  { mode := t.flc.mode, reasons := t.flc.reasons, halt := t.flc.halt,
                    attempts := s.flc.attempts, round := s.flc.round, breakA := lastA s.flc.verdicts,
                    breakB := firstB s.flc.verdicts } with
                flc := t.flc } : State).closeWind.closeSite.assess)

/-! ## Readings, wind and gusts -/

/-- A delivered frame's reading is handed on where the station is ACTIVE before or after the verdict and the
code uses it (R34), limited to its range and at its top for RANGE_HIGH (R37): a MAST reading becomes the round
reading of the mast, which the fresh mark starts afresh (R46), and clears the mark; a DUST reading replaces
the monitor's hold with its flags (R77); a GAUGE reading replaces the gauge's (R70). Nothing else of the wind
or the site changes. [Log 17: SLOT_END may name any slot that has not ended. Log 33: a fresh mark not yet
handed on stays with the station.] -/
def Obligations.ReadingsAreHandedOn : Prop :=
  ∀ (s : State) (p : Progress) (n : Nat) (x : Station) (f : StationFrame) (hA hB gate fresh : Bool),
    s.flc.mode.runs = true → s.flc.progress = some p → p.inWindow (.slot n) = true → n ≤ 48 →
    s.station n = some x →
    mergeCopies (s.flc.validCopy n .a) (s.flc.validCopy n .b) = .delivered f hA hB →
    gate = decide ((x.live = .active ∨ (x.live = .warming ∧ x.warm ≤ 1) ∨ (x.live = .suspect ∧ x.warm ≤ 1)
        ∨ (x.live = .quieting ∧ f.code ≠ 15))
      ∧ (f.code = 0 ∨ f.code = 2 ∨ f.code = 4 ∨ f.code = 15)) →
    fresh = (x.fresh || decide (x.live = .warming ∧ x.warm ≤ 1) || decide (x.live = .suspect ∧ x.warm = 1)) →
    ∃ t y, exec (.slotEnd n) s = .next t ∧ t.station n = some y
      ∧ (gate = false → t.wgt = s.wgt ∧ t.spm = s.spm ∧ y.fresh = fresh)
      ∧ (gate = true → ∀ speed direction, f.reading = .mast speed direction →
          y.fresh = false ∧ t.spm = s.spm ∧ t.wgt = { s.wgt with masts := t.wgt.masts }
          ∧ (∀ k, k ≠ n → t.mast k = s.mast k)
          ∧ (∀ m, s.mast n = some m → ∃ m', t.mast n = some m'
              ∧ m'.reading = some { speed := if f.code = 4 then 750 else min 750 speed,
                                    direction := direction, heater := decide (f.code = 2) }
              ∧ m'.heater = m.heater ∧ m'.summary = m.summary
              ∧ (fresh = true → m'.ring = List.replicate 12 none ∧ m'.acc = none ∧ m'.disagree = 0)
              ∧ (fresh = false → m'.ring = m.ring ∧ m'.acc = m.acc ∧ m'.disagree = m.disagree)))
      ∧ (gate = true → ∀ conc, f.reading = .dust conc →
          y.fresh = fresh ∧ t.wgt = s.wgt ∧ t.spm = { s.spm with monitors := t.spm.monitors }
          ∧ (∀ k, k ≠ n → t.monitor k = s.monitor k)
          ∧ (∀ m, s.monitor n = some m → t.monitor n = some
              { m with value := some (if f.code = 4 then 20000 else min 20000 conc, s.flc.round),
                       heater := decide (f.code = 2), rangeHigh := decide (f.code = 4),
                       goingQuiet := decide (f.code = 15) }))
      ∧ (gate = true → ∀ humidity rain, f.reading = .gauge humidity rain →
          y.fresh = fresh ∧ t.wgt = s.wgt ∧ t.spm = { s.spm with gauges := t.spm.gauges }
          ∧ (∀ k, k ≠ n → t.gauge k = s.gauge k)
          ∧ (∀ g, s.gauge n = some g → t.gauge n = some
              { g with reading := some { humidity := if f.code = 4 then 100 else min 100 humidity,
                                         rain := rain, heater := decide (f.code = 2),
                                         round := s.flc.round } }))

/-- At each round close one entry is pushed into the ring of every mast, formed from its round reading, which
becomes absent (R47), and the accumulator is seeded or moved by it, never above 384,000 (R48); the mean is
floor(A / 512), and a mast with a present entry has a mean. The masts are those that the apply of the same
round close leaves (R66). [Log 17: a close taken before every slot has ended.] -/
def Obligations.RoundCloseShiftsTheRings : Prop :=
  ∀ (s : State) (p : Progress), s.flc.mode.runs = true → s.flc.progress = some p → p.closed = false →
    ∃ t, exec .roundClose s = .next t ∧ ∀ n,
      ((s.closing p).mast n = none → t.mast n = none)
      ∧ (∀ m, (s.closing p).mast n = some m → ∃ m', t.mast n = some m' ∧ m'.reading = none
          ∧ ((∀ r, m.reading = some r → 360 ≤ r.direction) →
              m'.ring = m.ring.drop 1 ++ [none] ∧ m'.acc = m.acc ∧ m'.heater = m.heater)
          ∧ (∀ r, m.reading = some r → r.direction < 360 →
              m'.ring = m.ring.drop 1 ++ [some { speed := r.speed, direction := r.direction }]
              ∧ m'.heater = r.heater
              ∧ (m.acc = none → m'.acc = some (r.speed * 512))
              ∧ (∀ a, m.acc = some a → m'.acc = some (a - a / 512 + r.speed)))
          ∧ m'.summary.mean = m'.acc.map (fun a => a / 512)
          ∧ ((∀ a, m.acc = some a → a ≤ 384000) → (∀ r, m.reading = some r → r.speed ≤ 750) →
              ∀ a, m'.acc = some a → a ≤ 384000)
          ∧ (((∃ e, some e ∈ m.ring) → m.acc ≠ none) → (∃ e, some e ∈ m'.ring) → m'.acc ≠ none))

/-- The values that a round close forms from a mast's ring and keeps with them (R49, R52, R53): `m` stands
with the lead mast's latest direction and the gust parameters in force. -/
structure MastJudged (leadDir : Option Nat) (gThr gExc : Nat) (m : Mast) : Prop where
  present : m.summary.present = (m.ring.filterMap id).length
  available : m.summary.available = decide (4 ≤ m.summary.present)
  none_ : m.ring.filterMap id = [] →
    m.summary.peak = none ∧ m.summary.gustDir = none ∧ m.summary.latestDir = none
  peak : ∀ x ∈ m.ring.filterMap id, ∃ q, m.summary.peak = some q ∧ x.speed ≤ q
  gustDir : ∀ q, m.summary.peak = some q → ∃ before x later, m.ring.filterMap id = before ++ x :: later
    ∧ x.speed = q ∧ m.summary.gustDir = some x.direction ∧ ∀ y ∈ later, y.speed ≠ q
  latestDir : m.summary.latestDir = (m.ring.filterMap id).getLast?.map (fun x => x.direction)
  fields : m.summary.disagree = m.disagree ∧ m.summary.heater = m.heater
    ∧ m.summary.doubtful = decide (12 ≤ m.disagree)
  effective : m.summary.available = true →
    m.summary.effGust = (if m.summary.doubtful then leadDir else m.summary.gustDir)
      ∧ m.summary.effLatest = (if m.summary.doubtful then leadDir else m.summary.latestDir)
  absent : m.summary.available = false → m.summary.effGust = none ∧ m.summary.effLatest = none
  gusting : m.summary.gusting = true ↔ m.summary.available = true
    ∧ ∃ q mean, m.summary.peak = some q ∧ m.summary.mean = some mean ∧ gThr ≤ q ∧ mean + gExc ≤ q

/-- What a round close makes of the masts (R49 to R54, R64): each mast's values, the lead mast as the
available one of the highest mean and the lowest slot among equals, the wind-blind flag, the disagreement
counters of the other available masts, and the counted gusts. [Log 17: a close taken before every slot has
ended.] -/
def Obligations.RoundCloseJudgesTheWind : Prop :=
  ∀ (s : State) (p : Progress), s.flc.mode.runs = true → s.flc.progress = some p → p.closed = false →
    s.TablesOk → s.GustsOk →
    ∃ t, exec .roundClose s = .next t
      ∧ (∀ m ∈ t.wgt.masts,
          MastJudged t.wgt.site.leadDir t.cau.site.gThr t.cau.site.gExc m
          ∧ (∀ id, m.summary.counted = some id ↔ ∃ g ∈ t.wgt.gusts, g.id = id ∧ m.slot ∈ g.members
              ∧ (g.state = .confirmed ∨ (g.state = .opened ∧ t.wgt.site.available = 1))))
      ∧ t.wgt.site.available = (t.wgt.masts.filter (fun m => m.summary.available)).length
      ∧ t.wgt.windBlind = t.wgt.site.lead.isNone
      ∧ (t.wgt.site.lead = none →
          t.wgt.site.available = 0 ∧ t.wgt.site.leadMean = none ∧ t.wgt.site.leadDir = none)
      ∧ (∀ n, t.wgt.site.lead = some n → ∃ m, t.mast n = some m ∧ m.summary.available = true
          ∧ t.wgt.site.leadMean = m.summary.mean ∧ t.wgt.site.leadDir = m.summary.latestDir
          ∧ ∀ x ∈ t.wgt.masts, x.summary.available = true →
              x.summary.mean.getD 0 < m.summary.mean.getD 0
              ∨ (x.summary.mean.getD 0 = m.summary.mean.getD 0 ∧ n ≤ x.slot))
      ∧ (∀ n m m', (s.closing p).mast n = some m → t.mast n = some m' →
          (t.wgt.site.lead = none ∨ t.wgt.site.lead = some n ∨ m'.summary.available = false
            ∨ m'.summary.mean.getD 0 < 30 → m'.disagree = m.disagree)
          ∧ (∀ leadDir dir, t.wgt.site.lead ≠ some n → m'.summary.available = true →
              30 ≤ m'.summary.mean.getD 0 → t.wgt.site.leadDir = some leadDir →
              m'.summary.latestDir = some dir →
              m'.disagree = (if 60 < angleBetween dir leadDir then min 15 (m.disagree + 1) else 0)))

/-- The gust list at a round close (R57 to R63). A mast that meets the condition refreshes the record that it
is a member of, joins the nearest record that qualifies, opens a record of its own in the place of the oldest
CLOSED one where the list is full, or is merged into the nearest of 16 that are not CLOSED, each with its
notices (R65). After the round close every gusting mast is a member of a record active in that round, no
record 8 rounds without activity is left open, and none closed for 240 rounds is left. [Log 17: a close taken
before every slot has ended.] -/
def Obligations.GustsAreJoinedOpenedAndMerged : Prop :=
  (∀ (s : State) (slot dir peak : Nat) (t : State), s.GustsOk → t = s.gustMember slot dir peak →
    KeepsBut [.wgt, .pif] s t
    ∧ t.wgt = { s.wgt with gusts := t.wgt.gusts, nextId := t.wgt.nextId }
    ∧ (∀ before g after, s.wgt.gusts = before ++ g :: after → g.state ≠ .closed → slot ∈ g.members →
        t.wgt.gusts = before ++ { g with lastActive := s.flc.round, peak := max g.peak peak } :: after
        ∧ t.wgt.nextId = s.wgt.nextId ∧ t.pif = s.pif)
    ∧ ((∀ g ∈ s.wgt.gusts, g.state ≠ .closed → slot ∉ g.members) →
      (∀ before g g' after, s.wgt.gusts = before ++ g :: after → g.joinable s.flc.round dir = true →
        (∀ x ∈ before, x.joinable s.flc.round dir = true →
          angleBetween g.direction dir < angleBetween x.direction dir) →
        (∀ x ∈ after, x.joinable s.flc.round dir = true →
          angleBetween g.direction dir ≤ angleBetween x.direction dir) →
        g' = g.entered s.flc.round slot peak false →
        t.wgt.gusts = before ++ g' :: after ∧ t.wgt.nextId = s.wgt.nextId
        ∧ t.pif = (if g'.state = g.state then s else s.raise .routine
            (.gust (g'.notice .confirmed none s.flc.round (some slot)))).pif)
      ∧ ((∀ g ∈ s.wgt.gusts, g.joinable s.flc.round dir = false) →
        (s.wgt.gusts.length < 16 → ∃ id, t.wgt.gusts = s.wgt.gusts ++ [Gust.openedBy s id slot dir peak]
          ∧ (∀ g ∈ s.wgt.gusts, g.id ≠ id)
          ∧ ((∀ g ∈ s.wgt.gusts, g.id ≠ s.wgt.nextId) → id = s.wgt.nextId)
          ∧ t.wgt.nextId = (if id = 65535 then 1 else id + 1)
          ∧ t.pif = (s.raise .routine
              (.gust ((Gust.openedBy s id slot dir peak).notice .opened none s.flc.round none))).pif)
        ∧ (∀ before g after, 16 ≤ s.wgt.gusts.length → s.wgt.gusts = before ++ g :: after →
          g.state = .closed → (∀ x ∈ before, x.state ≠ .closed) →
          ∃ id, t.wgt.gusts = before ++ after ++ [Gust.openedBy s id slot dir peak]
            ∧ (∀ x ∈ before ++ after, x.id ≠ id)
            ∧ ((∀ x ∈ before ++ after, x.id ≠ s.wgt.nextId) → id = s.wgt.nextId)
            ∧ t.wgt.nextId = (if id = 65535 then 1 else id + 1)
            ∧ t.pif = ((s.raise .routine
                (.gust (g.notice .removed (some .room) s.flc.round none))).raise .routine
                (.gust ((Gust.openedBy s id slot dir peak).notice .opened none s.flc.round none))).pif)
        ∧ (∀ before g g' after, 16 ≤ s.wgt.gusts.length → s.wgt.gusts = before ++ g :: after →
          (∀ x ∈ s.wgt.gusts, x.state ≠ .closed) →
          (∀ x ∈ before, angleBetween g.direction dir < angleBetween x.direction dir) →
          (∀ x ∈ after, angleBetween g.direction dir ≤ angleBetween x.direction dir) →
          g' = g.entered s.flc.round slot peak true →
          t.wgt.gusts = before ++ g' :: after ∧ t.wgt.nextId = s.wgt.nextId
          ∧ (g'.state = g.state → t.pif = (s.raise .routine
              (.gust (g'.notice .merged none s.flc.round (some slot)))).pif)
          ∧ (g'.state ≠ g.state → t.pif = ((s.raise .routine
              (.gust ({ g' with state := g.state }.notice .merged none s.flc.round (some slot)))).raise
              .routine (.gust (g'.notice .confirmed none s.flc.round (some slot)))).pif)))))
  ∧ (∀ (s : State) (p : Progress), s.flc.mode.runs = true → s.flc.progress = some p → p.closed = false →
    s.TablesOk → s.GustsOk →
    ∃ t, exec .roundClose s = .next t
      ∧ (∀ m ∈ t.wgt.masts, m.summary.gusting = true → ∃ g ∈ t.wgt.gusts, g.state ≠ .closed
          ∧ m.slot ∈ g.members ∧ g.lastActive = s.flc.round ∧ m.summary.peak.getD 0 ≤ g.peak)
      ∧ (∀ g ∈ t.wgt.gusts, g.state ≠ .closed → (s.flc.round - g.lastActive).toNat < 8)
      ∧ (∀ g ∈ t.wgt.gusts, g.state = .closed → ∀ c, g.closedRound = some c →
          (s.flc.round - c).toNat < 240))

/-! ## The site, the piles and the paths -/

/-- The candidate band of R73 for a lowest humidity, by the band in force: `BandRow p h c band`. -/
def BandRow (p : SiteParams) (h : Nat) (c : Band) : Band → Prop
  | .wet => (c = .damp ↔ p.tDamp ≤ h) ∧ (c = .dry ↔ p.tParch ≤ h ∧ h < p.tDamp)
      ∧ (c = .parched ↔ h < p.tParch)
  | .damp => (c = .damp ↔ p.tDamp - p.hy ≤ h ∧ p.tParch ≤ h)
      ∧ (c = .dry ↔ p.tParch ≤ h ∧ h < p.tDamp - p.hy) ∧ (c = .parched ↔ h < p.tParch)
  | .dry => (c = .damp ↔ p.tDamp + p.hy ≤ h)
      ∧ (c = .dry ↔ p.tParch - p.hy ≤ h ∧ h < p.tDamp + p.hy) ∧ (c = .parched ↔ h < p.tParch - p.hy)
  | .parched => (c = .damp ↔ p.tDamp ≤ h ∧ p.tParch + p.hy ≤ h)
      ∧ (c = .dry ↔ p.tParch + p.hy ≤ h ∧ h < p.tDamp) ∧ (c = .parched ↔ h < p.tParch + p.hy)

/-- The round close of the site: the ages of gauges and holds and which are current (R71, R78), the site
values (R71), the band by rain, candidate and persistence or by the no-gauge hold (R72 to R75), and the
dryness step of every pile at the band's interval (R80). [Log 17: a close taken before every slot has ended.] -/
def Obligations.RoundCloseEvaluatesTheSite : Prop :=
  ∀ (s : State) (p : Progress) (u : State), s.flc.mode.runs = true → s.flc.progress = some p →
    p.closed = false → u = s.closing p → u.cau.site.tParch < u.cau.site.tDamp →
    ∃ t, exec .roundClose s = .next t
      ∧ t.spm.gauges.map (fun g => (g.slot, g.reading)) = u.spm.gauges.map (fun g => (g.slot, g.reading))
      ∧ (∀ g ∈ t.spm.gauges, g.age = g.reading.map (fun r => (s.flc.round - r.round).toNat)
          ∧ (g.current = true ↔ ∃ a, g.age = some a ∧ a ≤ 8))
      ∧ t.spm.monitors.map (fun m => (m.slot, m.value, m.heater, m.rangeHigh, m.goingQuiet)) =
          u.spm.monitors.map (fun m => (m.slot, m.value, m.heater, m.rangeHigh, m.goingQuiet))
      ∧ (∀ m ∈ t.spm.monitors, m.age = m.value.map (fun v => (s.flc.round - v.2).toNat)
          ∧ (m.current = true ↔ ∃ a, m.age = some a ∧ a ≤ 8))
      ∧ t.spm.gaugesAtClose = (t.spm.gauges.filter (fun g => g.current)).length
      ∧ (t.spm.lowestRh = none ↔ t.spm.gaugesAtClose = 0)
      ∧ (∀ h, t.spm.lowestRh = some h →
          (∃ g ∈ t.spm.gauges, g.current = true ∧ g.reading.map (fun r => r.humidity) = some h)
          ∧ ∀ g ∈ t.spm.gauges, g.current = true → ∀ r, g.reading = some r → h ≤ r.humidity)
      ∧ (t.spm.rain = true ↔
          ∃ g ∈ t.spm.gauges, g.current = true ∧ g.reading.map (fun r => r.rain) = some true)
      ∧ (t.spm.gaugesAtClose = 0 → t.spm.pendingBand = none ∧ t.spm.persistence = 0
          ∧ t.spm.noGauge = min 2400 (u.spm.noGauge + 1)
          ∧ t.spm.band = (if t.spm.noGauge = 2400 ∧ u.spm.noGauge ≠ 2400 then .dry else u.spm.band))
      ∧ (∀ h, t.spm.lowestRh = some h → t.spm.noGauge = 0 ∧ ∃ c,
          (t.spm.rain = true → c = .wet)
          ∧ (t.spm.rain = false → c ≠ .wet ∧ BandRow u.cau.site h c u.spm.band)
          ∧ (c = u.spm.band ∨ c = .wet →
              t.spm.band = c ∧ t.spm.pendingBand = none ∧ t.spm.persistence = 0)
          ∧ (c ≠ u.spm.band → c ≠ .wet → u.spm.pendingBand ≠ some c →
              t.spm.band = u.spm.band ∧ t.spm.pendingBand = some c ∧ t.spm.persistence = 1)
          ∧ (c ≠ u.spm.band → c ≠ .wet → u.spm.pendingBand = some c → u.spm.persistence + 1 < 240 →
              t.spm.band = u.spm.band ∧ t.spm.pendingBand = some c
                ∧ t.spm.persistence = u.spm.persistence + 1)
          ∧ (c ≠ u.spm.band → c ≠ .wet → u.spm.pendingBand = some c → 240 ≤ u.spm.persistence + 1 →
              t.spm.band = c ∧ t.spm.pendingBand = none ∧ t.spm.persistence = 0))
      ∧ (∀ n q, u.pile n = some q → ∃ q', t.pile n = some q' ∧ q'.cfg = q.cfg
          ∧ q'.activity = q.activity ∧ q'.wetting = q.wetting
          ∧ (t.spm.band = .wet → q'.dryness = q.dryness ∧ q'.sub = q.sub)
          ∧ (∀ i, (t.spm.band = .damp ∧ i = 2 * u.cau.site.interval)
                ∨ (t.spm.band = .dry ∧ i = u.cau.site.interval)
                ∨ (t.spm.band = .parched ∧ i = u.cau.site.interval / 2) →
              (i ≤ q.sub + 1 → q'.dryness = min 255 (q.dryness + 1) ∧ q'.sub = 0)
              ∧ (q.sub + 1 < i → q'.dryness = q.dryness ∧ q'.sub = q.sub + 1)))

/-- The mast that a pile's wind comes from, and its place in the order of R94: the assigned mast, the fallback
mast, the lead mast, whichever is available first. -/
def WindFrom (t : State) (c : PileCfg) (w : WindChoice) : Prop :=
  ((t.availableMast c.assigned).isSome → w.source = .assigned ∧ w.mast = c.assigned)
  ∧ (t.availableMast c.assigned = none → ∀ n, c.fallback = some n → (t.availableMast n).isSome →
      w.source = .fallback ∧ w.mast = n)
  ∧ (t.availableMast c.assigned = none → (∀ n, c.fallback = some n → t.availableMast n = none) →
      w.source = .lead ∧ t.wgt.site.lead = some w.mast)

/-- What an assessment gives a pile (R95 to R97, R84): the wind of its mast, by the counted gust or by the
mean, the lift threshold, the excess, the emission, the ESTIMATED flag and the advice. -/
structure PileAssessed (t : State) (q : Pile) (w : WindChoice) (v : PileValues) (m : Mast) : Prop where
  from_ : WindFrom t q.cfg w
  gust : ∀ id, m.summary.counted = some id →
    w.basis = .gust ∧ w.gust = some id ∧ w.direction = m.summary.effGust.getD 0
      ∧ v.u = m.summary.peak.getD 0
  mean : m.summary.counted = none →
    w.basis = .mean ∧ w.gust = none ∧ w.direction = m.summary.effLatest.getD 0
      ∧ v.u = m.summary.mean.getD 0
  lift : v.ut = t.cau.site.u0 - q.dryness * t.cau.site.span / 255
  excess : v.e = v.u - v.ut
  emission : v.emission = v.e * v.e * q.cfg.size / 16 * (if q.activity = .idle then 1 else 2)
  estimated : q.estimated = decide (w.source = .lead)
  wetNow : 0 < v.e → q.advice = .wetNow
  wetSoon : v.e = 0 → v.ut ≤ t.wgt.site.leadMean.getD 0 + t.cau.site.gExc → q.advice = .wetSoon
  none_ : v.e = 0 → t.wgt.site.leadMean.getD 0 + t.cau.site.gExc < v.ut → q.advice = .none

/-- What an assessment gives a path of an assessed pile (R98 to R100). -/
def PathAssessed (c : PathCfg) (emission direction : Nat) (x : PathResult) : Prop :=
  let d := ((direction + 180) % 360 - c.bearing) + (c.bearing - (direction + 180) % 360)
  x.angle = (if 180 < d then 360 - d else d)
    ∧ x.weight = (if c.halfWidth ≤ x.angle then 0 else 1024 * (c.halfWidth - x.angle) / c.halfWidth)
    ∧ x.share = emission * x.weight / 1024 * 500 / c.distance

/-- The assessment of a round close. With a lead mast every pile gets its wind and values (R94 to R97) and its
advice (R84), every path its angle, weight and share (R98 to R100), and every zone its modelled sum, dominant
pile, gust id and modelled index (R101, R102). On a wind-blind site piles, winds and paths keep theirs (R93),
and a zone's modelled fields hold for 240 assessments and then become 0 (R105). [Log 17: a close taken before
every slot has ended.] -/
def Obligations.RoundCloseAssessesPilesAndPaths : Prop :=
  ∀ (s : State) (p : Progress) (u : State), s.flc.mode.runs = true → s.flc.progress = some p →
    p.closed = false → u = s.closing p → s.TablesOk →
    ∃ t, exec .roundClose s = .next t
      ∧ (t.wgt.windBlind = false →
        (∀ n q, t.pile n = some q → ∃ w m v, t.wind n = some w ∧ t.availableMast w.mast = some m
          ∧ q.values = some v ∧ PileAssessed t q w v m)
        ∧ (∀ r ∈ t.rke.paths, ∀ q w v, t.pile r.cfg.pile = some q → t.wind r.cfg.pile = some w →
          q.values = some v → ∃ x, r.result = some x ∧ PathAssessed r.cfg v.emission w.direction x)
        ∧ (∀ r ∈ t.rke.zones, ∀ z total, t.zone r.zone = some z →
          total = ((t.pathsTo r.zone).map Path.share).sum →
          r.sum = min 16777215 total ∧ r.modelled = min 1000 (r.sum * 1000 / z.cfg.fm)
          ∧ r.blindCount = 0
          ∧ (total = 0 → r.dominant = none ∧ r.gust = none)
          ∧ (total ≠ 0 → ∃ x ∈ t.pathsTo r.zone, r.dominant = some x.cfg.pile
              ∧ r.gust = (t.wind x.cfg.pile).bind (fun w => w.gust)
              ∧ ∀ y ∈ t.pathsTo r.zone, y.share < x.share
                  ∨ (y.share = x.share ∧ x.cfg.pile ≤ y.cfg.pile))))
      ∧ (t.wgt.windBlind = true →
        t.rke.winds = u.rke.winds ∧ t.rke.paths = u.rke.paths
        ∧ (∀ n q, u.pile n = some q → ∃ q', t.pile n = some q' ∧ q'.values = q.values
            ∧ q'.advice = q.advice ∧ q'.estimated = q.estimated)
        ∧ (∀ n r, u.zoneResult n = some r → ∃ r', t.zoneResult n = some r'
            ∧ r'.blindCount = min 241 (r.blindCount + 1)
            ∧ (r'.blindCount ≤ 240 → r'.sum = r.sum ∧ r'.dominant = r.dominant ∧ r'.gust = r.gust
                ∧ r'.modelled = r.modelled)
            ∧ (r'.blindCount = 241 → r'.sum = 0 ∧ r'.dominant = none ∧ r'.gust = none
                ∧ r'.modelled = 0)))

/-- Every zone result that a round close leaves is of that round and within its ranges (R102, R105, R106,
R108). Its monitor results follow from the holds by the zone's background and scale (R103), and the measured
index and BLIND from them (R104). It is what its zone has taken (R107, R115): the zone stands as that one
delivery leaves it, but for the number of its LEVEL entry. [Log 17: a close taken before every slot has
ended.] -/
def Obligations.RoundCloseDeliversEveryZone : Prop :=
  ∀ (s : State) (p : Progress), s.flc.mode.runs = true → s.flc.progress = some p → p.closed = false →
    s.TablesOk →
    ∃ t, exec .roundClose s = .next t
      ∧ (s.cau.state ≠ .accepted → t.inForce = s.inForce ∧ t.cau = s.cau)
      ∧ (∀ r ∈ t.rke.zones, r.round = some s.flc.round ∧ r.risk = max r.modelled r.measured
          ∧ r.measured ≤ 1000 ∧ r.noModel = t.wgt.windBlind
          ∧ (t.wgt.windBlind = false → r.modelled ≤ 1000 ∧ r.sum ≤ 16777215 ∧ r.blindCount = 0)
          ∧ ∃ z, t.zone r.zone = some z ∧ z.blind = r.blind ∧ z.noModel = r.noModel
            ∧ z.last = some { round := s.flc.round, risk := r.risk, modelled := r.modelled,
                              measured := r.measured, dominant := r.dominant, gust := r.gust }
            ∧ r.monitors.map (fun m => m.slot) = z.cfg.monitors
            ∧ (∀ m ∈ r.monitors,
                (∀ hold c round, t.monitor m.slot = some hold → hold.current = true →
                  hold.value = some (c, round) →
                  m.net = some (c - z.cfg.background)
                    ∧ m.index = some (min 1000 ((c - z.cfg.background) * 1000 / z.cfg.fd)))
                ∧ ((∀ hold, t.monitor m.slot = some hold → hold.current = false) →
                  m.net = none ∧ m.index = none)
                ∧ (∀ i, m.index = some i → i ≤ r.measured))
            ∧ (r.measured ≠ 0 → ∃ m ∈ r.monitors, m.index = some r.measured)
            ∧ (r.blind = true ↔ z.cfg.monitors ≠ [] ∧ ∀ m ∈ r.monitors, m.index = none)
            ∧ ∃ before fresh, (s.closing p).zone r.zone = some before
              ∧ ((s.closing p).deliverRisk
                  { zone := r.zone, round := s.flc.round, risk := r.risk, modelled := r.modelled,
                    measured := r.measured, dominant := r.dominant, gust := r.gust, blind := r.blind,
                    noModel := r.noModel }).zone r.zone = some fresh
              ∧ z = { fresh with levelSeq := z.levelSeq }
              ∧ (z.level = before.level → z.levelSeq = before.levelSeq))
      ∧ t.zwc.zones.map (fun z => z.cfg.zone) = t.rke.zones.map (fun r => r.zone)

/-! ## The output lines -/

/-- A short on a driving line (R140): RETRY_WAIT to the second tick after it, or LATCHED at the 8th, with the
zone's DARK judged anew unless the line was faulty already, and the LINE notice LATCHED. A RETRY_WAIT ends at
its tick in the state that the demand in force calls for, the short count kept (R141). [Log 2: the time of an
end taken late. Log 11: an idle transmitter takes the first notice. Log 30: a line that does not drive has no
short.] -/
def Obligations.ShortsRetryThenLatch : Prop :=
  (∀ (s : State) (n : Nat) (l : Line), s.line n = some l → l.state = .on →
    ∃ t l', exec (.short n) s = .next t ∧ KeepsBut [.oda, .zwc, .pif] s t ∧ PortsQuiet s t
      ∧ LinesBut [n] s t ∧ ZonesBut (zoneOfLine n) s t
      ∧ t.line n = some l' ∧ l'.short = l.short + 1 ∧ l'.clean = 0 ∧ l'.driveStart = none
      ∧ l'.demand = l.demand ∧ l'.openFlag = l.openFlag ∧ l'.openMiss = l.openMiss
      ∧ l'.openPresent = l.openPresent
      ∧ (l.short + 1 < 8 → l'.state = .retryWait ∧ l'.retryEnd = some (s.seconds + 2)
          ∧ t.zwc = s.zwc ∧ t.pif = s.pif)
      ∧ (8 ≤ l.short + 1 → l'.state = .latched ∧ l'.retryEnd = none)
      ∧ (8 ≤ l.short + 1 → l.openFlag = true ∨ s.zone (zoneOfLine n) = none →
          t.zwc = s.zwc ∧ t.pif = (s.raise .urgent (.line (l'.notice s.seconds .latched))).pif)
      ∧ (8 ≤ l.short + 1 → l.openFlag = false → ∀ z, s.zone (zoneOfLine n) = some z →
          t.zone (zoneOfLine n) = some { z with dark := t.bothFaulty (zoneOfLine n) }
          ∧ t.pif = ((s.darkNoticed z (t.bothFaulty (zoneOfLine n))).raise .urgent
              (.line (l'.notice s.seconds .latched))).pif))
  ∧ (∀ (s : State) (n : Nat) (l : Line), s.line n = some l → l.state ≠ .on →
      exec (.short n) s = .next s)
  ∧ (∀ (s : State) (n : Nat) (l : Line) (e : Seconds), s.line n = some l → l.state = .retryWait →
    l.retryEnd = some e →
    ∃ t, exec (.retryWaitEnd n) s = .next t ∧ KeepsBut [.now, .oda] s t ∧ t.now = max s.now (e * 1000000)
      ∧ LinesBut [n] s t
      ∧ (s.oda.calls l.demand = true →
          t.line n = some { l with state := .on, retryEnd := none, driveStart := some t.now })
      ∧ (s.oda.calls l.demand = false →
          t.line n = some { l with state := .off, retryEnd := none, driveStart := none }))

/-- At a phase change of a generator the lines that are OFF or ON and flash with it follow it, a line that
goes ON with that moment as its drive start; every other line stays as it is (R138, R139). At the clean-count
step (R142) an engaged line counts one clean second, up to 10, and at 10 its short count returns to 0; the
count of a line that is not engaged is held. [Logs 2 and 26: the times, from the counts of the events that
have taken place.] -/
def Obligations.PhasesAndCleanSecondsReachTheLines : Prop :=
  (∀ (s : State) (g : Generator),
    ∃ t, exec (.patternPhaseChange g) s = .next t ∧ KeepsBut [.now, .oda] s t
      ∧ t.now = max s.now (match g with
          | .slow => (s.oda.slowChanges + 1) * 1000000
          | .fast => (s.oda.fastChanges + 1) * 250000)
      ∧ t.oda.slowOn = (match g with
          | .slow => !s.oda.slowOn
          | .fast => s.oda.slowOn)
      ∧ t.oda.fastOn = (match g with
          | .slow => s.oda.fastOn
          | .fast => !s.oda.fastOn)
      ∧ (∀ n l, s.line n = some l → ∃ l', t.line n = some l'
          ∧ l' = { l with state := l'.state, driveStart := l'.driveStart }
          ∧ (l.demand ≠ generatorDemand g → l' = l)
          ∧ (l.state = .retryWait ∨ l.state = .latched → l' = l)
          ∧ (l.demand = generatorDemand g → l.state = .off ∨ l.state = .on →
              l'.state = (if t.oda.calls l.demand then .on else .off)
              ∧ (t.oda.calls l.demand = false → l'.driveStart = none)
              ∧ (t.oda.calls l.demand = true → l.state = .off → l'.driveStart = some t.now)
              ∧ (t.oda.calls l.demand = true → l.state = .on → l'.driveStart = l.driveStart))))
  ∧ (∀ s : State, ∃ t, exec .cleanCountTick s = .next t ∧ KeepsBut [.now, .oda] s t
    ∧ t.now = max s.now ((s.oda.cleanTicks + 1) * 1000000)
    ∧ (∀ n l, s.line n = some l →
        (l.engaged = false → t.line n = some l)
        ∧ (l.engaged = true → 9 ≤ l.clean → t.line n = some { l with clean := 10, short := 0 })
        ∧ (l.engaged = true → l.clean < 9 → t.line n = some { l with clean := l.clean + 1 })))

/-- A check counts for a line that has driven for 100 ms (R144): three in a row without load current set the
OPEN flag, three in a row with it clear the flag (R145); any other line is passed over. Each change of the
flag is reported to the zone of the line, which judges DARK anew from both of its lines (R130, R147), and
raises the LINE notice OPEN or OPEN_CLEARED (R148); the lines are taken one after another. [Logs 2 and 26: the
time, from the count of the checks that have taken place. Log 32: lines 1 to 32 in ascending order. Log 11: an
idle transmitter takes the first notice.] -/
def Obligations.ThreeChecksMoveTheOpenFlag : Prop :=
  (∀ (s : State) (sense : BitVec 32),
    ∃ t, exec (.lineCheck sense) s = .next t ∧ KeepsBut [.now, .oda, .zwc, .pif] s t ∧ PortsQuiet s t
      ∧ t.now = max s.now (s.oda.checks * 250000 + 125000)
      ∧ (∀ n l, 1 ≤ n → n ≤ 32 → s.line n = some l → ∃ l', t.line n = some l'
          ∧ l' = { l with openFlag := l'.openFlag, openMiss := l'.openMiss, openPresent := l'.openPresent }
          ∧ (l.checkCounts t.now = false → l' = l)
          ∧ (l.checkCounts t.now = true → sense.getLsbD (n - 1) = true →
              l'.openMiss = 0 ∧ l'.openPresent = min 3 (l.openPresent + 1)
                ∧ l'.openFlag = (l.openFlag && decide (l.openPresent + 1 < 3)))
          ∧ (l.checkCounts t.now = true → sense.getLsbD (n - 1) = false →
              l'.openPresent = 0 ∧ l'.openMiss = min 3 (l.openMiss + 1)
                ∧ l'.openFlag = (l.openFlag || decide (3 ≤ l.openMiss + 1))))
      ∧ (∀ k z, s.zone k = some z → ∃ z', t.zone k = some z' ∧ z' = { z with dark := z'.dark }
          ∧ ((∀ n l l', 1 ≤ n → n ≤ 32 → zoneOfLine n = k → s.line n = some l → t.line n = some l' →
              l'.openFlag = l.openFlag) → z' = z)
          ∧ (∀ n l l', 1 ≤ n → n ≤ 32 → zoneOfLine n = k → s.line n = some l → t.line n = some l' →
              l'.openFlag ≠ l.openFlag → z'.dark = t.bothFaulty k))
      ∧ t = lineNumbers.foldl (fun u n => u.checkLine sense n)
          { s with now := t.now, oda := { s.oda with checks := s.oda.checks + 1 } })
  ∧ (∀ (s : State) (sense : BitVec 32) (n : Nat) (l : Line) (t : State), s.line n = some l →
    t = s.checkLine sense n →
    (l.checkCounts s.now = false → t = s)
    ∧ (∀ l', l.checkCounts s.now = true → t.line n = some l' →
      (l'.openFlag = l.openFlag → KeepsBut [.oda] s t)
      ∧ (∀ cls ev, l'.openFlag ≠ l.openFlag →
          (cls, ev) = (if l'.openFlag then (.urgent, .opened) else (.routine, .openCleared)) →
          KeepsBut [.oda, .zwc, .pif] s t
          ∧ (s.zone (zoneOfLine n) = none →
              t.zwc = s.zwc ∧ t.pif = (s.raise cls (.line (l'.notice s.seconds ev))).pif)
          ∧ (∀ z, s.zone (zoneOfLine n) = some z →
              t.zone (zoneOfLine n) = some { z with dark := t.bothFaulty (zoneOfLine n) }
              ∧ t.pif = ((s.darkNoticed z (t.bothFaulty (zoneOfLine n))).raise cls
                  (.line (l'.notice s.seconds ev))).pif))))

/-- CLEAR LINE (R146): a latched line takes the demand in force with its counts at 0 and the action is
recorded; the LINE notice LATCH_CLEARED is raised, and unless the OPEN flag stands the zone of the line judges
DARK anew (R130, R147, R148); a line that is not latched is REFUSED_STATE, and a number outside 1 to 32
REFUSED_RANGE. [Log 11: an idle transmitter takes a notice before the response. Log 12: the holding of a row.]
-/
def Obligations.ClearLineReleasesALatch : Prop :=
  ∀ (s : State) (tag line : Byte), tag ≠ 0 →
    (∀ l, 1 ≤ line.toNat → line.toNat ≤ 32 → s.line line.toNat = some l → l.state = .latched →
      ∃ t, exec (.clearLine .q tag line) s = .next t
        ∧ RowResult [.oda, .wrl, .zwc] s .q tag (.clearLine line) .done [] t
        ∧ LinesBut [line.toNat] s t ∧ ZonesBut (zoneOfLine line.toNat) s t
        ∧ t.wrl = s.logged (.action (.lineClear line.toNat) .q)
        ∧ (s.oda.calls l.demand = true → t.line line.toNat =
            some { l with state := .on, retryEnd := none, driveStart := some s.now, short := 0, clean := 0 })
        ∧ (s.oda.calls l.demand = false → t.line line.toNat =
            some { l with state := .off, retryEnd := none, driveStart := none, short := 0, clean := 0 })
        ∧ (∀ l', t.line line.toNat = some l' →
          (l.openFlag = true ∨ s.zone (zoneOfLine line.toNat) = none → t.zwc = s.zwc
            ∧ t.pif = s.portsNoticed .q tag (.clearLine line) .routine
                (.line (l'.notice s.seconds .latchCleared)) .done [])
          ∧ (∀ z, l.openFlag = false → s.zone (zoneOfLine line.toNat) = some z →
              t.zone (zoneOfLine line.toNat) = some { z with dark := t.bothFaulty (zoneOfLine line.toNat) }
              ∧ t.pif = (((((s.held .q ((Command.clearLine line).content tag)).raise .routine
                  (.line (l'.notice s.seconds .latchCleared))).darkNoticed z
                    (t.bothFaulty (zoneOfLine line.toNat))).reply
                      (rowAsked s .q tag (.clearLine line)) .done []).pif))))
    ∧ (∀ l, 1 ≤ line.toNat → line.toNat ≤ 32 → s.line line.toNat = some l → l.state ≠ .latched →
      ∃ t, exec (.clearLine .q tag line) s = .next t
        ∧ RowResult [] s .q tag (.clearLine line) .refusedState [] t)
    ∧ (line.toNat = 0 ∨ 32 < line.toNat →
      ∃ t, exec (.clearLine .q tag line) s = .next t
        ∧ RowResult [] s .q tag (.clearLine line) .refusedRange [bytes1 0] t)

/-! ## The zones -/

/-- FLOOR and the ends of floors. At a level above CLEAR (R121, R118) the role's floor is set for the minutes
limited to 1 to 240, which the response carries, and the zone rises to it where it stands below; a LEVEL
notice tells of the rise or of the floor, and a floor that lowers its role's floor starts the dwell anew. A
floor ends by FLOOR at CLEAR or at its expiry time (R121, R122): it is absent, the dwell counter is 0, the
level stays, and FLOOR_CLEAR is recorded with its origin and noticed; without a floor CLEAR has no effect. A
zone or a level out of range is REFUSED_RANGE, ALERT from the T-port REFUSED_ROLE, and after that a zone that
is not configured UNKNOWN_ITEM (R119, R121). [Log 2: the time of an expiry taken late. Log 11: an idle
transmitter takes the notice before the response. Log 12: the holding of a row.] -/
def Obligations.FloorsRaiseTheirZoneAndEndWithoutAFall : Prop :=
  (∀ (s : State) (port : Port) (tag zone level : Byte) (minutes : BitVec 16) (z : Zone) (l : Level)
    (m : Nat), tag ≠ 0 → port ≠ .s → 1 ≤ zone.toNat → zone.toNat ≤ 16 → s.zone zone.toNat = some z →
    levelOfCode level.toNat = some l → l ≠ .clear → ¬(port = .t ∧ l = .alert) →
    m = min 240 (max 1 minutes.toNat) →
    ∃ t z', exec (.floor port tag zone level minutes) s = .next t
      ∧ RowResult [.zwc, .oda, .wrl] s port tag (.floor zone level minutes) .done [bytes1 m] t
      ∧ ZoneOnly zone.toNat s t ∧ t.zone zone.toNat = some z' ∧ z'.cfg = z.cfg
      ∧ z'.floorOf port = some { level := l, expiry := s.seconds + m * 60 }
      ∧ (port = .t → z'.qFloor = z.qFloor) ∧ (port = .q → z'.tFloor = z.tFloor)
      ∧ z'.level = z.level.higher l
      ∧ (l.rank ≤ z.level.rank →
          z'.dwell = (if l.rank < (floorLevel (z.floorOf port)).rank then 0 else z.dwell)
            ∧ z'.riseWatch = z.riseWatch ∧ z'.riseWarn = z.riseWarn ∧ z'.riseAlert = z.riseAlert)
      ∧ z'.silence = z.silence ∧ z'.service = z.service ∧ z'.last = z.last
      ∧ z'.sign = z'.signDemand ∧ z'.siren = z'.sirenDemand
      ∧ (z.level.rank < l.rank → z'.cause = some (floorCause port)
          ∧ z'.levelSeq = some (s.wrl.nextSeq + 1) ∧ z'.dwell = 0 ∧ z'.riseWatch = 0 ∧ z'.riseWarn = 0
          ∧ z'.riseAlert = 0 ∧ (l = .alert → z'.alert = .unacked)
          ∧ (Level.warn.rank ≤ l.rank → z'.testEnd = none)
          ∧ t.pif = s.portsNoticed port tag (.floor zone level minutes)
              (if Level.warn.rank ≤ l.rank then .urgent else .routine)
              (.level (z'.notice s.seconds .level z.level l)) .done [bytes1 m])
      ∧ (l.rank ≤ z.level.rank → z'.alert = z.alert ∧ z'.testEnd = z.testEnd ∧ z'.cause = z.cause
          ∧ t.wrl = s.logged (.action (.floorSet zone.toNat l m) port)
          ∧ t.pif = s.portsNoticed port tag (.floor zone level minutes) .routine
              (.level (z'.notice s.seconds .floor z.level z.level)) .done [bytes1 m]))
  ∧ (∀ (s : State) (port : Port) (tag zone : Byte) (minutes : BitVec 16) (z : Zone) (f : Floor), tag ≠ 0 →
    port ≠ .s → 1 ≤ zone.toNat → zone.toNat ≤ 16 → s.zone zone.toNat = some z → z.floorOf port = some f →
    ∃ t, exec (.floor port tag zone 0 minutes) s = .next t
      ∧ RowResult [.zwc, .wrl] s port tag (.floor zone 0 minutes) .done [] t
      ∧ ZonesBut zone.toNat s t
      ∧ t.zone zone.toNat = some ({ z with dwell := 0 }.setFloor port none)
      ∧ t.wrl = s.logged (.action (.floorClear zone.toNat f.level false) port)
      ∧ t.pif = s.portsNoticed port tag (.floor zone 0 minutes) .routine
          (.level (({ z with dwell := 0 }.setFloor port none).notice s.seconds .floor z.level z.level))
          .done [])
  ∧ (∀ (s : State) (n : Nat) (port : Port) (z : Zone) (f : Floor), s.zone n = some z →
      z.floorOf port = some f →
      ∃ t, exec (.floorExpiry n port) s = .next t ∧ KeepsBut [.now, .zwc, .wrl, .pif] s t ∧ PortsQuiet s t
        ∧ t.now = max s.now (f.expiry * 1000000) ∧ ZonesBut n s t
        ∧ t.zone n = some ({ z with dwell := 0 }.setFloor port none)
        ∧ t.wrl = ({ s with now := t.now }).logged (.action (.floorClear n f.level true) port)
        ∧ t.pif = (({ s with now := t.now }).raise .routine
            (.level (({ z with dwell := 0 }.setFloor port none).notice t.seconds .floor z.level
              z.level))).pif)
  ∧ (∀ (s : State) (port : Port) (tag zone : Byte) (minutes : BitVec 16) (z : Zone), tag ≠ 0 →
    port ≠ .s → 1 ≤ zone.toNat → zone.toNat ≤ 16 → s.zone zone.toNat = some z → z.floorOf port = none →
    ∃ t, exec (.floor port tag zone 0 minutes) s = .next t
      ∧ RowResult [] s port tag (.floor zone 0 minutes) .done [] t)
  ∧ (∀ (s : State) (port : Port) (tag zone level : Byte) (minutes : BitVec 16), tag ≠ 0 → port ≠ .s →
    (zone.toNat = 0 ∨ 16 < zone.toNat →
      ∃ t, exec (.floor port tag zone level minutes) s = .next t
        ∧ RowResult [] s port tag (.floor zone level minutes) .refusedRange [bytes1 0] t)
    ∧ (1 ≤ zone.toNat → zone.toNat ≤ 16 → 4 ≤ level.toNat →
      ∃ t, exec (.floor port tag zone level minutes) s = .next t
        ∧ RowResult [] s port tag (.floor zone level minutes) .refusedRange [bytes1 1] t)
    ∧ (1 ≤ zone.toNat → zone.toNat ≤ 16 → level = 3 → port = .t →
      ∃ t, exec (.floor port tag zone level minutes) s = .next t
        ∧ RowResult [] s port tag (.floor zone level minutes) .refusedRole [] t)
    ∧ (1 ≤ zone.toNat → zone.toNat ≤ 16 → level.toNat ≤ 3 → ¬(level = 3 ∧ port = .t) →
      s.zone zone.toNat = none →
      ∃ t, exec (.floor port tag zone level minutes) s = .next t
        ∧ RowResult [] s port tag (.floor zone level minutes) .unknownItem [] t))

/-- ACK ALERT (R124, R123): an unacknowledged alert at level ALERT becomes ACKED, is recorded and is noticed,
so its siren stops; any other zone is REFUSED_STATE. [Log 11: an idle transmitter takes the notice before the
response. Log 12: the holding of a row.] -/
def Obligations.AckStopsTheSiren : Prop :=
  ∀ (s : State) (tag zone : Byte) (z : Zone), tag ≠ 0 → 1 ≤ zone.toNat → zone.toNat ≤ 16 →
    s.zone zone.toNat = some z →
    (z.level = .alert → z.alert = .unacked →
      ∃ t z', exec (.ackAlert .q tag zone) s = .next t
        ∧ RowResult [.zwc, .oda, .wrl] s .q tag (.ackAlert zone) .done [] t
        ∧ ZoneOnly zone.toNat s t ∧ t.zone zone.toNat = some z' ∧ { z with alert := .acked }.Shows z'
        ∧ t.wrl = s.logged (.action (.ack zone.toNat) .q)
        ∧ t.pif = s.portsNoticed .q tag (.ackAlert zone) .routine
            (.level (z'.notice s.seconds .alert .alert .alert)) .done []
        ∧ (z.testEnd = none → z'.siren = .off))
    ∧ (z.level ≠ .alert ∨ z.alert ≠ .unacked →
      ∃ t, exec (.ackAlert .q tag zone) s = .next t
        ∧ RowResult [] s .q tag (.ackAlert zone) .refusedState [] t)

/-- SILENCE (R125) sets the expiry for the minutes limited to 30, or clears it for 0 minutes, and a silence
ends at its expiry; each is recorded and noticed, and the siren follows. [Log 2: the time of an end taken
late. Log 11: an idle transmitter takes the notice before the response. Log 12: the holding of a row.] -/
def Obligations.SilenceRunsToItsExpiry : Prop :=
  (∀ (s : State) (tag zone : Byte) (minutes : BitVec 16) (z : Zone) (m : Nat), tag ≠ 0 →
    1 ≤ zone.toNat → zone.toNat ≤ 16 → s.zone zone.toNat = some z → m = min 30 minutes.toNat →
    ∃ t z', exec (.silence .q tag zone minutes) s = .next t
      ∧ RowResult [.zwc, .oda, .wrl] s .q tag (.silence zone minutes) .done [bytes1 m] t
      ∧ ZoneOnly zone.toNat s t ∧ t.zone zone.toNat = some z'
      ∧ { z with silence := if m = 0 then none else some (s.seconds + m * 60) }.Shows z'
      ∧ t.wrl = s.logged (.action (.silence zone.toNat m false) .q)
      ∧ t.pif = s.portsNoticed .q tag (.silence zone minutes) .routine
          (.level (z'.notice s.seconds .silence z.level z.level)) .done [bytes1 m])
  ∧ (∀ (s : State) (n : Nat) (z : Zone) (e : Seconds), s.zone n = some z → z.silence = some e →
      ∃ t z', exec (.silenceExpiry n) s = .next t ∧ KeepsBut [.now, .zwc, .oda, .wrl, .pif] s t
        ∧ PortsQuiet s t ∧ t.now = max s.now (e * 1000000) ∧ ZoneOnly n s t ∧ t.zone n = some z'
        ∧ { z with silence := none }.Shows z'
        ∧ t.wrl = ({ s with now := t.now }).logged (.action (.silence n 0 true) .q)
        ∧ t.pif = (({ s with now := t.now }).raise .routine
            (.level (z'.notice t.seconds .silence z.level z.level))).pif)

/-- SERVICE (R126): a change of the service state is recorded, noticed and shown on the lines; the state that
the zone has already is DONE without effect, and any other state than IN or OUT is REFUSED_RANGE. [Log 11: an
idle transmitter takes the notice before the response. Log 12: the holding of a row.] -/
def Obligations.ServiceTakesTheSignsOut : Prop :=
  ∀ (s : State) (tag zone state : Byte), tag ≠ 0 → 1 ≤ zone.toNat → zone.toNat ≤ 16 →
    (∀ z v, s.zone zone.toNat = some z → serviceOfCode state.toNat = some v → z.service ≠ v →
      ∃ t z', exec (.service .q tag zone state) s = .next t
        ∧ RowResult [.zwc, .oda, .wrl] s .q tag (.service zone state) .done [] t
        ∧ ZoneOnly zone.toNat s t ∧ t.zone zone.toNat = some z' ∧ { z with service := v }.Shows z'
        ∧ (v = .outOfService → z.testEnd = none → z'.sign = .off ∧ z'.siren = .off)
        ∧ (v = .outOfService → t.wrl = s.logged (.action (.serviceOut zone.toNat) .q))
        ∧ (v = .inService → t.wrl = s.logged (.action (.serviceIn zone.toNat) .q))
        ∧ t.pif = s.portsNoticed .q tag (.service zone state) .routine
            (.level (z'.notice s.seconds .service z.level z.level)) .done [])
    ∧ (∀ z v, s.zone zone.toNat = some z → serviceOfCode state.toNat = some v → z.service = v →
      ∃ t, exec (.service .q tag zone state) s = .next t
        ∧ RowResult [] s .q tag (.service zone state) .done [] t)
    ∧ (state.toNat ≠ 1 → state.toNat ≠ 2 →
      ∃ t, exec (.service .q tag zone state) s = .next t
        ∧ RowResult [] s .q tag (.service zone state) .refusedRange [bytes1 1] t)

/-- TEST (R127) runs for 10 s on a zone at CLEAR or WATCH without a test, showing FAST and ON, and is
completed at its end time (R128), each recorded and noticed; at WARN, at ALERT or during a test it is
REFUSED_STATE. [Log 2: the time of an end taken late. Log 11: an idle transmitter takes the notice before the
response. Log 12: the holding of a row.] -/
def Obligations.TestsRunTenSeconds : Prop :=
  (∀ (s : State) (tag zone : Byte) (z : Zone), tag ≠ 0 → 1 ≤ zone.toNat → zone.toNat ≤ 16 →
    s.zone zone.toNat = some z →
    (z.level = .clear ∨ z.level = .watch → z.testEnd = none →
      ∃ t z', exec (.test .q tag zone) s = .next t
        ∧ RowResult [.zwc, .oda, .wrl] s .q tag (.test zone) .done [] t
        ∧ ZoneOnly zone.toNat s t ∧ t.zone zone.toNat = some z'
        ∧ { z with testEnd := some (s.seconds + 10) }.Shows z' ∧ z'.sign = .fast ∧ z'.siren = .on
        ∧ t.wrl = s.logged (.action (.testStart zone.toNat) .q)
        ∧ t.pif = s.portsNoticed .q tag (.test zone) .routine
            (.level (z'.notice s.seconds .test z.level z.level)) .done [])
    ∧ (z.level = .warn ∨ z.level = .alert ∨ z.testEnd ≠ none →
      ∃ t, exec (.test .q tag zone) s = .next t
        ∧ RowResult [] s .q tag (.test zone) .refusedState [] t))
  ∧ (∀ (s : State) (n : Nat) (z : Zone) (e : Seconds), s.zone n = some z → z.testEnd = some e →
      ∃ t z', exec (.testEnd n) s = .next t ∧ KeepsBut [.now, .zwc, .oda, .wrl, .pif] s t
        ∧ PortsQuiet s t ∧ t.now = max s.now (e * 1000000) ∧ ZoneOnly n s t ∧ t.zone n = some z'
        ∧ { z with testEnd := none }.Shows z'
        ∧ t.wrl = ({ s with now := t.now }).logged (.action (.testEnd n .completed) .q)
        ∧ t.pif = (({ s with now := t.now }).raise .routine
            (.level (z'.notice t.seconds .test z.level z.level))).pif)

/-- A zone command names a zone from 1 to 16 that is configured; another number is REFUSED_RANGE, a zone that
is not configured UNKNOWN_ITEM, and nothing changes (R119, R135, R192). [Log 12: the holding of a row.] -/
def Obligations.ZoneCommandsNeedTheirZone : Prop :=
  ∀ (s : State) (tag zone : Byte) (c : Command), tag ≠ 0 →
    c = .ackAlert zone ∨ (∃ m, c = .silence zone m) ∨ c = .test zone ∨ c = .readZone zone
      ∨ (∃ v, c = .service zone v ∧ (serviceOfCode v.toNat).isSome) →
    (zone.toNat = 0 ∨ 16 < zone.toNat →
      ∃ t, exec (rowOf .q tag c) s = .next t ∧ RowResult [] s .q tag c .refusedRange [bytes1 0] t)
    ∧ (1 ≤ zone.toNat → zone.toNat ≤ 16 → s.zone zone.toNat = none →
      ∃ t, exec (rowOf .q tag c) s = .next t ∧ RowResult [] s .q tag c .unknownItem [] t)

/-- The rise of a zone at a delivery (R116). The counter of each level above the current one goes up by 1, to
16, at or above that level's threshold, and returns to 0 below it; the other counters are not updated. The
zone then rises to the highest level above whose counter has reached its deglitch count, with every counter at
0; where there is none it does not rise. A counter stays at or below its deglitch count, and those of the
current level and below it stay 0. -/
def Obligations.RisesCountTheirDeliveries : Prop :=
  ∀ (s : State) (d : Delivery) (z : Zone) (cWatch cWarn cAlert : Nat), s.zone d.zone = some z →
    cWatch = (if z.level = .clear then
        (if z.cfg.tWatch ≤ d.risk then min 16 (z.riseWatch + 1) else 0) else z.riseWatch) →
    cWarn = (if z.level = .clear ∨ z.level = .watch then
        (if z.cfg.tWarn ≤ d.risk then min 16 (z.riseWarn + 1) else 0) else z.riseWarn) →
    cAlert = (if z.level ≠ .alert then
        (if z.cfg.tAlert ≤ d.risk then min 16 (z.riseAlert + 1) else 0) else z.riseAlert) →
    ∃ z', (s.deliverRisk d).zone d.zone = some z' ∧ ZonesBut d.zone s (s.deliverRisk d)
      ∧ (z.level ≠ .alert → z.cfg.dgAlert ≤ cAlert → z'.level = .alert)
      ∧ (z.level = .clear ∨ z.level = .watch → cAlert < z.cfg.dgAlert → z.cfg.dgWarn ≤ cWarn →
          z'.level = .warn)
      ∧ (z.level = .clear → cAlert < z.cfg.dgAlert → cWarn < z.cfg.dgWarn → z.cfg.dgWatch ≤ cWatch →
          z'.level = .watch)
      ∧ ((z.level = .clear → cWatch < z.cfg.dgWatch) →
          (z.level = .clear ∨ z.level = .watch → cWarn < z.cfg.dgWarn) →
          (z.level ≠ .alert → cAlert < z.cfg.dgAlert) →
          z'.level.rank ≤ z.level.rank ∧ z'.riseWatch = cWatch ∧ z'.riseWarn = cWarn
            ∧ z'.riseAlert = cAlert)
      ∧ (z.level.rank < z'.level.rank →
          z'.riseWatch = 0 ∧ z'.riseWarn = 0 ∧ z'.riseAlert = 0 ∧ z'.dwell = 0)
      ∧ (z.riseWatch ≤ z.cfg.dgWatch → z.riseWarn ≤ z.cfg.dgWarn → z.riseAlert ≤ z.cfg.dgAlert →
          z'.riseWatch ≤ z.cfg.dgWatch ∧ z'.riseWarn ≤ z.cfg.dgWarn ∧ z'.riseAlert ≤ z.cfg.dgAlert)
      ∧ (z.riseWatch ≤ 16 → z.riseWarn ≤ 16 → z.riseAlert ≤ 16 →
          z'.riseWatch ≤ 16 ∧ z'.riseWarn ≤ 16 ∧ z'.riseAlert ≤ 16)
      ∧ ((z.level ≠ .clear → z.riseWatch = 0) → (z.level = .warn ∨ z.level = .alert → z.riseWarn = 0) →
          (z.level = .alert → z.riseAlert = 0) →
          (z'.level ≠ .clear → z'.riseWatch = 0) ∧ (z'.level = .warn ∨ z'.level = .alert → z'.riseWarn = 0)
            ∧ (z'.level = .alert → z'.riseAlert = 0))

/-- A delivery that does not raise the zone (R117). At CLEAR the dwell counter is 0; above it, a risk at or
above the level's threshold less Hy returns it to 0, and a lower one adds 1 to it. Where it reaches the fall
dwell it returns to 0, and the zone falls one level, unless its highest floor stands above the level below,
which blocks the fall (R120). A delivery lowers a zone in no other way. -/
def Obligations.LevelsFallOneStepAtATime : Prop :=
  (∀ (s : State) (d : Delivery) (z z' : Zone) (limit : Nat), s.zone d.zone = some z → 1 ≤ z.cfg.dwell →
    (s.deliverRisk d).zone d.zone = some z' → ¬ z.level.rank < z'.level.rank →
    limit = (match z.level with
      | .clear => 0
      | .watch => z.cfg.tWatch - z.cfg.hy
      | .warn => z.cfg.tWarn - z.cfg.hy
      | .alert => z.cfg.tAlert - z.cfg.hy) →
    (z.level = .clear ∨ limit ≤ d.risk → z'.level = z.level ∧ z'.dwell = 0)
    ∧ (z.level ≠ .clear → d.risk < limit → z.dwell + 1 < z.cfg.dwell →
        z'.level = z.level ∧ z'.dwell = z.dwell + 1)
    ∧ (z.level ≠ .clear → d.risk < limit → z.cfg.dwell ≤ z.dwell + 1 → z'.dwell = 0
      ∧ (z.highestFloor.rank ≤ z.level.below.rank → z'.level = z.level.below)
      ∧ (z.level.below.rank < z.highestFloor.rank → z'.level = z.level)))
  ∧ (∀ (s : State) (d : Delivery) (z z' : Zone), s.zone d.zone = some z → 1 ≤ z.cfg.dwell →
    (s.deliverRisk d).zone d.zone = some z' → z'.level.rank < z.level.rank →
    z'.level = z.level.below ∧ z.cfg.dwell ≤ z.dwell + 1 ∧ d.risk < z.cfg.fallLimit z.level
      ∧ z.highestFloor.rank ≤ z'.level.rank)

/-! ## Stations and piles -/

/-- ACK LOSS (R39): a LOST station becomes SILENT, a RETURNED one enters the admission queue as HEARD while
the queue holds fewer than 8, and becomes SILENT otherwise, each with the STATION notice ACK_LOSS; every other
state is REFUSED_STATE, an unconfigured slot UNKNOWN_ITEM, a number outside 1 to 48 REFUSED_RANGE, and the
S-port REFUSED_ROLE. [Log 11: an idle transmitter takes the notice before the response. Log 12: the holding of
a row.] [Log 22: the round that the notice carries while none is timed.] -/
def Obligations.AckLossReadmitsTheStation : Prop :=
  ∀ (s : State) (port : Port) (tag slot : Byte), tag ≠ 0 →
    (port = .s →
      ∃ t, exec (.ackLoss port tag slot) s = .next t
        ∧ RowResult [] s port tag (.ackLoss slot) .refusedRole [] t)
    ∧ (port ≠ .s → slot.toNat = 0 ∨ 48 < slot.toNat →
      ∃ t, exec (.ackLoss port tag slot) s = .next t
        ∧ RowResult [] s port tag (.ackLoss slot) .refusedRange [bytes1 0] t)
    ∧ (port ≠ .s → 1 ≤ slot.toNat → slot.toNat ≤ 48 →
      (∀ x, s.station slot.toNat = some x →
        x.live = .lost ∨ (x.live = .returned ∧ 8 ≤ s.srg.queue.length) →
        ∃ t, exec (.ackLoss port tag slot) s = .next t
          ∧ RowResult [.srg] s port tag (.ackLoss slot) .done [] t
          ∧ t.station slot.toNat = some { x with live := .silent, missed := 0 }
          ∧ (∀ m, m ≠ slot.toNat → t.station m = s.station m) ∧ t.srg.queue = s.srg.queue
          ∧ t.srg.revocations = s.srg.revocations ∧ t.srg.strangers = s.srg.strangers
          ∧ t.pif = s.portsNoticed port tag (.ackLoss slot) .routine
              (.station { slot := slot.toNat, identity := x.cfg.identity, kind := x.cfg.kind,
                          cause := .ackLoss, live := .silent, missed := 0, code := x.code,
                          round := s.flc.round }) .done [])
      ∧ (∀ x, s.station slot.toNat = some x → x.live = .returned → s.srg.queue.length < 8 →
        ∃ t, exec (.ackLoss port tag slot) s = .next t
          ∧ RowResult [.srg] s port tag (.ackLoss slot) .done [] t
          ∧ t.station slot.toNat = some { x with live := .heard, grant := none, warm := 0, missed := 0 }
          ∧ (∀ m, m ≠ slot.toNat → t.station m = s.station m)
          ∧ t.srg.queue = s.srg.queue ++ [slot.toNat]
          ∧ t.srg.revocations = s.srg.revocations ∧ t.srg.strangers = s.srg.strangers
          ∧ t.pif = s.portsNoticed port tag (.ackLoss slot) .routine
              (.station { slot := slot.toNat, identity := x.cfg.identity, kind := x.cfg.kind,
                          cause := .ackLoss, live := .heard, missed := 0, code := x.code,
                          round := s.flc.round }) .done [])
      ∧ (∀ x, s.station slot.toNat = some x → x.live ≠ .lost → x.live ≠ .returned →
        ∃ t, exec (.ackLoss port tag slot) s = .next t
          ∧ RowResult [] s port tag (.ackLoss slot) .refusedState [] t)
      ∧ (s.station slot.toNat = none →
        ∃ t, exec (.ackLoss port tag slot) s = .next t
          ∧ RowResult [] s port tag (.ackLoss slot) .unknownItem [] t))

/-- REPORT WETTING (R81) sets a pile's dryness and sub-count to 0 and stamps it; REPORT ACTIVITY (R82) sets
its activity; each answers with the pile and the value before, and other piles are as they were. [Log 12: the
holding of a row.] -/
def Obligations.ReportsReachOnePile : Prop :=
  (∀ (s : State) (tag pile : Byte) (p : Pile), tag ≠ 0 → 1 ≤ pile.toNat → pile.toNat ≤ 24 →
    s.pile pile.toNat = some p →
    ∃ t, exec (.reportWetting .t tag pile) s = .next t
      ∧ RowResult [.spm] s .t tag (.reportWetting pile) .done [bytes1 pile.toNat ++ bytes1 p.dryness] t
      ∧ t.pile pile.toNat =
          some { p with dryness := 0, sub := 0, wetting := some (s.wrl.epoch, s.flc.round) }
      ∧ (∀ n, n ≠ pile.toNat → t.pile n = s.pile n) ∧ t.spm = { s.spm with piles := t.spm.piles })
  ∧ (∀ (s : State) (tag pile activity : Byte) (p : Pile) (a : Activity), tag ≠ 0 → 1 ≤ pile.toNat →
      pile.toNat ≤ 24 → s.pile pile.toNat = some p → reportedActivity activity.toNat = some a →
      ∃ t, exec (.reportActivity .t tag pile activity) s = .next t
        ∧ RowResult [.spm] s .t tag (.reportActivity pile activity) .done
            [bytes1 pile.toNat ++ bytes1 p.activity.code] t
        ∧ t.pile pile.toNat = some { p with activity := a }
        ∧ (∀ n, n ≠ pile.toNat → t.pile n = s.pile n) ∧ t.spm = { s.spm with piles := t.spm.piles })
  ∧ (∀ (s : State) (tag pile : Byte), tag ≠ 0 → 1 ≤ pile.toNat → pile.toNat ≤ 24 →
      s.pile pile.toNat = none →
      ∃ t, exec (.reportWetting .t tag pile) s = .next t
        ∧ RowResult [] s .t tag (.reportWetting pile) .unknownItem [] t)

/-! ## The pending set -/

/-- STAGE (R155): the first good item claims a FREE set; the owner of an OPEN set replaces the item of the
same key in its place or appends a new one up to 64; every STAGE of the owner restarts the idle expiry; the
counterparty is REFUSED_BUSY. A claim raises the CONFIG notice CLAIMED. [Log 24: the byte 0x01 of a
replacement. Log 11: an idle transmitter takes the notice before the response. Log 12: the holding of a row.] -/
def Obligations.StageFillsTheSet : Prop :=
  ∀ (s : State) (port : Port) (tag : Byte) (item : List Byte), tag ≠ 0 → port ≠ .s →
    itemFormat item = true →
    (∀ x, s.cau.state = .free → checkItem item = .good x →
      ∃ t, exec (.stage port tag item) s = .next t
        ∧ RowResult [.cau] s port tag (.stage item) .done [bytes1 1, bytes1 1] t
        ∧ t.cau = { s.cau with items := [x], state := .opened, owner := some port,
                               idleExpiry := some (s.seconds + 300), proposalExpiry := none }
        ∧ t.pif = s.portsNoticed port tag (.stage item) .routine
            (.config { event := .claimed, number := s.cau.number, owner := some port, items := 1,
                       state := .opened, round := s.flc.round, time := s.seconds })
            .done [bytes1 1, bytes1 1])
    ∧ (∀ i, s.cau.state = .free → checkItem item = .bad i →
      ∃ t, exec (.stage port tag item) s = .next t
        ∧ RowResult [] s port tag (.stage item) .refusedRange [bytes1 i] t)
    ∧ (∀ x n, s.cau.state = .opened → s.cau.owner = some port → checkItem item = .good x →
      stagedIndex x.key 1 s.cau.items = some n →
      ∃ t, exec (.stage port tag item) s = .next t
        ∧ RowResult [.cau] s port tag (.stage item) .done
            [bytes1 n, bytes1 s.cau.items.length, bytes1 1] t
        ∧ t.cau = { s.cau with items := replaceStaged x s.cau.items,
                               idleExpiry := some (s.seconds + 300) })
    ∧ (∀ x, s.cau.state = .opened → s.cau.owner = some port → checkItem item = .good x →
      stagedIndex x.key 1 s.cau.items = none → s.cau.items.length < 64 →
      ∃ t, exec (.stage port tag item) s = .next t
        ∧ RowResult [.cau] s port tag (.stage item) .done
            [bytes1 (s.cau.items.length + 1), bytes1 (s.cau.items.length + 1)] t
        ∧ t.cau = { s.cau with items := s.cau.items ++ [x], idleExpiry := some (s.seconds + 300) })
    ∧ (∀ x, s.cau.state = .opened → s.cau.owner = some port → checkItem item = .good x →
      stagedIndex x.key 1 s.cau.items = none → 64 ≤ s.cau.items.length →
      ∃ t, exec (.stage port tag item) s = .next t
        ∧ RowResult [.cau] s port tag (.stage item) .refusedFull [] t
        ∧ t.cau = { s.cau with idleExpiry := some (s.seconds + 300) })
    ∧ (∀ i, s.cau.state = .opened → s.cau.owner = some port → checkItem item = .bad i →
      ∃ t, exec (.stage port tag item) s = .next t
        ∧ RowResult [.cau] s port tag (.stage item) .refusedRange [bytes1 i] t
        ∧ t.cau = { s.cau with idleExpiry := some (s.seconds + 300) })
    ∧ (s.cau.state = .opened ∨ s.cau.state = .proposed → s.cau.owner ≠ some port →
      ∃ t, exec (.stage port tag item) s = .next t
        ∧ RowResult [] s port tag (.stage item) .refusedBusy [] t)
    ∧ (s.cau.state = .proposed → s.cau.owner = some port →
      ∃ t, exec (.stage port tag item) s = .next t
        ∧ RowResult [] s port tag (.stage item) .refusedState [] t)
    ∧ (s.cau.state = .accepted →
      ∃ t, exec (.stage port tag item) s = .next t
        ∧ RowResult [] s port tag (.stage item) .refusedBusy [] t)

/-- DISCARD (R156) and PROPOSE (R158), state by state and sender by sender, with the CONFIG notices DISCARDED
and PROPOSED; the S-port is REFUSED_ROLE. [Log 11: an idle transmitter takes the notice before the response.
Log 12: the holding of a row.] -/
def Obligations.DiscardAndProposeAreTheOwners : Prop :=
  (∀ (s : State) (port : Port) (tag : Byte), tag ≠ 0 →
    (port = .s →
      ∃ t, exec (.discard port tag) s = .next t ∧ RowResult [] s port tag .discard .refusedRole [] t)
    ∧ (port ≠ .s →
      (s.cau.state = .free →
        ∃ t, exec (.discard port tag) s = .next t ∧ RowResult [] s port tag .discard .refusedState [] t)
      ∧ (s.cau.state = .opened ∨ s.cau.state = .proposed → s.cau.owner = some port →
        ∃ t, exec (.discard port tag) s = .next t ∧ RowResult [.cau] s port tag .discard .done [] t
          ∧ t.cau = { s.cau with items := [], state := .free, owner := none, idleExpiry := none,
                                 proposalExpiry := none }
          ∧ t.pif = s.portsNoticed port tag .discard .routine
              (.config { event := .discarded .command, number := s.cau.number, owner := some port,
                         items := s.cau.items.length, state := .free, round := s.flc.round,
                         time := s.seconds }) .done [])
      ∧ (s.cau.state ≠ .free → s.cau.owner ≠ some port →
        ∃ t, exec (.discard port tag) s = .next t ∧ RowResult [] s port tag .discard .refusedRole [] t)
      ∧ (s.cau.state = .accepted → s.cau.owner = some port →
        ∃ t, exec (.discard port tag) s = .next t ∧ RowResult [] s port tag .discard .tooLate [] t)))
  ∧ (∀ (s : State) (port : Port) (tag : Byte), tag ≠ 0 →
    (port = .s →
      ∃ t, exec (.propose port tag) s = .next t ∧ RowResult [] s port tag .propose .refusedRole [] t)
    ∧ (port ≠ .s →
      (s.cau.state = .opened → s.cau.owner = some port →
        ∀ n : Nat, n = (if 255 ≤ s.cau.number then 1 else s.cau.number + 1) →
        ∃ t, exec (.propose port tag) s = .next t
          ∧ RowResult [.cau] s port tag .propose .done [bytes1 n, bytes1 s.cau.items.length] t
          ∧ t.cau = { s.cau with number := n, state := .proposed, idleExpiry := none,
                                 proposalExpiry := some (s.seconds + 120) }
          ∧ t.pif = s.portsNoticed port tag .propose .routine
              (.config { event := .proposed, number := n, owner := some port, items := s.cau.items.length,
                         state := .proposed, round := s.flc.round, time := s.seconds })
              .done [bytes1 n, bytes1 s.cau.items.length])
      ∧ (s.cau.state ≠ .free → s.cau.owner ≠ some port →
        ∃ t, exec (.propose port tag) s = .next t ∧ RowResult [] s port tag .propose .refusedRole [] t)
      ∧ (s.cau.state = .proposed ∨ s.cau.state = .accepted → s.cau.owner = some port →
        ∃ t, exec (.propose port tag) s = .next t ∧ RowResult [] s port tag .propose .refusedState [] t)
      ∧ (s.cau.state = .free →
        ∃ t, exec (.propose port tag) s = .next t ∧ RowResult [] s port tag .propose .refusedState [] t)))

/-- ACCEPT (R159) and REFUSE (R160), state by state, sender by sender and number by number, with the CONFIG
notices ACCEPTED and REFUSED; the S-port is REFUSED_ROLE. [Log 11: an idle transmitter takes the notice before
the response. Log 12: the holding of a row.] -/
def Obligations.AcceptAndRefuseAreTheCounterpartys : Prop :=
  (∀ (s : State) (port : Port) (tag n : Byte), tag ≠ 0 →
    (port = .s →
      ∃ t, exec (.accept port tag n) s = .next t ∧ RowResult [] s port tag (.accept n) .refusedRole [] t)
    ∧ (port ≠ .s →
      (n = 0 → ∃ t, exec (.accept port tag n) s = .next t
        ∧ RowResult [] s port tag (.accept n) .refusedRange [bytes1 0] t)
      ∧ (n ≠ 0 → s.cau.state = .proposed → s.cau.owner ≠ some port → n.toNat = s.cau.number →
        ∃ t, exec (.accept port tag n) s = .next t
          ∧ RowResult [.cau] s port tag (.accept n) .accepted
              [bytes1 s.cau.number, bytes1 s.cau.items.length] t
          ∧ t.cau = { s.cau with state := .accepted, proposalExpiry := none }
          ∧ t.pif = s.portsNoticed port tag (.accept n) .routine
              (.config { event := .accepted, number := s.cau.number, owner := s.cau.owner,
                         items := s.cau.items.length, state := .accepted, round := s.flc.round,
                         time := s.seconds }) .accepted [bytes1 s.cau.number, bytes1 s.cau.items.length])
      ∧ (n ≠ 0 → s.cau.state = .proposed → s.cau.owner ≠ some port → n.toNat ≠ s.cau.number →
        ∃ t, exec (.accept port tag n) s = .next t
          ∧ RowResult [] s port tag (.accept n) .refusedState [] t)
      ∧ (n ≠ 0 → s.cau.state ≠ .free → s.cau.owner = some port →
        ∃ t, exec (.accept port tag n) s = .next t ∧ RowResult [] s port tag (.accept n) .refusedRole [] t)
      ∧ (n ≠ 0 → s.cau.state = .accepted → s.cau.owner ≠ some port →
        ∃ t, exec (.accept port tag n) s = .next t ∧ RowResult [] s port tag (.accept n) .refusedState [] t)
      ∧ (n ≠ 0 → s.cau.state = .free ∨ (s.cau.state = .opened ∧ s.cau.owner ≠ some port) →
        ∃ t, exec (.accept port tag n) s = .next t
          ∧ RowResult [] s port tag (.accept n)
              (if n.toNat = s.cau.number then .tooLate else .refusedState) [] t)))
  ∧ (∀ (s : State) (port : Port) (tag n : Byte), tag ≠ 0 →
    (port = .s →
      ∃ t, exec (.refuse port tag n) s = .next t ∧ RowResult [] s port tag (.refuse n) .refusedRole [] t)
    ∧ (port ≠ .s →
      (n = 0 → ∃ t, exec (.refuse port tag n) s = .next t
        ∧ RowResult [] s port tag (.refuse n) .refusedRange [bytes1 0] t)
      ∧ (n ≠ 0 → s.cau.state = .proposed → s.cau.owner ≠ some port → n.toNat = s.cau.number →
        ∃ t, exec (.refuse port tag n) s = .next t ∧ RowResult [.cau] s port tag (.refuse n) .done [] t
          ∧ t.cau = { s.cau with items := [], state := .free, owner := none, idleExpiry := none,
                                 proposalExpiry := none }
          ∧ t.pif = s.portsNoticed port tag (.refuse n) .routine
              (.config { event := .refused, number := s.cau.number, owner := s.cau.owner,
                         items := s.cau.items.length, state := .free, round := s.flc.round,
                         time := s.seconds }) .done [])
      ∧ (n ≠ 0 → s.cau.state = .proposed → s.cau.owner ≠ some port → n.toNat ≠ s.cau.number →
        ∃ t, exec (.refuse port tag n) s = .next t
          ∧ RowResult [] s port tag (.refuse n) .refusedState [] t)
      ∧ (n ≠ 0 → s.cau.state ≠ .free → s.cau.owner = some port →
        ∃ t, exec (.refuse port tag n) s = .next t ∧ RowResult [] s port tag (.refuse n) .refusedRole [] t)
      ∧ (n ≠ 0 → s.cau.state ≠ .proposed → s.cau.state = .free ∨ s.cau.owner ≠ some port →
        ∃ t, exec (.refuse port tag n) s = .next t
          ∧ RowResult [] s port tag (.refuse n)
              (if n.toNat = s.cau.number then .tooLate else .refusedState) [] t)))

/-- The idle expiry of an OPEN set and the proposal expiry of a PROPOSED one free the set at their tick and
keep the number, with the CONFIG notice EXPIRED (R157, R161, R154); in any other state they have no effect.
[Log 2: the time of an expiry taken late, and one taken where no expiry is present.] -/
def Obligations.ExpiriesFreeTheSet : Prop :=
  (∀ (s : State) (e : Seconds), s.cau.state = .opened → s.cau.idleExpiry = some e →
    ∃ t, exec .idleExpiry s = .next t ∧ KeepsBut [.now, .cau, .pif] s t ∧ PortsQuiet s t
      ∧ t.now = max s.now (e * 1000000)
      ∧ t.cau = { s.cau with items := [], state := .free, owner := none, idleExpiry := none,
                             proposalExpiry := none }
      ∧ t.pif = (({ s with now := t.now }).raise .routine
          (.config { event := .expired .idle, number := s.cau.number, owner := s.cau.owner,
                     items := s.cau.items.length, state := .free, round := s.flc.round,
                     time := t.seconds })).pif)
  ∧ (∀ (s : State) (e : Seconds), s.cau.state = .proposed → s.cau.proposalExpiry = some e →
    ∃ t, exec .proposalExpiry s = .next t ∧ KeepsBut [.now, .cau, .pif] s t ∧ PortsQuiet s t
      ∧ t.now = max s.now (e * 1000000)
      ∧ t.cau = { s.cau with items := [], state := .free, owner := none, idleExpiry := none,
                             proposalExpiry := none }
      ∧ t.pif = (({ s with now := t.now }).raise .routine
          (.config { event := .expired .proposal, number := s.cau.number, owner := s.cau.owner,
                     items := s.cau.items.length, state := .free, round := s.flc.round,
                     time := t.seconds })).pif)
  ∧ (∀ s : State, s.cau.state ≠ .opened → exec .idleExpiry s = .next s)
  ∧ (∀ s : State, s.cau.state ≠ .proposed → exec .proposalExpiry s = .next s)

/-- What an apply does to the stations and to the records kept for them: `s` is the state before the round
close, `u` the state right after the apply.  An entry that is new, or whose identity or kind has changed, is
SILENT with an empty live part, and every other one keeps its live part (R40).  A slot whose old station went
leaves the queue and, where that held a grant, gets a revocation; the stranger records of new identities go.
The mast, gauge and monitor records of those slots start anew or go, and the slots leave the gust records
(R66, R85). -/
structure ApplyStations (s u : State) : Prop where
  entries : ∀ n x', u.station n = some x' →
    (s.occupant n = u.occupant n → ∃ x, s.station n = some x ∧ x' = { x with cfg := x'.cfg })
    ∧ (s.occupant n ≠ u.occupant n → x' =
        { cfg := x'.cfg, live := .silent, grant := none, warm := 0, missed := 0, code := none,
          heardA := none, heardB := none, fresh := false })
  queue : u.srg.queue =
    s.srg.queue.filter (fun n => decide (s.occupant n = none ∨ s.occupant n = u.occupant n))
  revocations : s.srg.revocations <+: u.srg.revocations
    ∧ ∀ n, n ∈ u.srg.revocations ↔ n ∈ s.srg.revocations
        ∨ ∃ x, s.station n = some x ∧ x.holdsGrant = true ∧ s.occupant n ≠ u.occupant n
  strangers : ∀ r, r ∈ u.srg.strangers ↔ r ∈ s.srg.strangers
    ∧ ∀ n x', u.station n = some x' → s.occupant n ≠ u.occupant n → x'.cfg.identity ≠ r.identity
  masts : ∀ n, (∀ m, s.mast n = some m → s.occupant n = u.occupant n → u.mast n = some m)
    ∧ (∀ i, s.occupant n ≠ u.occupant n → u.occupant n = some (.mast, i) →
        ∃ m, u.mast n = some m ∧ m.reading = none ∧ m.ring = List.replicate 12 none ∧ m.acc = none
          ∧ m.disagree = 0 ∧ m.heater = false)
    ∧ ((∀ i, u.occupant n ≠ some (.mast, i)) → u.mast n = none)
  gauges : ∀ n, (∀ g, s.gauge n = some g → s.occupant n = u.occupant n → u.gauge n = some g)
    ∧ (∀ i, s.occupant n ≠ u.occupant n → u.occupant n = some (.gauge, i) →
        ∃ g, u.gauge n = some g ∧ g.reading = none)
    ∧ ((∀ i, u.occupant n ≠ some (.gauge, i)) → u.gauge n = none)
  monitors : ∀ n, (∀ m, s.monitor n = some m → s.occupant n = u.occupant n → u.monitor n = some m)
    ∧ (∀ i, s.occupant n ≠ u.occupant n → u.occupant n = some (.dust, i) →
        ∃ m, u.monitor n = some m ∧ m.value = none ∧ m.heater = false ∧ m.rangeHigh = false
          ∧ m.goingQuiet = false)
    ∧ ((∀ i, u.occupant n ≠ some (.dust, i)) → u.monitor n = none)
  gusts : u.wgt = { s.wgt with masts := u.wgt.masts, gusts := u.wgt.gusts }
    ∧ u.wgt.gusts.length = s.wgt.gusts.length
    ∧ ∀ g g', (g, g') ∈ s.wgt.gusts.zip u.wgt.gusts →
        g' = { g with members := g'.members, state := g'.state, closedRound := g'.closedRound }
        ∧ (g.state = .closed ∨ g.members = [] → g' = g)
        ∧ ∀ left, left = g.members.filter (fun n =>
              decide (s.occupant n = u.occupant n ∨ (s.occupant n).map Prod.fst ≠ some .mast)) →
            g.state ≠ .closed → g.members ≠ [] →
            (left ≠ [] → g' = { g with members := left })
            ∧ (left = [] → g'.state = .closed ∧ g'.closedRound = some s.flc.round)

/-- What an apply does to the zones and their lines (R132): a new zone stands at CLEAR with counters 0, nothing
set and its lines OFF, DARK judged from their fault states; a zone that is kept has its counters at 0 where a
threshold, Hy, a deglitch count or the fall dwell has changed, and otherwise all of its live part; the lines of
a zone that is removed are demanded OFF, and its running test ends as REMOVED. -/
structure ApplyZones (s u : State) : Prop where
  created : ∀ n z', u.zone n = some z' → s.zone n = none → z' =
    { cfg := z'.cfg, level := .clear, riseWatch := 0, riseWarn := 0, riseAlert := 0, dwell := 0,
      tFloor := none, qFloor := none, alert := .none, silence := none, service := .inService,
      testEnd := none, blind := false, noModel := false, dark := u.bothFaulty n, last := none, sign := .off,
      siren := .off, cause := none, levelSeq := none }
  kept : ∀ n z z', s.zone n = some z → u.zone n = some z' →
    (z'.cfg.tWatch = z.cfg.tWatch ∧ z'.cfg.tWarn = z.cfg.tWarn ∧ z'.cfg.tAlert = z.cfg.tAlert
        ∧ z'.cfg.hy = z.cfg.hy ∧ z'.cfg.dgWatch = z.cfg.dgWatch ∧ z'.cfg.dgWarn = z.cfg.dgWarn
        ∧ z'.cfg.dgAlert = z.cfg.dgAlert ∧ z'.cfg.dwell = z.cfg.dwell →
      z' = { z with cfg := z'.cfg })
    ∧ (¬ (z'.cfg.tWatch = z.cfg.tWatch ∧ z'.cfg.tWarn = z.cfg.tWarn ∧ z'.cfg.tAlert = z.cfg.tAlert
        ∧ z'.cfg.hy = z.cfg.hy ∧ z'.cfg.dgWatch = z.cfg.dgWatch ∧ z'.cfg.dgWarn = z.cfg.dgWarn
        ∧ z'.cfg.dgAlert = z.cfg.dgAlert ∧ z'.cfg.dwell = z.cfg.dwell) →
      z' = { z with cfg := z'.cfg, riseWatch := 0, riseWarn := 0, riseAlert := 0, dwell := 0 })
  lines : u.oda = { s.oda with lines := u.oda.lines } ∧ ∀ k l, s.line k = some l → ∃ l', u.line k = some l'
    ∧ l' = { l with demand := l'.demand, state := l'.state, driveStart := l'.driveStart }
    ∧ ((s.zone (zoneOfLine k)).isSome = (u.zone (zoneOfLine k)).isSome → l' = l)
    ∧ ((s.zone (zoneOfLine k)).isSome ≠ (u.zone (zoneOfLine k)).isSome → l'.demand = .off)
  tests : ∀ n z, s.zone n = some z → z.testEnd ≠ none → u.zone n = none →
    ∃ e ∈ u.wrl.entries, e.body = .action (.testEnd n .removed) .q

/-- What an apply does to the piles, the paths and their records (R85, R109): a new one starts as its rule lays
down, and one that is kept has all of its live part; the paths where every PATH item of the set names a zone from 1
to 16, as STAGE has it (R153). -/
structure ApplyTables (s u : State) : Prop where
  piles : ∀ n p', u.pile n = some p' →
    (s.pile n = none → p' = { cfg := p'.cfg, dryness := 255, sub := 0, activity := .unknown, wetting := none,
                              advice := .none, values := none, estimated := false })
    ∧ (∀ p, s.pile n = some p → p' = { p with cfg := p'.cfg })
  winds : ∀ n, (u.pile n).isSome → u.wind n = s.wind n
  site : u.spm = { s.spm with piles := u.spm.piles, gauges := u.spm.gauges, monitors := u.spm.monitors }
  paths : (∀ x ∈ s.cau.items, ∀ m n, x.key = .path m n → n ≤ 16) → ∀ m n x', u.path m n = some x' →
    (s.path m n = none → x'.result = none) ∧ (∀ x, s.path m n = some x → x' = { x with cfg := x'.cfg })
  results : ∀ n r' z', u.zoneResult n = some r' → u.zone n = some z' →
    (∀ r, s.zoneResult n = some r → r' = r)
    ∧ (s.zoneResult n = none → r' =
        { zone := n, round := none, sum := 0, dominant := none, gust := none, modelled := 0, blindCount := 0,
          monitors := z'.cfg.monitors.map (fun slot => { slot := slot, net := none, index := none }),
          measured := 0, blind := false, noModel := false, risk := 0 })

/-- An ACCEPTED set is applied at the round close with all of its items or with none (R163 to R166): the
result table comes into force, or everything in force stays; either way the set is FREE and keeps its proposal
number. Every block takes its part before its own work of the round close (R163): the stations (R40), the
masts and gust records (R66), the gauges, monitors and piles (R85), the paths and results (R109), the zones
(R132); what is not touched is kept. A set that is applied leaves a CONFIG entry and the notice APPLIED; one
that fails leaves the notice APPLY_FAILED alone (R165, R167). [Log 17: a close taken before every slot has
ended. Log 19: the order of the blocks. Log 11: an idle transmitter takes a notice at once.] -/
def Obligations.ApplyIsAllOrNothing : Prop :=
  ∀ (s : State) (p : Progress), s.flc.mode.runs = true → s.flc.progress = some p → p.closed = false →
    s.cau.state = .accepted → s.TablesOk →
    ∃ t, exec .roundClose s = .next t
      ∧ t.cau.state = .free ∧ t.cau.items = [] ∧ t.cau.owner = none ∧ t.cau.number = s.cau.number
      ∧ t.cau.idleExpiry = none ∧ t.cau.proposalExpiry = none
      ∧ (s.checkSet = none → t.inForce = s.inForce.result s.cau.items)
      ∧ (s.checkSet ≠ none → t.inForce = s.inForce)
      ∧ t = (s.closing p).closeLoop.closeWind.closeSite.assess
      ∧ (∀ u, u = s.closing p →
        (s.checkSet = none → s.cau.items.Pairwise (fun x y => x.key ≠ y.key) →
          ApplyStations s u ∧ ApplyZones s u ∧ ApplyTables s u
          ∧ u.flc = (s.atClose p).flc ∧ PortsQuiet s u
          ∧ (∃ e, u.wrl.entries.getLast? = some e ∧ e.round = s.flc.round
              ∧ e.body = .config s.cau.number s.cau.owner s.cau.items.length)
          ∧ (∀ port, port ≠ .s → (s.pif.port port).sending ≠ none →
              ∃ x ∈ (u.pif.port port).notices, x.cls = .routine ∧ x.notice = .config
                { event := .applied, number := s.cau.number, owner := s.cau.owner,
                  items := s.cau.items.length, state := .free, round := s.flc.round, time := u.seconds }))
        ∧ (∀ r i, s.checkSet = some (r, i) →
          KeepsBut [.cau, .pif] (s.atClose p) u ∧ u.cau = s.cau.freed
          ∧ u.pif = ((s.atClose p).raise .routine (.config
              { event := .applyFailed r i, number := s.cau.number, owner := s.cau.owner,
                items := s.cau.items.length, state := .free, round := s.flc.round, time := u.seconds })).pif))

/-! ## Ports -/

/-- Taking a command (R173): tag 0 or a wrong format is MALFORMED, a role without the authority is
REFUSED_ROLE, and neither changes anything but the port; only then does the owning block take it. [Log 12: the
holding of a row.] -/
def Obligations.CommandsAreJudgedInOrder : Prop :=
  ∀ (s : State) (port : Port) (tag : Byte) (c : Command),
    (tag = 0 ∨ c.formatGood = false →
      ∃ t, exec (rowOf port tag c) s = .next t ∧ RowResult [] s port tag c .malformed [] t)
    ∧ (tag ≠ 0 → c.formatGood = true → c.allowed port = false →
      ∃ t, exec (rowOf port tag c) s = .next t ∧ RowResult [] s port tag c .refusedRole [] t)
    ∧ (tag ≠ 0 → c.formatGood = true → c.allowed port = true →
      exec (rowOf port tag c) s =
        .next (runCommand c (rowAsked s port tag c) (s.held port (c.content tag))))

/-- The receiver of a port and the holding of its frames. A flag opens a frame while the receiver hunts, and
after a flag with no byte between; the limit of 100 ms or the excess byte ends a frame without any other
effect (R171). A frame closed in time is dropped silently unless it is well-formed; a well-formed one restarts
the watchdog, with MASTER_RESTORED to the other ports where the master was SILENT (R180), and is taken, waits,
or is refused as busy, of which two refusals may wait (R172). [Log 15: a frame past its length or its time
leaves the receiver hunting. Log 2: the time of a limit taken late. Log 11: an idle transmitter takes what is
queued at once.] -/
def Obligations.FramesAreHeldOrRefused : Prop :=
  (∀ (s : State) (port : Port) (bytes : List Byte) (stopBitError : Bool),
    ((s.pif.port port).receiver = .hunting
        ∨ (∃ since, (s.pif.port port).receiver = .inside since
            ∧ (bytes = [] ∨ overLong bytes = true ∨ since + 100000 < s.now)) →
      exec (.portFrame port bytes stopBitError) s = .next (s.setReceiver port (.inside s.now)))
    ∧ (∀ since, (s.pif.port port).receiver = .inside since → bytes ≠ [] → overLong bytes = false →
      s.now ≤ since + 100000 →
      (wellFormedContent bytes stopBitError = none →
        exec (.portFrame port bytes stopBitError) s = .next (s.setReceiver port .hunting))
      ∧ (∀ content (u v : State), wellFormedContent bytes stopBitError = some content →
        v = (s.setReceiver port .hunting).heardOn port →
        u = (if (s.pif.watch port).map (fun w => w.master) = some .silent then
               v.raise .routine (.site (.masterRestored port)) else v) →
        ((s.pif.port port).executing = none →
          exec (.portFrame port bytes stopBitError) s =
            .next ((u.updPort port (fun p => { p with executing := some content })).takeContent port
              content true))
        ∧ ((s.pif.port port).executing ≠ none → (s.pif.port port).waiting = none →
          exec (.portFrame port bytes stopBitError) s =
            .next (u.updPort port (fun p => { p with waiting := some content })))
        ∧ ((s.pif.port port).executing ≠ none → (s.pif.port port).waiting ≠ none →
          ∃ t, exec (.portFrame port bytes stopBitError) s = .next t ∧ KeepsBut [.pif] s t
            ∧ t.pif.watchT = u.pif.watchT ∧ t.pif.watchQ = u.pif.watchQ
            ∧ (∀ p, p ≠ port → t.pif.port p = u.pif.port p)
            ∧ (t.pif.port port).receiver = .hunting
            ∧ (t.pif.port port).waiting = (s.pif.port port).waiting
            ∧ (t.pif.port port).executing = (s.pif.port port).executing
            ∧ (t.pif.port port).notices = (u.pif.port port).notices
            ∧ (t.pif.port port).dropped = (u.pif.port port).dropped
            ∧ (t.pif.port port).outgoing = (u.pif.port port).outgoing ++
                (if ((u.pif.port port).responses.filter (fun f => f.busy)).length < 2 then
                   [{ content := [contentCode content, contentTag content, 0x03#8, 0x81#8],
                      releases := false, busy := true }]
                 else []))
        ∧ (u.pif.port port).notices = (s.pif.port port).notices)))
  ∧ (∀ (s : State) (port : Port),
    ∃ t, exec (.portOpeningFlag port) s = .next t ∧ KeepsBut [.pif] s t
      ∧ t.pif = s.pif.updPort (fun p => { p with receiver := .inside s.now }) port)
  ∧ (∀ (s : State) (port : Port),
    ∃ t, exec (.portFrameOverlength port) s = .next t ∧ KeepsBut [.pif] s t
      ∧ t.pif = s.pif.updPort (fun p => { p with receiver := .hunting }) port)
  ∧ (∀ (s : State) (port : Port) (since : Time), (s.pif.port port).receiver = .inside since →
    ∃ t, exec (.portFrameTimeout port) s = .next t ∧ KeepsBut [.now, .pif] s t
      ∧ t.now = max s.now (since + 100000)
      ∧ t.pif = s.pif.updPort (fun p => { p with receiver := .hunting }) port)

/-- A port finishes a frame (R176, R172): the oldest response frame goes next, then the notice at the head of
the queue; where the frame was the last of a response, the command leaves the holding and the waiting one is
taken. [Log 2: the time of an end taken late. Log 13: how long a frame takes. Log 11: the arbiter chooses
before the waiting command is taken.] -/
def Obligations.TransmitterSendsResponsesFirst : Prop :=
  ∀ (s : State) (port : Port) (x : Sending), (s.pif.port port).sending = some x →
    (x.frame.releases = false ∨ (s.pif.port port).waiting = none →
      ∃ t, exec (.transmitComplete port) s = .next t ∧ KeepsBut [.now, .pif] s t
        ∧ t.now = max s.now x.ends
        ∧ (∀ p, p ≠ port → t.pif.port p = s.pif.port p)
        ∧ (t.pif.port port).executing =
            (if x.frame.releases then none else (s.pif.port port).executing)
        ∧ (t.pif.port port).waiting = (s.pif.port port).waiting
        ∧ (∀ f rest, (s.pif.port port).responses = f :: rest →
            (t.pif.port port).sending = some { frame := f, ends := t.now + txTime f.content }
            ∧ (t.pif.port port).responses = rest
            ∧ (t.pif.port port).notices = (s.pif.port port).notices)
        ∧ (∀ n rest, (s.pif.port port).responses = [] → (s.pif.port port).notices = n :: rest →
            (t.pif.port port).notices = rest
            ∧ (t.pif.port port).sending.map (fun y => y.frame.content) =
                some (noticeContent n.cls n.notice))
        ∧ ((s.pif.port port).responses = [] → (s.pif.port port).notices = [] →
            (t.pif.port port).sending = none))
    ∧ (∀ content, x.frame.releases = true → (s.pif.port port).waiting = some content →
      exec (.transmitComplete port) s =
        .next (((s.reach x.ends).updPort port (fun p =>
          { { p with sending := none }.arbitrate (max s.now x.ends) with
            executing := some content, waiting := none })).takeContent port content true))

/-- A notice that enters a port's queue (R177, R178). One of a coalesced kind replaces the queued notice of
its subject and keeps that one's stamp; another one enters with the next stamp, and where 32 are queued it
displaces the oldest ROUTINE notice, or the oldest URGENT one where none is ROUTINE, and sets the dropped
flag. The order of the queue is kept. A notice raised reaches each port that its kind names, as a copy of its
own (R177, R179), of which an idle port sends the head of its queue at once (R176). [Log 11: at once, not at
the end of the command. Log 13: how long a frame takes.] -/
def Obligations.NoticesEnterAQueue : Prop :=
  (∀ (p q : PortState) (cls : NoticeClass) (n : Notice), p.QueueOk → q = p.queueNotice cls n →
    q.QueueOk ∧ q = { p with notices := q.notices, nextStamp := q.nextStamp, dropped := q.dropped }
    ∧ (∀ old ∈ p.notices, n.subject ≠ none → old.notice.subject = n.subject →
        (∀ x, x ∈ q.notices ↔
          (x ∈ p.notices ∧ x ≠ old) ∨ x = { cls := cls, stamp := old.stamp, notice := n })
        ∧ q.notices.length = p.notices.length ∧ q.nextStamp = p.nextStamp ∧ q.dropped = p.dropped)
    ∧ (n.subject = none ∨ (∀ x ∈ p.notices, x.notice.subject ≠ n.subject) →
      q.nextStamp = p.nextStamp + 1
      ∧ (p.notices.length < 32 →
          (∀ x, x ∈ q.notices ↔ x ∈ p.notices ∨ x = { cls := cls, stamp := p.nextStamp, notice := n })
          ∧ q.notices.length = p.notices.length + 1 ∧ q.dropped = p.dropped)
      ∧ (∀ old ∈ p.notices, 32 ≤ p.notices.length →
          (∀ x ∈ p.notices, x.cls = .routine → old.cls = .routine) →
          (∀ x ∈ p.notices, x.cls = old.cls → old.stamp ≤ x.stamp) →
          (∀ x, x ∈ q.notices ↔
            (x ∈ p.notices ∧ x ≠ old) ∨ x = { cls := cls, stamp := p.nextStamp, notice := n })
          ∧ q.notices.length = 32 ∧ q.dropped = true)))
  ∧ (∀ (s : State) (cls : NoticeClass) (n : Notice) (port : Port),
    KeepsBut [.pif] s (s.raise cls n)
    ∧ (n.routed port = false → ((s.raise cls n).pif.port port) = s.pif.port port)
    ∧ (n.routed port = true → (s.pif.port port).sending ≠ none →
        ((s.raise cls n).pif.port port) = (s.pif.port port).queueNotice cls n)
    ∧ (∀ x rest, n.routed port = true → (s.pif.port port).sending = none →
        (s.pif.port port).responses = [] → ((s.pif.port port).queueNotice cls n).notices = x :: rest →
        ((s.raise cls n).pif.port port) = { (s.pif.port port).queueNotice cls n with
          notices := rest
          sending := some { frame := { content := noticeContent x.cls x.notice, releases := false,
                                       busy := false },
                            ends := s.now + txTime (noticeContent x.cls x.notice) } }))
  ∧ (∀ (port : Port),
    (∀ n, (Notice.level n).routed port = true) ∧ (∀ n, (Notice.advice n).routed port = decide (port = .t))
    ∧ (∀ n, (Notice.station n).routed port = decide (port ≠ .s))
    ∧ (∀ n, (Notice.stranger n).routed port = decide (port ≠ .s))
    ∧ (∀ n, (Notice.loop n).routed port = decide (port ≠ .s))
    ∧ (∀ n, (Notice.config n).routed port = decide (port ≠ .s))
    ∧ (∀ n, (Notice.line n).routed port = decide (port = .q))
    ∧ (∀ n, (Notice.gust n).routed port = decide (port ≠ .q))
    ∧ (∀ w, (Notice.site (.masterSilent w)).routed port = decide (port ≠ w)
        ∧ (Notice.site (.masterRestored w)).routed port = decide (port ≠ w))
    ∧ (∀ n, (∀ w, n ≠ .masterSilent w ∧ n ≠ .masterRestored w) →
        (Notice.site n).routed port = decide (port ≠ .s)))

/-! ## Reports and the record -/

/-- A read that answers DONE with units formed from the state and changes nothing else. -/
def ReadAnswers (row : Port → Byte → Instr) (c : Command) (units : State → List (List Byte)) : Prop :=
  ∀ (s : State) (port : Port) (tag : Byte), tag ≠ 0 →
    ∃ t, exec (row port tag) s = .next t ∧ RowResult [] s port tag c .done (units s) t
      ∧ (∀ p, p ≠ port → t.pif.port p = s.pif.port p)
      ∧ (t.pif.port port).notices = (s.pif.port port).notices
      ∧ (t.pif.port port).dropped = (s.pif.port port).dropped

/-- The reads. STATUS (R191, R178) answers with its parts in order and clears the asking port's
notices-dropped flag, and no other; the reads without a parameter and READ ZONE (R192, R23, R42, R68, R87,
R111) answer DONE from any port with what their rules list, and change nothing. [Logs 24, 27, 28, 37 and 39:
the bytes and units of the responses. Log 12: the holding of a row.] -/
def Obligations.ReadsAnswerAndChangeNothing : Prop :=
  (∀ (s : State) (port : Port) (tag : Byte), tag ≠ 0 →
    ∃ t, exec (.status port tag) s = .next t
      ∧ RowResult [] s port tag .status .done (s.statusUnits port) t
      ∧ (t.pif.port port).dropped = false
      ∧ (∀ p, p ≠ port → t.pif.port p = s.pif.port p)
      ∧ (t.pif.port port).notices = (s.pif.port port).notices)
  ∧ ReadAnswers .readPile .readPile (fun s => listUnits (s.spm.piles.map s.pileReport))
    ∧ ReadAnswers .readStations .readStations (fun s => listUnits (s.srg.stations.map (Station.report s.srg)))
    ∧ ReadAnswers .readStrangers .readStrangers (fun s => listUnits (s.srg.strangers.map Stranger.report))
    ∧ ReadAnswers .readGusts .readGusts
        (fun s => [s.windPart] ++ listUnits (s.wgt.masts.map Mast.report)
          ++ listUnits (s.wgt.gusts.map Gust.report))
    ∧ ReadAnswers .readPaths .readPaths (fun s => listUnits (s.rke.paths.map Path.report))
    ∧ ReadAnswers .readLoop .readLoop (fun s => [s.flc.report])
    ∧ (∀ (s : State) (port : Port) (tag zone : Byte) (z : Zone), tag ≠ 0 → 1 ≤ zone.toNat →
        zone.toNat ≤ 16 → s.zone zone.toNat = some z →
        ∃ t, exec (.readZone port tag zone) s = .next t
          ∧ RowResult [] s port tag (.readZone zone) .done (s.zoneUnits z) t)

/-- READ CONFIG ITEM (R168, R196): the header for index 0, the item at an index, UNKNOWN_ITEM past the count,
the part in force for a key, UNKNOWN_ITEM for a key not configured, REFUSED_RANGE for another source, kind,
index or key; it changes nothing. [Logs 24 and 39: the bytes of the responses, and the byte that REFUSED_RANGE
names. Log 35: the kind named before the key. Log 36: a second key byte where there is none. Log 12: the holding of a
row.] -/
def Obligations.ConfigItemsAreRead : Prop :=
  ∀ (s : State) (port : Port) (tag kind key1 key2 : Byte), tag ≠ 0 →
    (∃ t, exec (.readConfigItem port tag 1 0 0 0) s = .next t
      ∧ RowResult [] s port tag (.readConfigItem 1 0 0 0) .done [s.setHeader] t)
    ∧ (1 ≤ key2.toNat → key2.toNat ≤ 64 →
      (∀ x, s.cau.items[key2.toNat - 1]? = some x →
        ∃ t, exec (.readConfigItem port tag 1 0 0 key2) s = .next t
          ∧ RowResult [] s port tag (.readConfigItem 1 0 0 key2) .done [x.report] t)
      ∧ (s.cau.items[key2.toNat - 1]? = none →
        ∃ t, exec (.readConfigItem port tag 1 0 0 key2) s = .next t
          ∧ RowResult [] s port tag (.readConfigItem 1 0 0 key2) .unknownItem [] t))
    ∧ (kind ≠ 0 →
        ∃ t, exec (.readConfigItem port tag 1 kind key1 key2) s = .next t
          ∧ RowResult [] s port tag (.readConfigItem 1 kind key1 key2) .refusedRange [bytes1 1] t)
    ∧ (key1 ≠ 0 ∨ 64 < key2.toNat →
        ∃ t, exec (.readConfigItem port tag 1 0 key1 key2) s = .next t
          ∧ RowResult [] s port tag (.readConfigItem 1 0 key1 key2) .refusedRange [bytes1 2] t)
    ∧ (∀ k, 1 ≤ kind.toNat → kind.toNat ≤ 5 → keyOf kind.toNat key1.toNat key2.toNat = some k →
      (∀ data, s.inForceBytes k = some data →
        ∃ t, exec (.readConfigItem port tag 2 kind key1 key2) s = .next t
          ∧ RowResult [] s port tag (.readConfigItem 2 kind key1 key2) .done [data] t)
      ∧ (s.inForceBytes k = none →
        ∃ t, exec (.readConfigItem port tag 2 kind key1 key2) s = .next t
          ∧ RowResult [] s port tag (.readConfigItem 2 kind key1 key2) .unknownItem [] t))
    ∧ (1 ≤ kind.toNat → kind.toNat ≤ 5 → keyOf kind.toNat key1.toNat key2.toNat = none →
        ∃ t, exec (.readConfigItem port tag 2 kind key1 key2) s = .next t
          ∧ RowResult [] s port tag (.readConfigItem 2 kind key1 key2) .refusedRange [bytes1 2] t)
    ∧ (kind.toNat = 0 ∨ 5 < kind.toNat →
        ∃ t, exec (.readConfigItem port tag 2 kind key1 key2) s = .next t
          ∧ RowResult [] s port tag (.readConfigItem 2 kind key1 key2) .refusedRange [bytes1 1] t)
    ∧ (∀ source : Byte, source ≠ 1 → source ≠ 2 →
        ∃ t, exec (.readConfigItem port tag source kind key1 key2) s = .next t
          ∧ RowResult [] s port tag (.readConfigItem source kind key1 key2) .refusedRange [bytes1 0] t)

/-- READ LOG NEXT (R189, R197): it delivers up to 4 unread entries from the read point, which moves past them,
with the gap first where one is pending, which it clears; the record stays. [Log 12: the holding of a row.] -/
def Obligations.LogIsReadForward : Prop :=
  ∀ (s : State) (tag : Byte), tag ≠ 0 →
    ∃ t, exec (.readLogNext .s tag) s = .next t ∧ KeepsBut [.pif, .wrl] s t
      ∧ PortsAfter s t .s (Command.readLogNext.content tag)
      ∧ t.wrl.entries = s.wrl.entries ∧ t.wrl.nextSeq = s.wrl.nextSeq ∧ t.wrl.epoch = s.wrl.epoch
      ∧ t.wrl.gap = none
      ∧ t.wrl.readPoint = s.wrl.readPoint + BitVec.ofNat 32 s.wrl.nextEntries.length
      ∧ s.wrl.nextEntries.length ≤ 4
      ∧ responseFrames (rowAsked s .s tag .readLogNext) .done 1
          (packEntries (s.wrl.nextEntries.map Entry.bytes) s.wrl.gapBytes)
          <:+ (t.pif.port .s).outgoing

/-- READ LOG AT (R190) answers with the entry of that number, or UNKNOWN_ITEM with the oldest and the newest
number held; the read point and the gap stay. [Log 12: the holding of a row.] -/
def Obligations.LogIsReadAtANumber : Prop :=
  ∀ (s : State) (port : Port) (tag : Byte) (n : BitVec 32), tag ≠ 0 →
    (∀ e, s.wrl.entries.find? (fun e => e.seq == n) = some e →
      ∃ t, exec (.readLogAt port tag n) s = .next t
        ∧ RowResult [] s port tag (.readLogAt n) .done [e.bytes] t)
    ∧ ((∀ e ∈ s.wrl.entries, e.seq ≠ n) →
      ∃ t, exec (.readLogAt port tag n) s = .next t
        ∧ RowResult [] s port tag (.readLogAt n) .unknownItem
            [bytes4 s.wrl.oldest.toNat ++ bytes4 s.wrl.newest.toNat] t)

/-- A write to the record (R186): the entry gets the next number, the epoch, the FLC's round number and the
site clock, and is the newest; a full record loses its oldest, and the read point moves past an entry lost
unread, whose number a gap keeps (R188). Nothing else changes. A zone keeps the number of its last LEVEL
entry, which the write of a level change hands back. -/
def Obligations.RecordWritesAppendAndOverwrite : Prop :=
  (∀ (s : State) (body : EntryBody) (new : Entry),
    new = { seq := s.wrl.nextSeq, epoch := s.wrl.epoch, round := s.flc.round, time := s.seconds,
            body := body } →
    KeepsBut [.wrl] s (s.record body) ∧ (s.record body).wrl.nextSeq = s.wrl.nextSeq + 1
      ∧ (s.record body).wrl.epoch = s.wrl.epoch
      ∧ (s.wrl.entries.length < 256 →
          (s.record body).wrl.entries = s.wrl.entries ++ [new]
            ∧ (s.record body).wrl.readPoint = s.wrl.readPoint ∧ (s.record body).wrl.gap = s.wrl.gap)
      ∧ (∀ oldest rest, s.wrl.entries = oldest :: rest → 256 ≤ s.wrl.entries.length →
          (s.record body).wrl.entries = rest ++ [new]
            ∧ (s.wrl.readPoint ≠ oldest.seq →
                (s.record body).wrl.readPoint = s.wrl.readPoint ∧ (s.record body).wrl.gap = s.wrl.gap)
            ∧ (s.wrl.readPoint = oldest.seq →
                (s.record body).wrl.readPoint = oldest.seq + 1
                  ∧ (s.record body).wrl.gap = some (s.wrl.gap.getD oldest.seq))))
  ∧ (∀ (s : State) (n : Nat) (z : Zone) (level : Level) (cause : LevelCause), s.zone n = some z →
      ∃ z' e, (s.changeLevel n level cause).zone n = some z' ∧ z'.levelSeq = some s.wrl.nextSeq
        ∧ e ∈ (s.changeLevel n level cause).wrl.entries ∧ e.seq = s.wrl.nextSeq
        ∧ e.body = z.levelEntry level cause)

/-! ## Frames and encodings -/

/-- Whatever is framed as R194 lays down is read back as it was: stuffing, CRC and all. -/
def Obligations.FramingRoundTrip : Prop :=
  ∀ content : List Byte, deframe (stuff (content ++ crcBytes content)) = some content

/-- Every command of the table, with every value of its parameters that its format admits, framed by a master
as section 11.3 lays down, is well-formed on a port and is read as that command (R171, R196). -/
def Obligations.CommandRoundTrip : Prop :=
  ∀ (c : Command) (tag : Byte), tag ≠ 0 → c.formatGood = true →
    wellFormedContent (stuff (c.content tag ++ crcBytes (c.content tag))) false = some (c.content tag)
      ∧ commandOf (c.content tag) = some c

/-! ## Invariants that every step keeps -/

/-- Every step keeps the notice queues as R177 and R178 have them: at most 32 notices, URGENT ahead of
ROUTINE, in the order of their stamps, one at most for a zone, pile or slot. -/
def Obligations.StepKeepsTheNoticeQueues : Prop :=
  ∀ s t : State, s.QueuesOk → step s = .next t → t.QueuesOk

/-- Every step keeps each zone's level at or above its highest floor (R120). -/
def Obligations.StepKeepsLevelsAboveFloors : Prop :=
  ∀ s t : State, s.FloorsOk → step s = .next t → t.FloorsOk

/-- Every step keeps the record as R184 has it: 1 to 256 entries, each numbered one above the one before. -/
def Obligations.StepKeepsTheRecord : Prop :=
  ∀ s t : State, s.wrl.RecordOk → step s = .next t → t.wrl.RecordOk

/-- Every step keeps the pending set as R154 has it: at most one item for a key, a number from 0 to 255, 1 to
64 items with an owner or none, and each expiry in its state alone. -/
def Obligations.StepKeepsThePendingSet : Prop :=
  ∀ s t : State, s.cau.SetOk → step s = .next t → t.cau.SetOk

/-- Every step keeps the line records as R137 and R143 have them. -/
def Obligations.StepKeepsTheLines : Prop :=
  ∀ s t : State, s.LinesOk → step s = .next t → t.LinesOk

/-- Every step keeps the loop as sections 1.2, 1.3 and 1.5 have it, the announce copies once for each side and
identity (R10) and the start attempts within 0 to 7 (R152) among it. -/
def Obligations.StepKeepsTheLoop : Prop :=
  ∀ s t : State, s.LoopOk → step s = .next t → t.LoopOk

/-- Every step keeps the configured tables in order and their companion records in step with them (R25, R45,
R70, R77, R79, R90, R91, R92, R113). -/
def Obligations.StepKeepsTheTables : Prop :=
  ∀ s t : State, s.TablesOk → step s = .next t → t.TablesOk

/-- Every step keeps the gust list as R55 has it. -/
def Obligations.StepKeepsTheGustList : Prop :=
  ∀ s t : State, s.GustsOk → step s = .next t → t.GustsOk

/-- No command that reaches the coordinator outside a round close, a FLOOR or a frame that may carry one moves
any zone's level (R117, R118, R134): tests, silences, service, acknowledgements, expiries and line faults
leave it. -/
def Obligations.OnlyRisksAndFloorsMoveLevels : Prop :=
  ∀ (i : Instr) (s t : State), i ≠ .power → i ≠ .roundClose →
    (∀ port tag zone level minutes, i ≠ .floor port tag zone level minutes) →
    (∀ port bytes e, i ≠ .portFrame port bytes e) → (∀ port, i ≠ .transmitComplete port) →
    exec i s = .next t →
    t.zwc.zones.map (fun z => (z.cfg.zone, z.level)) = s.zwc.zones.map (fun z => (z.cfg.zone, z.level))
end

