-- ==== Sys2Proof/Laws/State.lean ====
section
/-! SUPPORT. One lemma for each field and each named update of the state, true by rfl. -/

namespace Sys2Proof.Machine

variable (s : State)

/-! ### State.reach -/

@[simp] theorem State.reach_flc (t : Time) : (s.reach t).flc = s.flc := rfl
@[simp] theorem State.reach_srg (t : Time) : (s.reach t).srg = s.srg := rfl
@[simp] theorem State.reach_wgt (t : Time) : (s.reach t).wgt = s.wgt := rfl
@[simp] theorem State.reach_spm (t : Time) : (s.reach t).spm = s.spm := rfl
@[simp] theorem State.reach_rke (t : Time) : (s.reach t).rke = s.rke := rfl
@[simp] theorem State.reach_zwc (t : Time) : (s.reach t).zwc = s.zwc := rfl
@[simp] theorem State.reach_oda (t : Time) : (s.reach t).oda = s.oda := rfl
@[simp] theorem State.reach_cau (t : Time) : (s.reach t).cau = s.cau := rfl
@[simp] theorem State.reach_pif (t : Time) : (s.reach t).pif = s.pif := rfl
@[simp] theorem State.reach_wrl (t : Time) : (s.reach t).wrl = s.wrl := rfl
@[simp] theorem State.reach_pending (t : Time) : (s.reach t).pending = s.pending := rfl

/-! ### State.updStation -/

@[simp] theorem State.updStation_now (n : Nat) (f : Station → Station) : (s.updStation n f).now = s.now := rfl
@[simp] theorem State.updStation_flc (n : Nat) (f : Station → Station) : (s.updStation n f).flc = s.flc := rfl
@[simp] theorem State.updStation_wgt (n : Nat) (f : Station → Station) : (s.updStation n f).wgt = s.wgt := rfl
@[simp] theorem State.updStation_spm (n : Nat) (f : Station → Station) : (s.updStation n f).spm = s.spm := rfl
@[simp] theorem State.updStation_rke (n : Nat) (f : Station → Station) : (s.updStation n f).rke = s.rke := rfl
@[simp] theorem State.updStation_zwc (n : Nat) (f : Station → Station) : (s.updStation n f).zwc = s.zwc := rfl
@[simp] theorem State.updStation_oda (n : Nat) (f : Station → Station) : (s.updStation n f).oda = s.oda := rfl
@[simp] theorem State.updStation_cau (n : Nat) (f : Station → Station) : (s.updStation n f).cau = s.cau := rfl
@[simp] theorem State.updStation_pif (n : Nat) (f : Station → Station) : (s.updStation n f).pif = s.pif := rfl
@[simp] theorem State.updStation_wrl (n : Nat) (f : Station → Station) : (s.updStation n f).wrl = s.wrl := rfl
@[simp] theorem State.updStation_pending (n : Nat) (f : Station → Station) : (s.updStation n f).pending = s.pending := rfl

/-! ### State.updMast -/

@[simp] theorem State.updMast_now (n : Nat) (f : Mast → Mast) : (s.updMast n f).now = s.now := rfl
@[simp] theorem State.updMast_flc (n : Nat) (f : Mast → Mast) : (s.updMast n f).flc = s.flc := rfl
@[simp] theorem State.updMast_srg (n : Nat) (f : Mast → Mast) : (s.updMast n f).srg = s.srg := rfl
@[simp] theorem State.updMast_spm (n : Nat) (f : Mast → Mast) : (s.updMast n f).spm = s.spm := rfl
@[simp] theorem State.updMast_rke (n : Nat) (f : Mast → Mast) : (s.updMast n f).rke = s.rke := rfl
@[simp] theorem State.updMast_zwc (n : Nat) (f : Mast → Mast) : (s.updMast n f).zwc = s.zwc := rfl
@[simp] theorem State.updMast_oda (n : Nat) (f : Mast → Mast) : (s.updMast n f).oda = s.oda := rfl
@[simp] theorem State.updMast_cau (n : Nat) (f : Mast → Mast) : (s.updMast n f).cau = s.cau := rfl
@[simp] theorem State.updMast_pif (n : Nat) (f : Mast → Mast) : (s.updMast n f).pif = s.pif := rfl
@[simp] theorem State.updMast_wrl (n : Nat) (f : Mast → Mast) : (s.updMast n f).wrl = s.wrl := rfl
@[simp] theorem State.updMast_pending (n : Nat) (f : Mast → Mast) : (s.updMast n f).pending = s.pending := rfl

/-! ### State.updPile -/

@[simp] theorem State.updPile_now (n : Nat) (f : Pile → Pile) : (s.updPile n f).now = s.now := rfl
@[simp] theorem State.updPile_flc (n : Nat) (f : Pile → Pile) : (s.updPile n f).flc = s.flc := rfl
@[simp] theorem State.updPile_srg (n : Nat) (f : Pile → Pile) : (s.updPile n f).srg = s.srg := rfl
@[simp] theorem State.updPile_wgt (n : Nat) (f : Pile → Pile) : (s.updPile n f).wgt = s.wgt := rfl
@[simp] theorem State.updPile_rke (n : Nat) (f : Pile → Pile) : (s.updPile n f).rke = s.rke := rfl
@[simp] theorem State.updPile_zwc (n : Nat) (f : Pile → Pile) : (s.updPile n f).zwc = s.zwc := rfl
@[simp] theorem State.updPile_oda (n : Nat) (f : Pile → Pile) : (s.updPile n f).oda = s.oda := rfl
@[simp] theorem State.updPile_cau (n : Nat) (f : Pile → Pile) : (s.updPile n f).cau = s.cau := rfl
@[simp] theorem State.updPile_pif (n : Nat) (f : Pile → Pile) : (s.updPile n f).pif = s.pif := rfl
@[simp] theorem State.updPile_wrl (n : Nat) (f : Pile → Pile) : (s.updPile n f).wrl = s.wrl := rfl
@[simp] theorem State.updPile_pending (n : Nat) (f : Pile → Pile) : (s.updPile n f).pending = s.pending := rfl

/-! ### State.updZone -/

@[simp] theorem State.updZone_now (n : Nat) (f : Zone → Zone) : (s.updZone n f).now = s.now := rfl
@[simp] theorem State.updZone_flc (n : Nat) (f : Zone → Zone) : (s.updZone n f).flc = s.flc := rfl
@[simp] theorem State.updZone_srg (n : Nat) (f : Zone → Zone) : (s.updZone n f).srg = s.srg := rfl
@[simp] theorem State.updZone_wgt (n : Nat) (f : Zone → Zone) : (s.updZone n f).wgt = s.wgt := rfl
@[simp] theorem State.updZone_spm (n : Nat) (f : Zone → Zone) : (s.updZone n f).spm = s.spm := rfl
@[simp] theorem State.updZone_rke (n : Nat) (f : Zone → Zone) : (s.updZone n f).rke = s.rke := rfl
@[simp] theorem State.updZone_oda (n : Nat) (f : Zone → Zone) : (s.updZone n f).oda = s.oda := rfl
@[simp] theorem State.updZone_cau (n : Nat) (f : Zone → Zone) : (s.updZone n f).cau = s.cau := rfl
@[simp] theorem State.updZone_pif (n : Nat) (f : Zone → Zone) : (s.updZone n f).pif = s.pif := rfl
@[simp] theorem State.updZone_wrl (n : Nat) (f : Zone → Zone) : (s.updZone n f).wrl = s.wrl := rfl
@[simp] theorem State.updZone_pending (n : Nat) (f : Zone → Zone) : (s.updZone n f).pending = s.pending := rfl

/-! ### State.updLine -/

@[simp] theorem State.updLine_now (n : Nat) (f : Line → Line) : (s.updLine n f).now = s.now := rfl
@[simp] theorem State.updLine_flc (n : Nat) (f : Line → Line) : (s.updLine n f).flc = s.flc := rfl
@[simp] theorem State.updLine_srg (n : Nat) (f : Line → Line) : (s.updLine n f).srg = s.srg := rfl
@[simp] theorem State.updLine_wgt (n : Nat) (f : Line → Line) : (s.updLine n f).wgt = s.wgt := rfl
@[simp] theorem State.updLine_spm (n : Nat) (f : Line → Line) : (s.updLine n f).spm = s.spm := rfl
@[simp] theorem State.updLine_rke (n : Nat) (f : Line → Line) : (s.updLine n f).rke = s.rke := rfl
@[simp] theorem State.updLine_zwc (n : Nat) (f : Line → Line) : (s.updLine n f).zwc = s.zwc := rfl
@[simp] theorem State.updLine_cau (n : Nat) (f : Line → Line) : (s.updLine n f).cau = s.cau := rfl
@[simp] theorem State.updLine_pif (n : Nat) (f : Line → Line) : (s.updLine n f).pif = s.pif := rfl
@[simp] theorem State.updLine_wrl (n : Nat) (f : Line → Line) : (s.updLine n f).wrl = s.wrl := rfl
@[simp] theorem State.updLine_pending (n : Nat) (f : Line → Line) : (s.updLine n f).pending = s.pending := rfl

/-! ### State.updZoneResult -/

@[simp] theorem State.updZoneResult_now (n : Nat) (f : ZoneResult → ZoneResult) : (s.updZoneResult n f).now = s.now := rfl
@[simp] theorem State.updZoneResult_flc (n : Nat) (f : ZoneResult → ZoneResult) : (s.updZoneResult n f).flc = s.flc := rfl
@[simp] theorem State.updZoneResult_srg (n : Nat) (f : ZoneResult → ZoneResult) : (s.updZoneResult n f).srg = s.srg := rfl
@[simp] theorem State.updZoneResult_wgt (n : Nat) (f : ZoneResult → ZoneResult) : (s.updZoneResult n f).wgt = s.wgt := rfl
@[simp] theorem State.updZoneResult_spm (n : Nat) (f : ZoneResult → ZoneResult) : (s.updZoneResult n f).spm = s.spm := rfl
@[simp] theorem State.updZoneResult_zwc (n : Nat) (f : ZoneResult → ZoneResult) : (s.updZoneResult n f).zwc = s.zwc := rfl
@[simp] theorem State.updZoneResult_oda (n : Nat) (f : ZoneResult → ZoneResult) : (s.updZoneResult n f).oda = s.oda := rfl
@[simp] theorem State.updZoneResult_cau (n : Nat) (f : ZoneResult → ZoneResult) : (s.updZoneResult n f).cau = s.cau := rfl
@[simp] theorem State.updZoneResult_pif (n : Nat) (f : ZoneResult → ZoneResult) : (s.updZoneResult n f).pif = s.pif := rfl
@[simp] theorem State.updZoneResult_wrl (n : Nat) (f : ZoneResult → ZoneResult) : (s.updZoneResult n f).wrl = s.wrl := rfl
@[simp] theorem State.updZoneResult_pending (n : Nat) (f : ZoneResult → ZoneResult) : (s.updZoneResult n f).pending = s.pending := rfl

/-! ### State.updPort -/

@[simp] theorem State.updPort_now (p : Port) (f : PortState → PortState) : (s.updPort p f).now = s.now := rfl
@[simp] theorem State.updPort_flc (p : Port) (f : PortState → PortState) : (s.updPort p f).flc = s.flc := rfl
@[simp] theorem State.updPort_srg (p : Port) (f : PortState → PortState) : (s.updPort p f).srg = s.srg := rfl
@[simp] theorem State.updPort_wgt (p : Port) (f : PortState → PortState) : (s.updPort p f).wgt = s.wgt := rfl
@[simp] theorem State.updPort_spm (p : Port) (f : PortState → PortState) : (s.updPort p f).spm = s.spm := rfl
@[simp] theorem State.updPort_rke (p : Port) (f : PortState → PortState) : (s.updPort p f).rke = s.rke := rfl
@[simp] theorem State.updPort_zwc (p : Port) (f : PortState → PortState) : (s.updPort p f).zwc = s.zwc := rfl
@[simp] theorem State.updPort_oda (p : Port) (f : PortState → PortState) : (s.updPort p f).oda = s.oda := rfl
@[simp] theorem State.updPort_cau (p : Port) (f : PortState → PortState) : (s.updPort p f).cau = s.cau := rfl
@[simp] theorem State.updPort_wrl (p : Port) (f : PortState → PortState) : (s.updPort p f).wrl = s.wrl := rfl
@[simp] theorem State.updPort_pending (p : Port) (f : PortState → PortState) : (s.updPort p f).pending = s.pending := rfl

/-! ### State.record -/

@[simp] theorem State.record_now (b : EntryBody) : (s.record b).now = s.now := rfl
@[simp] theorem State.record_flc (b : EntryBody) : (s.record b).flc = s.flc := rfl
@[simp] theorem State.record_srg (b : EntryBody) : (s.record b).srg = s.srg := rfl
@[simp] theorem State.record_wgt (b : EntryBody) : (s.record b).wgt = s.wgt := rfl
@[simp] theorem State.record_spm (b : EntryBody) : (s.record b).spm = s.spm := rfl
@[simp] theorem State.record_rke (b : EntryBody) : (s.record b).rke = s.rke := rfl
@[simp] theorem State.record_zwc (b : EntryBody) : (s.record b).zwc = s.zwc := rfl
@[simp] theorem State.record_oda (b : EntryBody) : (s.record b).oda = s.oda := rfl
@[simp] theorem State.record_cau (b : EntryBody) : (s.record b).cau = s.cau := rfl
@[simp] theorem State.record_pif (b : EntryBody) : (s.record b).pif = s.pif := rfl
@[simp] theorem State.record_pending (b : EntryBody) : (s.record b).pending = s.pending := rfl

/-! ### State.raise -/

@[simp] theorem State.raise_now (c : NoticeClass) (n : Notice) : (s.raise c n).now = s.now := rfl
@[simp] theorem State.raise_flc (c : NoticeClass) (n : Notice) : (s.raise c n).flc = s.flc := rfl
@[simp] theorem State.raise_srg (c : NoticeClass) (n : Notice) : (s.raise c n).srg = s.srg := rfl
@[simp] theorem State.raise_wgt (c : NoticeClass) (n : Notice) : (s.raise c n).wgt = s.wgt := rfl
@[simp] theorem State.raise_spm (c : NoticeClass) (n : Notice) : (s.raise c n).spm = s.spm := rfl
@[simp] theorem State.raise_rke (c : NoticeClass) (n : Notice) : (s.raise c n).rke = s.rke := rfl
@[simp] theorem State.raise_zwc (c : NoticeClass) (n : Notice) : (s.raise c n).zwc = s.zwc := rfl
@[simp] theorem State.raise_oda (c : NoticeClass) (n : Notice) : (s.raise c n).oda = s.oda := rfl
@[simp] theorem State.raise_cau (c : NoticeClass) (n : Notice) : (s.raise c n).cau = s.cau := rfl
@[simp] theorem State.raise_wrl (c : NoticeClass) (n : Notice) : (s.raise c n).wrl = s.wrl := rfl
@[simp] theorem State.raise_pending (c : NoticeClass) (n : Notice) : (s.raise c n).pending = s.pending := rfl

/-! ### State.replySegments -/

@[simp] theorem State.replySegments_now (a : Asked) (r : Result) (u : List (List Byte)) : (s.replySegments a r u).now = s.now := rfl
@[simp] theorem State.replySegments_flc (a : Asked) (r : Result) (u : List (List Byte)) : (s.replySegments a r u).flc = s.flc := rfl
@[simp] theorem State.replySegments_srg (a : Asked) (r : Result) (u : List (List Byte)) : (s.replySegments a r u).srg = s.srg := rfl
@[simp] theorem State.replySegments_wgt (a : Asked) (r : Result) (u : List (List Byte)) : (s.replySegments a r u).wgt = s.wgt := rfl
@[simp] theorem State.replySegments_spm (a : Asked) (r : Result) (u : List (List Byte)) : (s.replySegments a r u).spm = s.spm := rfl
@[simp] theorem State.replySegments_rke (a : Asked) (r : Result) (u : List (List Byte)) : (s.replySegments a r u).rke = s.rke := rfl
@[simp] theorem State.replySegments_zwc (a : Asked) (r : Result) (u : List (List Byte)) : (s.replySegments a r u).zwc = s.zwc := rfl
@[simp] theorem State.replySegments_oda (a : Asked) (r : Result) (u : List (List Byte)) : (s.replySegments a r u).oda = s.oda := rfl
@[simp] theorem State.replySegments_cau (a : Asked) (r : Result) (u : List (List Byte)) : (s.replySegments a r u).cau = s.cau := rfl
@[simp] theorem State.replySegments_wrl (a : Asked) (r : Result) (u : List (List Byte)) : (s.replySegments a r u).wrl = s.wrl := rfl
@[simp] theorem State.replySegments_pending (a : Asked) (r : Result) (u : List (List Byte)) : (s.replySegments a r u).pending = s.pending := rfl

/-! ### State.reply -/

@[simp] theorem State.reply_now (a : Asked) (r : Result) (u : List (List Byte)) : (s.reply a r u).now = s.now := rfl
@[simp] theorem State.reply_flc (a : Asked) (r : Result) (u : List (List Byte)) : (s.reply a r u).flc = s.flc := rfl
@[simp] theorem State.reply_srg (a : Asked) (r : Result) (u : List (List Byte)) : (s.reply a r u).srg = s.srg := rfl
@[simp] theorem State.reply_wgt (a : Asked) (r : Result) (u : List (List Byte)) : (s.reply a r u).wgt = s.wgt := rfl
@[simp] theorem State.reply_spm (a : Asked) (r : Result) (u : List (List Byte)) : (s.reply a r u).spm = s.spm := rfl
@[simp] theorem State.reply_rke (a : Asked) (r : Result) (u : List (List Byte)) : (s.reply a r u).rke = s.rke := rfl
@[simp] theorem State.reply_zwc (a : Asked) (r : Result) (u : List (List Byte)) : (s.reply a r u).zwc = s.zwc := rfl
@[simp] theorem State.reply_oda (a : Asked) (r : Result) (u : List (List Byte)) : (s.reply a r u).oda = s.oda := rfl
@[simp] theorem State.reply_cau (a : Asked) (r : Result) (u : List (List Byte)) : (s.reply a r u).cau = s.cau := rfl
@[simp] theorem State.reply_wrl (a : Asked) (r : Result) (u : List (List Byte)) : (s.reply a r u).wrl = s.wrl := rfl
@[simp] theorem State.reply_pending (a : Asked) (r : Result) (u : List (List Byte)) : (s.reply a r u).pending = s.pending := rfl

/-! ### State.replyRange -/

@[simp] theorem State.replyRange_now (a : Asked) (i : Nat) : (s.replyRange a i).now = s.now := rfl
@[simp] theorem State.replyRange_flc (a : Asked) (i : Nat) : (s.replyRange a i).flc = s.flc := rfl
@[simp] theorem State.replyRange_srg (a : Asked) (i : Nat) : (s.replyRange a i).srg = s.srg := rfl
@[simp] theorem State.replyRange_wgt (a : Asked) (i : Nat) : (s.replyRange a i).wgt = s.wgt := rfl
@[simp] theorem State.replyRange_spm (a : Asked) (i : Nat) : (s.replyRange a i).spm = s.spm := rfl
@[simp] theorem State.replyRange_rke (a : Asked) (i : Nat) : (s.replyRange a i).rke = s.rke := rfl
@[simp] theorem State.replyRange_zwc (a : Asked) (i : Nat) : (s.replyRange a i).zwc = s.zwc := rfl
@[simp] theorem State.replyRange_oda (a : Asked) (i : Nat) : (s.replyRange a i).oda = s.oda := rfl
@[simp] theorem State.replyRange_cau (a : Asked) (i : Nat) : (s.replyRange a i).cau = s.cau := rfl
@[simp] theorem State.replyRange_wrl (a : Asked) (i : Nat) : (s.replyRange a i).wrl = s.wrl := rfl
@[simp] theorem State.replyRange_pending (a : Asked) (i : Nat) : (s.replyRange a i).pending = s.pending := rfl

/-! ### State.demandLine -/

@[simp] theorem State.demandLine_now (n : Nat) (d : Demand) : (s.demandLine n d).now = s.now := rfl
@[simp] theorem State.demandLine_flc (n : Nat) (d : Demand) : (s.demandLine n d).flc = s.flc := rfl
@[simp] theorem State.demandLine_srg (n : Nat) (d : Demand) : (s.demandLine n d).srg = s.srg := rfl
@[simp] theorem State.demandLine_wgt (n : Nat) (d : Demand) : (s.demandLine n d).wgt = s.wgt := rfl
@[simp] theorem State.demandLine_spm (n : Nat) (d : Demand) : (s.demandLine n d).spm = s.spm := rfl
@[simp] theorem State.demandLine_rke (n : Nat) (d : Demand) : (s.demandLine n d).rke = s.rke := rfl
@[simp] theorem State.demandLine_zwc (n : Nat) (d : Demand) : (s.demandLine n d).zwc = s.zwc := rfl
@[simp] theorem State.demandLine_cau (n : Nat) (d : Demand) : (s.demandLine n d).cau = s.cau := rfl
@[simp] theorem State.demandLine_pif (n : Nat) (d : Demand) : (s.demandLine n d).pif = s.pif := rfl
@[simp] theorem State.demandLine_wrl (n : Nat) (d : Demand) : (s.demandLine n d).wrl = s.wrl := rfl
@[simp] theorem State.demandLine_pending (n : Nat) (d : Demand) : (s.demandLine n d).pending = s.pending := rfl

/-! ### State.takeGauge -/

@[simp] theorem State.takeGauge_now (n h : Nat) (rain heater : Bool) : (s.takeGauge n h rain heater).now = s.now := rfl
@[simp] theorem State.takeGauge_flc (n h : Nat) (rain heater : Bool) : (s.takeGauge n h rain heater).flc = s.flc := rfl
@[simp] theorem State.takeGauge_srg (n h : Nat) (rain heater : Bool) : (s.takeGauge n h rain heater).srg = s.srg := rfl
@[simp] theorem State.takeGauge_wgt (n h : Nat) (rain heater : Bool) : (s.takeGauge n h rain heater).wgt = s.wgt := rfl
@[simp] theorem State.takeGauge_rke (n h : Nat) (rain heater : Bool) : (s.takeGauge n h rain heater).rke = s.rke := rfl
@[simp] theorem State.takeGauge_zwc (n h : Nat) (rain heater : Bool) : (s.takeGauge n h rain heater).zwc = s.zwc := rfl
@[simp] theorem State.takeGauge_oda (n h : Nat) (rain heater : Bool) : (s.takeGauge n h rain heater).oda = s.oda := rfl
@[simp] theorem State.takeGauge_cau (n h : Nat) (rain heater : Bool) : (s.takeGauge n h rain heater).cau = s.cau := rfl
@[simp] theorem State.takeGauge_pif (n h : Nat) (rain heater : Bool) : (s.takeGauge n h rain heater).pif = s.pif := rfl
@[simp] theorem State.takeGauge_wrl (n h : Nat) (rain heater : Bool) : (s.takeGauge n h rain heater).wrl = s.wrl := rfl
@[simp] theorem State.takeGauge_pending (n h : Nat) (rain heater : Bool) : (s.takeGauge n h rain heater).pending = s.pending := rfl

/-! ### State.takeDust -/

@[simp] theorem State.takeDust_now (n c k : Nat) : (s.takeDust n c k).now = s.now := rfl
@[simp] theorem State.takeDust_flc (n c k : Nat) : (s.takeDust n c k).flc = s.flc := rfl
@[simp] theorem State.takeDust_srg (n c k : Nat) : (s.takeDust n c k).srg = s.srg := rfl
@[simp] theorem State.takeDust_wgt (n c k : Nat) : (s.takeDust n c k).wgt = s.wgt := rfl
@[simp] theorem State.takeDust_rke (n c k : Nat) : (s.takeDust n c k).rke = s.rke := rfl
@[simp] theorem State.takeDust_zwc (n c k : Nat) : (s.takeDust n c k).zwc = s.zwc := rfl
@[simp] theorem State.takeDust_oda (n c k : Nat) : (s.takeDust n c k).oda = s.oda := rfl
@[simp] theorem State.takeDust_cau (n c k : Nat) : (s.takeDust n c k).cau = s.cau := rfl
@[simp] theorem State.takeDust_pif (n c k : Nat) : (s.takeDust n c k).pif = s.pif := rfl
@[simp] theorem State.takeDust_wrl (n c k : Nat) : (s.takeDust n c k).wrl = s.wrl := rfl
@[simp] theorem State.takeDust_pending (n c k : Nat) : (s.takeDust n c k).pending = s.pending := rfl

/-! ### State.revoke -/

@[simp] theorem State.revoke_now (n : Nat) : (s.revoke n).now = s.now := rfl
@[simp] theorem State.revoke_flc (n : Nat) : (s.revoke n).flc = s.flc := rfl
@[simp] theorem State.revoke_wgt (n : Nat) : (s.revoke n).wgt = s.wgt := rfl
@[simp] theorem State.revoke_spm (n : Nat) : (s.revoke n).spm = s.spm := rfl
@[simp] theorem State.revoke_rke (n : Nat) : (s.revoke n).rke = s.rke := rfl
@[simp] theorem State.revoke_zwc (n : Nat) : (s.revoke n).zwc = s.zwc := rfl
@[simp] theorem State.revoke_oda (n : Nat) : (s.revoke n).oda = s.oda := rfl
@[simp] theorem State.revoke_cau (n : Nat) : (s.revoke n).cau = s.cau := rfl
@[simp] theorem State.revoke_pif (n : Nat) : (s.revoke n).pif = s.pif := rfl
@[simp] theorem State.revoke_wrl (n : Nat) : (s.revoke n).wrl = s.wrl := rfl
@[simp] theorem State.revoke_pending (n : Nat) : (s.revoke n).pending = s.pending := rfl

/-! ### State.enqueue -/

@[simp] theorem State.enqueue_now (n : Nat) : (s.enqueue n).now = s.now := rfl
@[simp] theorem State.enqueue_flc (n : Nat) : (s.enqueue n).flc = s.flc := rfl
@[simp] theorem State.enqueue_wgt (n : Nat) : (s.enqueue n).wgt = s.wgt := rfl
@[simp] theorem State.enqueue_spm (n : Nat) : (s.enqueue n).spm = s.spm := rfl
@[simp] theorem State.enqueue_rke (n : Nat) : (s.enqueue n).rke = s.rke := rfl
@[simp] theorem State.enqueue_zwc (n : Nat) : (s.enqueue n).zwc = s.zwc := rfl
@[simp] theorem State.enqueue_oda (n : Nat) : (s.enqueue n).oda = s.oda := rfl
@[simp] theorem State.enqueue_cau (n : Nat) : (s.enqueue n).cau = s.cau := rfl
@[simp] theorem State.enqueue_pif (n : Nat) : (s.enqueue n).pif = s.pif := rfl
@[simp] theorem State.enqueue_wrl (n : Nat) : (s.enqueue n).wrl = s.wrl := rfl
@[simp] theorem State.enqueue_pending (n : Nat) : (s.enqueue n).pending = s.pending := rfl

/-! ### State.unqueue -/

@[simp] theorem State.unqueue_now (n : Nat) : (s.unqueue n).now = s.now := rfl
@[simp] theorem State.unqueue_flc (n : Nat) : (s.unqueue n).flc = s.flc := rfl
@[simp] theorem State.unqueue_wgt (n : Nat) : (s.unqueue n).wgt = s.wgt := rfl
@[simp] theorem State.unqueue_spm (n : Nat) : (s.unqueue n).spm = s.spm := rfl
@[simp] theorem State.unqueue_rke (n : Nat) : (s.unqueue n).rke = s.rke := rfl
@[simp] theorem State.unqueue_zwc (n : Nat) : (s.unqueue n).zwc = s.zwc := rfl
@[simp] theorem State.unqueue_oda (n : Nat) : (s.unqueue n).oda = s.oda := rfl
@[simp] theorem State.unqueue_cau (n : Nat) : (s.unqueue n).cau = s.cau := rfl
@[simp] theorem State.unqueue_pif (n : Nat) : (s.unqueue n).pif = s.pif := rfl
@[simp] theorem State.unqueue_wrl (n : Nat) : (s.unqueue n).wrl = s.wrl := rfl
@[simp] theorem State.unqueue_pending (n : Nat) : (s.unqueue n).pending = s.pending := rfl

/-! ### State.forgetStranger -/

@[simp] theorem State.forgetStranger_now (i : Identity) : (s.forgetStranger i).now = s.now := rfl
@[simp] theorem State.forgetStranger_flc (i : Identity) : (s.forgetStranger i).flc = s.flc := rfl
@[simp] theorem State.forgetStranger_wgt (i : Identity) : (s.forgetStranger i).wgt = s.wgt := rfl
@[simp] theorem State.forgetStranger_spm (i : Identity) : (s.forgetStranger i).spm = s.spm := rfl
@[simp] theorem State.forgetStranger_rke (i : Identity) : (s.forgetStranger i).rke = s.rke := rfl
@[simp] theorem State.forgetStranger_zwc (i : Identity) : (s.forgetStranger i).zwc = s.zwc := rfl
@[simp] theorem State.forgetStranger_oda (i : Identity) : (s.forgetStranger i).oda = s.oda := rfl
@[simp] theorem State.forgetStranger_cau (i : Identity) : (s.forgetStranger i).cau = s.cau := rfl
@[simp] theorem State.forgetStranger_pif (i : Identity) : (s.forgetStranger i).pif = s.pif := rfl
@[simp] theorem State.forgetStranger_wrl (i : Identity) : (s.forgetStranger i).wrl = s.wrl := rfl
@[simp] theorem State.forgetStranger_pending (i : Identity) : (s.forgetStranger i).pending = s.pending := rfl

/-! ### State.updGust -/

@[simp] theorem State.updGust_now (n : Nat) (f : Gust → Gust) : (s.updGust n f).now = s.now := rfl
@[simp] theorem State.updGust_flc (n : Nat) (f : Gust → Gust) : (s.updGust n f).flc = s.flc := rfl
@[simp] theorem State.updGust_srg (n : Nat) (f : Gust → Gust) : (s.updGust n f).srg = s.srg := rfl
@[simp] theorem State.updGust_spm (n : Nat) (f : Gust → Gust) : (s.updGust n f).spm = s.spm := rfl
@[simp] theorem State.updGust_rke (n : Nat) (f : Gust → Gust) : (s.updGust n f).rke = s.rke := rfl
@[simp] theorem State.updGust_zwc (n : Nat) (f : Gust → Gust) : (s.updGust n f).zwc = s.zwc := rfl
@[simp] theorem State.updGust_oda (n : Nat) (f : Gust → Gust) : (s.updGust n f).oda = s.oda := rfl
@[simp] theorem State.updGust_cau (n : Nat) (f : Gust → Gust) : (s.updGust n f).cau = s.cau := rfl
@[simp] theorem State.updGust_pif (n : Nat) (f : Gust → Gust) : (s.updGust n f).pif = s.pif := rfl
@[simp] theorem State.updGust_wrl (n : Nat) (f : Gust → Gust) : (s.updGust n f).wrl = s.wrl := rfl
@[simp] theorem State.updGust_pending (n : Nat) (f : Gust → Gust) : (s.updGust n f).pending = s.pending := rfl

/-! ### State.putWind -/

@[simp] theorem State.putWind_now (n : Nat) (c : WindChoice) : (s.putWind n c).now = s.now := rfl
@[simp] theorem State.putWind_flc (n : Nat) (c : WindChoice) : (s.putWind n c).flc = s.flc := rfl
@[simp] theorem State.putWind_srg (n : Nat) (c : WindChoice) : (s.putWind n c).srg = s.srg := rfl
@[simp] theorem State.putWind_wgt (n : Nat) (c : WindChoice) : (s.putWind n c).wgt = s.wgt := rfl
@[simp] theorem State.putWind_spm (n : Nat) (c : WindChoice) : (s.putWind n c).spm = s.spm := rfl
@[simp] theorem State.putWind_zwc (n : Nat) (c : WindChoice) : (s.putWind n c).zwc = s.zwc := rfl
@[simp] theorem State.putWind_oda (n : Nat) (c : WindChoice) : (s.putWind n c).oda = s.oda := rfl
@[simp] theorem State.putWind_cau (n : Nat) (c : WindChoice) : (s.putWind n c).cau = s.cau := rfl
@[simp] theorem State.putWind_pif (n : Nat) (c : WindChoice) : (s.putWind n c).pif = s.pif := rfl
@[simp] theorem State.putWind_wrl (n : Nat) (c : WindChoice) : (s.putWind n c).wrl = s.wrl := rfl
@[simp] theorem State.putWind_pending (n : Nat) (c : WindChoice) : (s.putWind n c).pending = s.pending := rfl

/-! ### State.noteVerdict -/

@[simp] theorem State.noteVerdict_now (v : RoundVerdict) : (s.noteVerdict v).now = s.now := rfl
@[simp] theorem State.noteVerdict_srg (v : RoundVerdict) : (s.noteVerdict v).srg = s.srg := rfl
@[simp] theorem State.noteVerdict_wgt (v : RoundVerdict) : (s.noteVerdict v).wgt = s.wgt := rfl
@[simp] theorem State.noteVerdict_spm (v : RoundVerdict) : (s.noteVerdict v).spm = s.spm := rfl
@[simp] theorem State.noteVerdict_rke (v : RoundVerdict) : (s.noteVerdict v).rke = s.rke := rfl
@[simp] theorem State.noteVerdict_zwc (v : RoundVerdict) : (s.noteVerdict v).zwc = s.zwc := rfl
@[simp] theorem State.noteVerdict_oda (v : RoundVerdict) : (s.noteVerdict v).oda = s.oda := rfl
@[simp] theorem State.noteVerdict_cau (v : RoundVerdict) : (s.noteVerdict v).cau = s.cau := rfl
@[simp] theorem State.noteVerdict_pif (v : RoundVerdict) : (s.noteVerdict v).pif = s.pif := rfl
@[simp] theorem State.noteVerdict_wrl (v : RoundVerdict) : (s.noteVerdict v).wrl = s.wrl := rfl
@[simp] theorem State.noteVerdict_pending (v : RoundVerdict) : (s.noteVerdict v).pending = s.pending := rfl

/-! ### State.restartIdle -/

@[simp] theorem State.restartIdle_now : (s.restartIdle).now = s.now := rfl
@[simp] theorem State.restartIdle_flc : (s.restartIdle).flc = s.flc := rfl
@[simp] theorem State.restartIdle_srg : (s.restartIdle).srg = s.srg := rfl
@[simp] theorem State.restartIdle_wgt : (s.restartIdle).wgt = s.wgt := rfl
@[simp] theorem State.restartIdle_spm : (s.restartIdle).spm = s.spm := rfl
@[simp] theorem State.restartIdle_rke : (s.restartIdle).rke = s.rke := rfl
@[simp] theorem State.restartIdle_zwc : (s.restartIdle).zwc = s.zwc := rfl
@[simp] theorem State.restartIdle_oda : (s.restartIdle).oda = s.oda := rfl
@[simp] theorem State.restartIdle_pif : (s.restartIdle).pif = s.pif := rfl
@[simp] theorem State.restartIdle_wrl : (s.restartIdle).wrl = s.wrl := rfl
@[simp] theorem State.restartIdle_pending : (s.restartIdle).pending = s.pending := rfl

/-! ### State.setReceiver -/

@[simp] theorem State.setReceiver_now (p : Port) (r : Receiver) : (s.setReceiver p r).now = s.now := rfl
@[simp] theorem State.setReceiver_flc (p : Port) (r : Receiver) : (s.setReceiver p r).flc = s.flc := rfl
@[simp] theorem State.setReceiver_srg (p : Port) (r : Receiver) : (s.setReceiver p r).srg = s.srg := rfl
@[simp] theorem State.setReceiver_wgt (p : Port) (r : Receiver) : (s.setReceiver p r).wgt = s.wgt := rfl
@[simp] theorem State.setReceiver_spm (p : Port) (r : Receiver) : (s.setReceiver p r).spm = s.spm := rfl
@[simp] theorem State.setReceiver_rke (p : Port) (r : Receiver) : (s.setReceiver p r).rke = s.rke := rfl
@[simp] theorem State.setReceiver_zwc (p : Port) (r : Receiver) : (s.setReceiver p r).zwc = s.zwc := rfl
@[simp] theorem State.setReceiver_oda (p : Port) (r : Receiver) : (s.setReceiver p r).oda = s.oda := rfl
@[simp] theorem State.setReceiver_cau (p : Port) (r : Receiver) : (s.setReceiver p r).cau = s.cau := rfl
@[simp] theorem State.setReceiver_wrl (p : Port) (r : Receiver) : (s.setReceiver p r).wrl = s.wrl := rfl
@[simp] theorem State.setReceiver_pending (p : Port) (r : Receiver) : (s.setReceiver p r).pending = s.pending := rfl

end Sys2Proof.Machine
end

