-- ==== Sys2Proof/Laws/Keeps.lean ====
section
/-! SUPPORT. For every shared operation, the parts of the state that it can change: one lemma each. -/

namespace Sys2Proof.Machine

theorem KeepsBut.refl (ps : List Part) (s : State) : KeepsBut ps s s := by constructor <;> intro _ <;> rfl

theorem KeepsBut.trans {ps : List Part} {s t u : State} (h : KeepsBut ps s t) (k : KeepsBut ps t u) :
    KeepsBut ps s u :=
  ⟨fun x => (k.now x).trans (h.now x), fun x => (k.flc x).trans (h.flc x), fun x => (k.srg x).trans (h.srg x),
   fun x => (k.wgt x).trans (h.wgt x), fun x => (k.spm x).trans (h.spm x), fun x => (k.rke x).trans (h.rke x),
   fun x => (k.zwc x).trans (h.zwc x), fun x => (k.oda x).trans (h.oda x), fun x => (k.cau x).trans (h.cau x),
   fun x => (k.pif x).trans (h.pif x), fun x => (k.wrl x).trans (h.wrl x),
   fun x => (k.pending x).trans (h.pending x)⟩

theorem KeepsBut.mono {ps qs : List Part} {s t : State} (h : KeepsBut ps s t) (k : ∀ p ∈ ps, p ∈ qs) :
    KeepsBut qs s t :=
  ⟨fun x => h.now (fun m => x (k _ m)), fun x => h.flc (fun m => x (k _ m)), fun x => h.srg (fun m => x (k _ m)),
   fun x => h.wgt (fun m => x (k _ m)), fun x => h.spm (fun m => x (k _ m)), fun x => h.rke (fun m => x (k _ m)),
   fun x => h.zwc (fun m => x (k _ m)), fun x => h.oda (fun m => x (k _ m)), fun x => h.cau (fun m => x (k _ m)),
   fun x => h.pif (fun m => x (k _ m)), fun x => h.wrl (fun m => x (k _ m)),
   fun x => h.pending (fun m => x (k _ m))⟩

/-- One more operation whose changes stay within the list. -/
theorem KeepsBut.andThen {ps qs : List Part} {s t u : State} (k : KeepsBut ps t u)
    (m : ∀ p ∈ ps, p ∈ qs) (h : KeepsBut qs s t) : KeepsBut qs s u := h.trans (k.mono m)

theorem KeepsBut.foldl {α : Type} {ps : List Part} (f : State → α → State)
    (h : ∀ s a, KeepsBut ps s (f s a)) : ∀ (l : List α) (s : State), KeepsBut ps s (l.foldl f s)
  | [], s => KeepsBut.refl ps s
  | a :: l, s => (h s a).trans (KeepsBut.foldl f h l (f s a))

theorem KeepsBut.putFlc {ps : List Part} {s t : State} (x : Flc) (m : Part.flc ∈ ps)
    (h : KeepsBut ps s t) : KeepsBut ps s { t with flc := x } :=
  h.trans (by constructor <;> intro k <;> first | rfl | exact absurd m k)

theorem KeepsBut.putSrg {ps : List Part} {s t : State} (x : Srg) (m : Part.srg ∈ ps)
    (h : KeepsBut ps s t) : KeepsBut ps s { t with srg := x } :=
  h.trans (by constructor <;> intro k <;> first | rfl | exact absurd m k)

theorem KeepsBut.putWgt {ps : List Part} {s t : State} (x : Wgt) (m : Part.wgt ∈ ps)
    (h : KeepsBut ps s t) : KeepsBut ps s { t with wgt := x } :=
  h.trans (by constructor <;> intro k <;> first | rfl | exact absurd m k)

theorem KeepsBut.putSpm {ps : List Part} {s t : State} (x : Spm) (m : Part.spm ∈ ps)
    (h : KeepsBut ps s t) : KeepsBut ps s { t with spm := x } :=
  h.trans (by constructor <;> intro k <;> first | rfl | exact absurd m k)

theorem KeepsBut.putRke {ps : List Part} {s t : State} (x : Rke) (m : Part.rke ∈ ps)
    (h : KeepsBut ps s t) : KeepsBut ps s { t with rke := x } :=
  h.trans (by constructor <;> intro k <;> first | rfl | exact absurd m k)

theorem KeepsBut.putZwc {ps : List Part} {s t : State} (x : Zwc) (m : Part.zwc ∈ ps)
    (h : KeepsBut ps s t) : KeepsBut ps s { t with zwc := x } :=
  h.trans (by constructor <;> intro k <;> first | rfl | exact absurd m k)

theorem KeepsBut.putOda {ps : List Part} {s t : State} (x : Oda) (m : Part.oda ∈ ps)
    (h : KeepsBut ps s t) : KeepsBut ps s { t with oda := x } :=
  h.trans (by constructor <;> intro k <;> first | rfl | exact absurd m k)

theorem KeepsBut.putCau {ps : List Part} {s t : State} (x : Cau) (m : Part.cau ∈ ps)
    (h : KeepsBut ps s t) : KeepsBut ps s { t with cau := x } :=
  h.trans (by constructor <;> intro k <;> first | rfl | exact absurd m k)

theorem KeepsBut.putPif {ps : List Part} {s t : State} (x : Pif) (m : Part.pif ∈ ps)
    (h : KeepsBut ps s t) : KeepsBut ps s { t with pif := x } :=
  h.trans (by constructor <;> intro k <;> first | rfl | exact absurd m k)

theorem KeepsBut.putWrl {ps : List Part} {s t : State} (x : Wrl) (m : Part.wrl ∈ ps)
    (h : KeepsBut ps s t) : KeepsBut ps s { t with wrl := x } :=
  h.trans (by constructor <;> intro k <;> first | rfl | exact absurd m k)

theorem State.reach_keeps (t : Time) (s : State) :
    KeepsBut [.now] s (State.reach t s) := by
  constructor <;> intro h <;> first | rfl | exact absurd (by decide) h

theorem State.updStation_keeps (slot : Nat) (f : Station → Station) (s : State) :
    KeepsBut [.srg] s (State.updStation slot f s) := by
  constructor <;> intro h <;> first | rfl | exact absurd (by decide) h

theorem State.updMast_keeps (slot : Nat) (f : Mast → Mast) (s : State) :
    KeepsBut [.wgt] s (State.updMast slot f s) := by
  constructor <;> intro h <;> first | rfl | exact absurd (by decide) h

theorem State.updPile_keeps (n : Nat) (f : Pile → Pile) (s : State) :
    KeepsBut [.spm] s (State.updPile n f s) := by
  constructor <;> intro h <;> first | rfl | exact absurd (by decide) h

theorem State.updZone_keeps (n : Nat) (f : Zone → Zone) (s : State) :
    KeepsBut [.zwc] s (State.updZone n f s) := by
  constructor <;> intro h <;> first | rfl | exact absurd (by decide) h

theorem State.updLine_keeps (n : Nat) (f : Line → Line) (s : State) :
    KeepsBut [.oda] s (State.updLine n f s) := by
  constructor <;> intro h <;> first | rfl | exact absurd (by decide) h

theorem State.updZoneResult_keeps (n : Nat) (f : ZoneResult → ZoneResult) (s : State) :
    KeepsBut [.rke] s (State.updZoneResult n f s) := by
  constructor <;> intro h <;> first | rfl | exact absurd (by decide) h

theorem State.updPort_keeps (port : Port) (f : PortState → PortState) (s : State) :
    KeepsBut [.pif] s (State.updPort port f s) := by
  constructor <;> intro h <;> first | rfl | exact absurd (by decide) h

theorem State.record_keeps (body : EntryBody) (s : State) :
    KeepsBut [.wrl] s (State.record body s) := by
  constructor <;> intro h <;> first | rfl | exact absurd (by decide) h

theorem State.raise_keeps (cls : NoticeClass) (n : Notice) (s : State) :
    KeepsBut [.pif] s (State.raise cls n s) := by
  constructor <;> intro h <;> first | rfl | exact absurd (by decide) h

theorem State.replySegments_keeps (a : Asked) (r : Result) (segments : List (List Byte)) (s : State) :
    KeepsBut [.pif] s (State.replySegments a r segments s) := by
  constructor <;> intro h <;> first | rfl | exact absurd (by decide) h

theorem State.reply_keeps (a : Asked) (r : Result) (units : List (List Byte)) (s : State) :
    KeepsBut [.pif] s (State.reply a r units s) := by
  constructor <;> intro h <;> first | rfl | exact absurd (by decide) h

theorem State.replyRange_keeps (a : Asked) (index : Nat) (s : State) :
    KeepsBut [.pif] s (State.replyRange a index s) := by
  constructor <;> intro h <;> first | rfl | exact absurd (by decide) h

theorem State.demandLine_keeps (n : Nat) (d : Demand) (s : State) :
    KeepsBut [.oda] s (State.demandLine n d s) := by
  constructor <;> intro h <;> first | rfl | exact absurd (by decide) h

theorem State.takeGauge_keeps (slot : Nat) (humidity : Nat) (rain : Bool) (heater : Bool) (s : State) :
    KeepsBut [.spm] s (State.takeGauge slot humidity rain heater s) := by
  constructor <;> intro h <;> first | rfl | exact absurd (by decide) h

theorem State.takeDust_keeps (slot : Nat) (concentration : Nat) (code : Nat) (s : State) :
    KeepsBut [.spm] s (State.takeDust slot concentration code s) := by
  constructor <;> intro h <;> first | rfl | exact absurd (by decide) h

theorem State.revoke_keeps (slot : Nat) (s : State) :
    KeepsBut [.srg] s (State.revoke slot s) := by
  constructor <;> intro h <;> first | rfl | exact absurd (by decide) h

theorem State.enqueue_keeps (slot : Nat) (s : State) :
    KeepsBut [.srg] s (State.enqueue slot s) := by
  constructor <;> intro h <;> first | rfl | exact absurd (by decide) h

theorem State.unqueue_keeps (slot : Nat) (s : State) :
    KeepsBut [.srg] s (State.unqueue slot s) := by
  constructor <;> intro h <;> first | rfl | exact absurd (by decide) h

theorem State.forgetStranger_keeps (i : Identity) (s : State) :
    KeepsBut [.srg] s (State.forgetStranger i s) := by
  constructor <;> intro h <;> first | rfl | exact absurd (by decide) h

theorem State.updGust_keeps (id : Nat) (f : Gust → Gust) (s : State) :
    KeepsBut [.wgt] s (State.updGust id f s) := by
  constructor <;> intro h <;> first | rfl | exact absurd (by decide) h

theorem State.putWind_keeps (n : Nat) (c : WindChoice) (s : State) :
    KeepsBut [.rke] s (State.putWind n c s) := by
  constructor <;> intro h <;> first | rfl | exact absurd (by decide) h

theorem State.noteVerdict_keeps (v : RoundVerdict) (s : State) :
    KeepsBut [.flc] s (State.noteVerdict v s) := by
  constructor <;> intro h <;> first | rfl | exact absurd (by decide) h

theorem State.restartIdle_keeps (s : State) :
    KeepsBut [.cau] s (State.restartIdle s) := by
  constructor <;> intro h <;> first | rfl | exact absurd (by decide) h

theorem State.setReceiver_keeps (port : Port) (r : Receiver) (s : State) :
    KeepsBut [.pif] s (State.setReceiver port r s) := by
  constructor <;> intro h <;> first | rfl | exact absurd (by decide) h

theorem State.raiseZone_keeps (cls : NoticeClass) (event : LevelEvent) (n : Nat) (s : State) :
    KeepsBut [.pif] s (State.raiseZone cls event n s) := by
  simp only [State.raiseZone]
  repeat' (first
    | with_reducible exact KeepsBut.refl _ _
    | split
    | with_reducible refine (State.raise_keeps ..).andThen (by decide) ?_
    | exact KeepsBut.refl _ _
    | (constructor <;> intro h <;> first | rfl | exact absurd (by decide) h))

theorem State.deriveDemand_keeps (n : Nat) (s : State) :
    KeepsBut [.zwc, .oda] s (State.deriveDemand n s) := by
  simp only [State.deriveDemand]
  repeat' (first
    | with_reducible exact KeepsBut.refl _ _
    | split
    | with_reducible refine (State.demandLine_keeps ..).andThen (by decide) ?_
    | with_reducible refine (State.updZone_keeps ..).andThen (by decide) ?_
    | exact KeepsBut.refl _ _
    | (constructor <;> intro h <;> first | rfl | exact absurd (by decide) h))

theorem State.judgeDark_keeps (n : Nat) (s : State) :
    KeepsBut [.zwc, .pif] s (State.judgeDark n s) := by
  simp only [State.judgeDark]
  repeat' (first
    | with_reducible exact KeepsBut.refl _ _
    | split
    | with_reducible refine (State.raiseZone_keeps ..).andThen (by decide) ?_
    | with_reducible refine (State.updZone_keeps ..).andThen (by decide) ?_
    | exact KeepsBut.refl _ _
    | (constructor <;> intro h <;> first | rfl | exact absurd (by decide) h))

theorem State.faultReport_keeps (line : Nat) (s : State) :
    KeepsBut [.zwc, .pif] s (State.faultReport line s) := by
  simp only [State.faultReport]
  repeat' (first
    | with_reducible exact KeepsBut.refl _ _
    | with_reducible refine (State.judgeDark_keeps ..).andThen (by decide) ?_
    | exact KeepsBut.refl _ _)

theorem State.abortTest_keeps (n : Nat) (new : Level) (s : State) :
    KeepsBut [.zwc, .wrl] s (State.abortTest n new s) := by
  simp only [State.abortTest]
  repeat' (first
    | with_reducible exact KeepsBut.refl _ _
    | split
    | with_reducible refine (State.record_keeps ..).andThen (by decide) ?_
    | with_reducible refine (State.updZone_keeps ..).andThen (by decide) ?_
    | exact KeepsBut.refl _ _
    | (constructor <;> intro h <;> first | rfl | exact absurd (by decide) h))

theorem State.changeLevel_keeps (n : Nat) (new : Level) (cause : LevelCause) (s : State) :
    KeepsBut [.zwc, .wrl, .pif] s (State.changeLevel n new cause s) := by
  simp only [State.changeLevel]
  repeat' (first
    | with_reducible exact KeepsBut.refl _ _
    | split
    | with_reducible refine (State.abortTest_keeps ..).andThen (by decide) ?_
    | with_reducible refine (State.raise_keeps ..).andThen (by decide) ?_
    | with_reducible refine (State.record_keeps ..).andThen (by decide) ?_
    | with_reducible refine (State.updZone_keeps ..).andThen (by decide) ?_
    | refine KeepsBut.putWrl _ (by decide) ?_
    | exact KeepsBut.refl _ _
    | (constructor <;> intro h <;> first | rfl | exact absurd (by decide) h))

theorem State.decideLevel_keeps (n : Nat) (r : Nat) (s : State) :
    KeepsBut [.zwc, .wrl, .pif] s (State.decideLevel n r s) := by
  simp only [State.decideLevel]
  repeat' (first
    | with_reducible exact KeepsBut.refl _ _
    | split
    | with_reducible refine (State.changeLevel_keeps ..).andThen (by decide) ?_
    | with_reducible refine (State.updZone_keeps ..).andThen (by decide) ?_
    | exact KeepsBut.refl _ _
    | (constructor <;> intro h <;> first | rfl | exact absurd (by decide) h))

theorem State.deliverRisk_keeps (d : Delivery) (s : State) :
    KeepsBut [.zwc, .wrl, .pif, .oda] s (State.deliverRisk d s) := by
  simp only [State.deliverRisk]
  repeat' (first
    | with_reducible exact KeepsBut.refl _ _
    | with_reducible refine (State.decideLevel_keeps ..).andThen (by decide) ?_
    | with_reducible refine (State.deriveDemand_keeps ..).andThen (by decide) ?_
    | with_reducible refine (State.updZone_keeps ..).andThen (by decide) ?_
    | exact KeepsBut.refl _ _)

theorem State.endFloor_keeps (n : Nat) (role : Port) (byExpiry : Bool) (s : State) :
    KeepsBut [.zwc, .wrl, .pif] s (State.endFloor n role byExpiry s) := by
  simp only [State.endFloor]
  repeat' (first
    | with_reducible exact KeepsBut.refl _ _
    | split
    | with_reducible refine (State.raiseZone_keeps ..).andThen (by decide) ?_
    | with_reducible refine (State.record_keeps ..).andThen (by decide) ?_
    | with_reducible refine (State.updZone_keeps ..).andThen (by decide) ?_
    | exact KeepsBut.refl _ _
    | (constructor <;> intro h <;> first | rfl | exact absurd (by decide) h))

theorem State.setFloor_keeps (n : Nat) (role : Port) (l : Level) (minutes : Nat) (s : State) :
    KeepsBut [.zwc, .wrl, .pif, .oda] s (State.setFloor n role l minutes s) := by
  simp only [State.setFloor]
  repeat' (first
    | with_reducible exact KeepsBut.refl _ _
    | split
    | with_reducible refine (State.changeLevel_keeps ..).andThen (by decide) ?_
    | with_reducible refine (State.deriveDemand_keeps ..).andThen (by decide) ?_
    | with_reducible refine (State.raiseZone_keeps ..).andThen (by decide) ?_
    | with_reducible refine (State.record_keeps ..).andThen (by decide) ?_
    | with_reducible refine (State.updZone_keeps ..).andThen (by decide) ?_
    | exact KeepsBut.refl _ _
    | (constructor <;> intro h <;> first | rfl | exact absurd (by decide) h))

theorem floorCommand_keeps (zone : Byte) (level : Byte) (minutes : BitVec 16) (a : Asked) (s : State) :
    KeepsBut [.zwc, .wrl, .pif, .oda] s (floorCommand zone level minutes a s) := by
  simp only [floorCommand]
  repeat' (first
    | with_reducible exact KeepsBut.refl _ _
    | split
    | with_reducible refine (State.setFloor_keeps ..).andThen (by decide) ?_
    | with_reducible refine (State.endFloor_keeps ..).andThen (by decide) ?_
    | with_reducible refine (State.replyRange_keeps ..).andThen (by decide) ?_
    | with_reducible refine (State.reply_keeps ..).andThen (by decide) ?_
    | exact KeepsBut.refl _ _
    | (constructor <;> intro h <;> first | rfl | exact absurd (by decide) h))

theorem ackAlertCommand_keeps (zone : Byte) (a : Asked) (s : State) :
    KeepsBut [.zwc, .wrl, .pif, .oda] s (ackAlertCommand zone a s) := by
  simp only [ackAlertCommand]
  repeat' (first
    | with_reducible exact KeepsBut.refl _ _
    | split
    | with_reducible refine (State.deriveDemand_keeps ..).andThen (by decide) ?_
    | with_reducible refine (State.raiseZone_keeps ..).andThen (by decide) ?_
    | with_reducible refine (State.replyRange_keeps ..).andThen (by decide) ?_
    | with_reducible refine (State.reply_keeps ..).andThen (by decide) ?_
    | with_reducible refine (State.record_keeps ..).andThen (by decide) ?_
    | with_reducible refine (State.updZone_keeps ..).andThen (by decide) ?_
    | exact KeepsBut.refl _ _
    | (constructor <;> intro h <;> first | rfl | exact absurd (by decide) h))

theorem State.putSilence_keeps (n : Nat) (until_ : Option Seconds) (minutes : Nat) (byExpiry : Bool) (s : State) :
    KeepsBut [.zwc, .wrl, .pif, .oda] s (State.putSilence n until_ minutes byExpiry s) := by
  simp only [State.putSilence]
  repeat' (first
    | with_reducible exact KeepsBut.refl _ _
    | with_reducible refine (State.deriveDemand_keeps ..).andThen (by decide) ?_
    | with_reducible refine (State.raiseZone_keeps ..).andThen (by decide) ?_
    | with_reducible refine (State.record_keeps ..).andThen (by decide) ?_
    | with_reducible refine (State.updZone_keeps ..).andThen (by decide) ?_
    | exact KeepsBut.refl _ _
    | (constructor <;> intro h <;> first | rfl | exact absurd (by decide) h))

theorem silenceCommand_keeps (zone : Byte) (minutes : BitVec 16) (a : Asked) (s : State) :
    KeepsBut [.zwc, .wrl, .pif, .oda] s (silenceCommand zone minutes a s) := by
  simp only [silenceCommand]
  repeat' (first
    | with_reducible exact KeepsBut.refl _ _
    | split
    | with_reducible refine (State.putSilence_keeps ..).andThen (by decide) ?_
    | with_reducible refine (State.replyRange_keeps ..).andThen (by decide) ?_
    | with_reducible refine (State.reply_keeps ..).andThen (by decide) ?_
    | exact KeepsBut.refl _ _
    | (constructor <;> intro h <;> first | rfl | exact absurd (by decide) h))

theorem State.putService_keeps (n : Nat) (v : Service) (s : State) :
    KeepsBut [.zwc, .wrl, .pif, .oda] s (State.putService n v s) := by
  simp only [State.putService]
  repeat' (first
    | with_reducible exact KeepsBut.refl _ _
    | split
    | with_reducible refine (State.deriveDemand_keeps ..).andThen (by decide) ?_
    | with_reducible refine (State.raiseZone_keeps ..).andThen (by decide) ?_
    | with_reducible refine (State.record_keeps ..).andThen (by decide) ?_
    | with_reducible refine (State.updZone_keeps ..).andThen (by decide) ?_
    | exact KeepsBut.refl _ _
    | (constructor <;> intro h <;> first | rfl | exact absurd (by decide) h))

theorem serviceCommand_keeps (zone : Byte) (state : Byte) (a : Asked) (s : State) :
    KeepsBut [.zwc, .wrl, .pif, .oda] s (serviceCommand zone state a s) := by
  simp only [serviceCommand]
  repeat' (first
    | with_reducible exact KeepsBut.refl _ _
    | split
    | with_reducible refine (State.putService_keeps ..).andThen (by decide) ?_
    | with_reducible refine (State.replyRange_keeps ..).andThen (by decide) ?_
    | with_reducible refine (State.reply_keeps ..).andThen (by decide) ?_
    | exact KeepsBut.refl _ _
    | (constructor <;> intro h <;> first | rfl | exact absurd (by decide) h))

theorem testCommand_keeps (zone : Byte) (a : Asked) (s : State) :
    KeepsBut [.zwc, .wrl, .pif, .oda] s (testCommand zone a s) := by
  simp only [testCommand]
  repeat' (first
    | with_reducible exact KeepsBut.refl _ _
    | split
    | with_reducible refine (State.deriveDemand_keeps ..).andThen (by decide) ?_
    | with_reducible refine (State.raiseZone_keeps ..).andThen (by decide) ?_
    | with_reducible refine (State.replyRange_keeps ..).andThen (by decide) ?_
    | with_reducible refine (State.reply_keeps ..).andThen (by decide) ?_
    | with_reducible refine (State.record_keeps ..).andThen (by decide) ?_
    | with_reducible refine (State.updZone_keeps ..).andThen (by decide) ?_
    | exact KeepsBut.refl _ _
    | (constructor <;> intro h <;> first | rfl | exact absurd (by decide) h))

theorem State.expireFloor_keeps (n : Nat) (role : Port) (s : State) :
    KeepsBut [.now, .zwc, .wrl, .pif] s (State.expireFloor n role s) := by
  simp only [State.expireFloor]
  repeat' (first
    | with_reducible exact KeepsBut.refl _ _
    | split
    | with_reducible refine (State.endFloor_keeps ..).andThen (by decide) ?_
    | with_reducible refine (State.reach_keeps ..).andThen (by decide) ?_
    | exact KeepsBut.refl _ _
    | (constructor <;> intro h <;> first | rfl | exact absurd (by decide) h))

theorem State.expireSilence_keeps (n : Nat) (s : State) :
    KeepsBut [.now, .zwc, .wrl, .pif, .oda] s (State.expireSilence n s) := by
  simp only [State.expireSilence]
  repeat' (first
    | with_reducible exact KeepsBut.refl _ _
    | split
    | with_reducible refine (State.putSilence_keeps ..).andThen (by decide) ?_
    | with_reducible refine (State.reach_keeps ..).andThen (by decide) ?_
    | exact KeepsBut.refl _ _
    | (constructor <;> intro h <;> first | rfl | exact absurd (by decide) h))

theorem State.completeTest_keeps (n : Nat) (s : State) :
    KeepsBut [.now, .zwc, .wrl, .pif, .oda] s (State.completeTest n s) := by
  simp only [State.completeTest]
  repeat' (first
    | with_reducible exact KeepsBut.refl _ _
    | split
    | with_reducible refine (State.deriveDemand_keeps ..).andThen (by decide) ?_
    | with_reducible refine (State.raiseZone_keeps ..).andThen (by decide) ?_
    | with_reducible refine (State.record_keeps ..).andThen (by decide) ?_
    | with_reducible refine (State.updZone_keeps ..).andThen (by decide) ?_
    | with_reducible refine (State.reach_keeps ..).andThen (by decide) ?_
    | exact KeepsBut.refl _ _
    | (constructor <;> intro h <;> first | rfl | exact absurd (by decide) h))

theorem State.silenceZone_keeps (port : Port) (n : Nat) (s : State) :
    KeepsBut [.zwc, .oda, .pif] s (State.silenceZone port n s) := by
  simp only [State.silenceZone]
  repeat' (first
    | with_reducible exact KeepsBut.refl _ _
    | split
    | with_reducible refine (State.deriveDemand_keeps ..).andThen (by decide) ?_
    | with_reducible refine (State.raiseZone_keeps ..).andThen (by decide) ?_
    | with_reducible refine (State.updZone_keeps ..).andThen (by decide) ?_
    | exact KeepsBut.refl _ _
    | (constructor <;> intro h <;> first | rfl | exact absurd (by decide) h))

theorem State.silenceZones_keeps (port : Port) (s : State) :
    KeepsBut [.zwc, .oda, .pif] s (State.silenceZones port s) := by
  simp only [State.silenceZones]
  repeat' (first
    | with_reducible exact KeepsBut.refl _ _
    | with_reducible refine KeepsBut.trans ?_ (KeepsBut.foldl _ (fun _ _ => ?_) _ _)
    | with_reducible refine (State.silenceZone_keeps ..).andThen (by decide) ?_
    | exact KeepsBut.refl _ _)

theorem State.restartZones_keeps (s : State) :
    KeepsBut [.zwc, .oda] s (State.restartZones s) := by
  simp only [State.restartZones]
  repeat' (first
    | with_reducible exact KeepsBut.refl _ _
    | with_reducible refine KeepsBut.trans ?_ (KeepsBut.foldl _ (fun _ _ => ?_) _ _)
    | with_reducible refine (State.deriveDemand_keeps ..).andThen (by decide) ?_
    | refine KeepsBut.putZwc _ (by decide) ?_
    | exact KeepsBut.refl _ _
    | (constructor <;> intro h <;> first | rfl | exact absurd (by decide) h))

theorem State.applyZone_keeps (c : ZoneCfg) (s : State) :
    KeepsBut [.zwc, .oda, .pif] s (State.applyZone c s) := by
  simp only [State.applyZone]
  repeat' (first
    | with_reducible exact KeepsBut.refl _ _
    | split
    | with_reducible refine (State.judgeDark_keeps ..).andThen (by decide) ?_
    | with_reducible refine (State.deriveDemand_keeps ..).andThen (by decide) ?_
    | with_reducible refine (State.updZone_keeps ..).andThen (by decide) ?_
    | refine KeepsBut.putZwc _ (by decide) ?_
    | exact KeepsBut.refl _ _
    | (constructor <;> intro h <;> first | rfl | exact absurd (by decide) h))

theorem State.dropZone_keeps (n : Nat) (s : State) :
    KeepsBut [.zwc, .wrl, .oda] s (State.dropZone n s) := by
  simp only [State.dropZone]
  repeat' (first
    | with_reducible exact KeepsBut.refl _ _
    | split
    | with_reducible refine (State.demandLine_keeps ..).andThen (by decide) ?_
    | with_reducible refine (State.record_keeps ..).andThen (by decide) ?_
    | refine KeepsBut.putZwc _ (by decide) ?_
    | exact KeepsBut.refl _ _
    | (constructor <;> intro h <;> first | rfl | exact absurd (by decide) h))

theorem State.raiseLine_keeps (cls : NoticeClass) (event : LineEvent) (n : Nat) (s : State) :
    KeepsBut [.pif] s (State.raiseLine cls event n s) := by
  simp only [State.raiseLine]
  repeat' (first
    | with_reducible exact KeepsBut.refl _ _
    | split
    | with_reducible refine (State.raise_keeps ..).andThen (by decide) ?_
    | exact KeepsBut.refl _ _
    | (constructor <;> intro h <;> first | rfl | exact absurd (by decide) h))

theorem State.shortLine_keeps (n : Nat) (s : State) :
    KeepsBut [.oda, .zwc, .pif] s (State.shortLine n s) := by
  simp only [State.shortLine]
  repeat' (first
    | with_reducible exact KeepsBut.refl _ _
    | split
    | with_reducible refine (State.raiseLine_keeps ..).andThen (by decide) ?_
    | with_reducible refine (State.faultReport_keeps ..).andThen (by decide) ?_
    | with_reducible refine (State.updLine_keeps ..).andThen (by decide) ?_
    | exact KeepsBut.refl _ _
    | (constructor <;> intro h <;> first | rfl | exact absurd (by decide) h))

theorem State.putOpen_keeps (n : Nat) (v : Bool) (s : State) :
    KeepsBut [.oda, .zwc, .pif] s (State.putOpen n v s) := by
  simp only [State.putOpen]
  repeat' (first
    | with_reducible exact KeepsBut.refl _ _
    | split
    | with_reducible refine (State.raiseLine_keeps ..).andThen (by decide) ?_
    | with_reducible refine (State.faultReport_keeps ..).andThen (by decide) ?_
    | with_reducible refine (State.updLine_keeps ..).andThen (by decide) ?_
    | exact KeepsBut.refl _ _
    | (constructor <;> intro h <;> first | rfl | exact absurd (by decide) h))

theorem State.checkLine_keeps (sense : BitVec 32) (n : Nat) (s : State) :
    KeepsBut [.oda, .zwc, .pif] s (State.checkLine sense n s) := by
  simp only [State.checkLine]
  repeat' (first
    | with_reducible exact KeepsBut.refl _ _
    | split
    | with_reducible refine (State.putOpen_keeps ..).andThen (by decide) ?_
    | with_reducible refine (State.updLine_keeps ..).andThen (by decide) ?_
    | exact KeepsBut.refl _ _
    | (constructor <;> intro h <;> first | rfl | exact absurd (by decide) h))

theorem State.endRetry_keeps (n : Nat) (s : State) :
    KeepsBut [.now, .oda] s (State.endRetry n s) := by
  simp only [State.endRetry]
  repeat' (first
    | with_reducible exact KeepsBut.refl _ _
    | split
    | with_reducible refine (State.updLine_keeps ..).andThen (by decide) ?_
    | with_reducible refine (State.reach_keeps ..).andThen (by decide) ?_
    | refine KeepsBut.putOda _ (by decide) ?_
    | exact KeepsBut.refl _ _
    | (constructor <;> intro h <;> first | rfl | exact absurd (by decide) h))

theorem State.changePhase_keeps (g : Generator) (s : State) :
    KeepsBut [.now, .oda] s (State.changePhase g s) := by
  simp only [State.changePhase]
  repeat' (first
    | with_reducible exact KeepsBut.refl _ _
    | split
    | with_reducible refine (State.reach_keeps ..).andThen (by decide) ?_
    | refine KeepsBut.putOda _ (by decide) ?_
    | exact KeepsBut.refl _ _
    | (constructor <;> intro h <;> first | rfl | exact absurd (by decide) h))

theorem State.cleanTick_keeps (s : State) :
    KeepsBut [.now, .oda] s (State.cleanTick s) := by
  simp only [State.cleanTick]
  repeat' (first
    | with_reducible exact KeepsBut.refl _ _
    | with_reducible refine (State.reach_keeps ..).andThen (by decide) ?_
    | refine KeepsBut.putOda _ (by decide) ?_
    | exact KeepsBut.refl _ _
    | (constructor <;> intro h <;> first | rfl | exact absurd (by decide) h))

theorem State.checkLines_keeps (sense : BitVec 32) (s : State) :
    KeepsBut [.now, .oda, .zwc, .pif] s (State.checkLines sense s) := by
  simp only [State.checkLines]
  repeat' (first
    | with_reducible exact KeepsBut.refl _ _
    | with_reducible refine KeepsBut.trans ?_ (KeepsBut.foldl _ (fun _ _ => ?_) _ _)
    | with_reducible refine (State.checkLine_keeps ..).andThen (by decide) ?_
    | with_reducible refine (State.reach_keeps ..).andThen (by decide) ?_
    | refine KeepsBut.putOda _ (by decide) ?_
    | exact KeepsBut.refl _ _
    | (constructor <;> intro h <;> first | rfl | exact absurd (by decide) h))

theorem State.clearLatch_keeps (n : Nat) (openFlag : Bool) (s : State) :
    KeepsBut [.oda, .wrl, .zwc, .pif] s (State.clearLatch n openFlag s) := by
  simp only [State.clearLatch]
  repeat' (first
    | with_reducible exact KeepsBut.refl _ _
    | split
    | with_reducible refine (State.raiseLine_keeps ..).andThen (by decide) ?_
    | with_reducible refine (State.faultReport_keeps ..).andThen (by decide) ?_
    | with_reducible refine (State.record_keeps ..).andThen (by decide) ?_
    | with_reducible refine (State.updLine_keeps ..).andThen (by decide) ?_
    | refine KeepsBut.putOda _ (by decide) ?_
    | exact KeepsBut.refl _ _
    | (constructor <;> intro h <;> first | rfl | exact absurd (by decide) h))

theorem clearLineCommand_keeps (line : Byte) (a : Asked) (s : State) :
    KeepsBut [.oda, .wrl, .zwc, .pif] s (clearLineCommand line a s) := by
  simp only [clearLineCommand]
  repeat' (first
    | with_reducible exact KeepsBut.refl _ _
    | split
    | with_reducible refine (State.clearLatch_keeps ..).andThen (by decide) ?_
    | with_reducible refine (State.replyRange_keeps ..).andThen (by decide) ?_
    | with_reducible refine (State.reply_keeps ..).andThen (by decide) ?_
    | exact KeepsBut.refl _ _
    | (constructor <;> intro h <;> first | rfl | exact absurd (by decide) h))

theorem State.updateBlind_keeps (s : State) :
    KeepsBut [.wgt, .pif] s (State.updateBlind s) := by
  simp only [State.updateBlind]
  repeat' (first
    | with_reducible exact KeepsBut.refl _ _
    | split
    | with_reducible refine (State.raise_keeps ..).andThen (by decide) ?_
    | refine KeepsBut.putWgt _ (by decide) ?_
    | exact KeepsBut.refl _ _
    | (constructor <;> intro h <;> first | rfl | exact absurd (by decide) h))

theorem State.raiseGust_keeps (event : GustEvent) (reason : Option RemoveReason) (joined : Option Nat) (g : Gust) (s : State) :
    KeepsBut [.wgt, .pif] s (State.raiseGust event reason joined g s) := by
  simp only [State.raiseGust]
  repeat' (first
    | with_reducible exact KeepsBut.refl _ _
    | with_reducible refine (State.raise_keeps ..).andThen (by decide) ?_
    | exact KeepsBut.refl _ _)

theorem State.confirmGust_keeps (id : Nat) (slot : Nat) (s : State) :
    KeepsBut [.wgt, .pif] s (State.confirmGust id slot s) := by
  simp only [State.confirmGust]
  repeat' (first
    | with_reducible exact KeepsBut.refl _ _
    | split
    | with_reducible refine (State.raiseGust_keeps ..).andThen (by decide) ?_
    | with_reducible refine (State.updGust_keeps ..).andThen (by decide) ?_
    | exact KeepsBut.refl _ _
    | (constructor <;> intro h <;> first | rfl | exact absurd (by decide) h))

theorem State.joinGust_keeps (id : Nat) (slot : Nat) (peak : Nat) (s : State) :
    KeepsBut [.wgt, .pif] s (State.joinGust id slot peak s) := by
  simp only [State.joinGust]
  repeat' (first
    | with_reducible exact KeepsBut.refl _ _
    | with_reducible refine (State.confirmGust_keeps ..).andThen (by decide) ?_
    | with_reducible refine (State.updGust_keeps ..).andThen (by decide) ?_
    | exact KeepsBut.refl _ _
    | (constructor <;> intro h <;> first | rfl | exact absurd (by decide) h))

theorem State.mergeGust_keeps (g : Gust) (slot : Nat) (peak : Nat) (s : State) :
    KeepsBut [.wgt, .pif] s (State.mergeGust g slot peak s) := by
  simp only [State.mergeGust]
  repeat' (first
    | with_reducible exact KeepsBut.refl _ _
    | with_reducible refine (State.confirmGust_keeps ..).andThen (by decide) ?_
    | with_reducible refine (State.raiseGust_keeps ..).andThen (by decide) ?_
    | with_reducible refine (State.updGust_keeps ..).andThen (by decide) ?_
    | exact KeepsBut.refl _ _
    | (constructor <;> intro h <;> first | rfl | exact absurd (by decide) h))

theorem State.appendGust_keeps (slot : Nat) (dir : Nat) (peak : Nat) (s : State) :
    KeepsBut [.wgt, .pif] s (State.appendGust slot dir peak s) := by
  simp only [State.appendGust]
  repeat' (first
    | with_reducible exact KeepsBut.refl _ _
    | with_reducible refine (State.raiseGust_keeps ..).andThen (by decide) ?_
    | refine KeepsBut.putWgt _ (by decide) ?_
    | exact KeepsBut.refl _ _
    | (constructor <;> intro h <;> first | rfl | exact absurd (by decide) h))

theorem State.openGust_keeps (slot : Nat) (dir : Nat) (peak : Nat) (s : State) :
    KeepsBut [.wgt, .pif] s (State.openGust slot dir peak s) := by
  simp only [State.openGust]
  repeat' (first
    | with_reducible exact KeepsBut.refl _ _
    | split
    | with_reducible refine (State.appendGust_keeps ..).andThen (by decide) ?_
    | with_reducible refine (State.mergeGust_keeps ..).andThen (by decide) ?_
    | with_reducible refine (State.raiseGust_keeps ..).andThen (by decide) ?_
    | refine KeepsBut.putWgt _ (by decide) ?_
    | exact KeepsBut.refl _ _
    | (constructor <;> intro h <;> first | rfl | exact absurd (by decide) h))

theorem State.gustMember_keeps (slot : Nat) (dir : Nat) (peak : Nat) (s : State) :
    KeepsBut [.wgt, .pif] s (State.gustMember slot dir peak s) := by
  simp only [State.gustMember]
  repeat' (first
    | with_reducible exact KeepsBut.refl _ _
    | split
    | with_reducible refine (State.openGust_keeps ..).andThen (by decide) ?_
    | with_reducible refine (State.joinGust_keeps ..).andThen (by decide) ?_
    | with_reducible refine (State.updGust_keeps ..).andThen (by decide) ?_
    | refine KeepsBut.putWgt _ (by decide) ?_
    | exact KeepsBut.refl _ _
    | (constructor <;> intro h <;> first | rfl | exact absurd (by decide) h))

theorem State.gustMembership_keeps (s : State) :
    KeepsBut [.wgt, .pif] s (State.gustMembership s) := by
  simp only [State.gustMembership]
  repeat' (first
    | with_reducible exact KeepsBut.refl _ _
    | split
    | with_reducible refine KeepsBut.trans ?_ (KeepsBut.foldl _ (fun _ _ => ?_) _ _)
    | with_reducible refine (State.gustMember_keeps ..).andThen (by decide) ?_
    | refine KeepsBut.putWgt _ (by decide) ?_
    | exact KeepsBut.refl _ _
    | (constructor <;> intro h <;> first | rfl | exact absurd (by decide) h))

theorem State.closeGusts_keeps (s : State) :
    KeepsBut [.wgt, .pif] s (State.closeGusts s) := by
  simp only [State.closeGusts]
  repeat' (first
    | with_reducible exact KeepsBut.refl _ _
    | split
    | with_reducible refine KeepsBut.trans ?_ (KeepsBut.foldl _ (fun _ _ => ?_) _ _)
    | with_reducible refine (State.raiseGust_keeps ..).andThen (by decide) ?_
    | refine KeepsBut.putWgt _ (by decide) ?_
    | exact KeepsBut.refl _ _
    | (constructor <;> intro h <;> first | rfl | exact absurd (by decide) h))

theorem State.ageGusts_keeps (s : State) :
    KeepsBut [.wgt, .pif] s (State.ageGusts s) := by
  simp only [State.ageGusts]
  repeat' (first
    | with_reducible exact KeepsBut.refl _ _
    | with_reducible refine KeepsBut.trans ?_ (KeepsBut.foldl _ (fun _ _ => ?_) _ _)
    | with_reducible refine (State.raiseGust_keeps ..).andThen (by decide) ?_
    | refine KeepsBut.putWgt _ (by decide) ?_
    | exact KeepsBut.refl _ _
    | (constructor <;> intro h <;> first | rfl | exact absurd (by decide) h))

theorem State.chooseLead_keeps (s : State) :
    KeepsBut [.wgt, .pif] s (State.chooseLead s) := by
  simp only [State.chooseLead]
  repeat' (first
    | with_reducible exact KeepsBut.refl _ _
    | with_reducible refine (State.updateBlind_keeps ..).andThen (by decide) ?_
    | refine KeepsBut.putWgt _ (by decide) ?_
    | exact KeepsBut.refl _ _
    | (constructor <;> intro h <;> first | rfl | exact absurd (by decide) h))

theorem State.countGusts_keeps (s : State) :
    KeepsBut [.wgt] s (State.countGusts s) := by
  simp only [State.countGusts]
  repeat' (first
    | with_reducible exact KeepsBut.refl _ _
    | refine KeepsBut.putWgt _ (by decide) ?_
    | exact KeepsBut.refl _ _
    | (constructor <;> intro h <;> first | rfl | exact absurd (by decide) h))

theorem State.pushMasts_keeps (s : State) :
    KeepsBut [.wgt] s (State.pushMasts s) := by
  simp only [State.pushMasts]
  repeat' (first
    | with_reducible exact KeepsBut.refl _ _
    | refine KeepsBut.putWgt _ (by decide) ?_
    | exact KeepsBut.refl _ _
    | (constructor <;> intro h <;> first | rfl | exact absurd (by decide) h))

theorem State.judgeMasts_keeps (s : State) :
    KeepsBut [.wgt] s (State.judgeMasts s) := by
  simp only [State.judgeMasts]
  repeat' (first
    | with_reducible exact KeepsBut.refl _ _
    | refine KeepsBut.putWgt _ (by decide) ?_
    | exact KeepsBut.refl _ _
    | (constructor <;> intro h <;> first | rfl | exact absurd (by decide) h))

theorem State.createMast_keeps (slot : Nat) (s : State) :
    KeepsBut [.wgt] s (State.createMast slot s) := by
  simp only [State.createMast]
  repeat' (first
    | with_reducible exact KeepsBut.refl _ _
    | refine KeepsBut.putWgt _ (by decide) ?_
    | exact KeepsBut.refl _ _
    | (constructor <;> intro h <;> first | rfl | exact absurd (by decide) h))

theorem State.dropMast_keeps (slot : Nat) (s : State) :
    KeepsBut [.wgt] s (State.dropMast slot s) := by
  simp only [State.dropMast]
  repeat' (first
    | with_reducible exact KeepsBut.refl _ _
    | refine KeepsBut.putWgt _ (by decide) ?_
    | exact KeepsBut.refl _ _
    | (constructor <;> intro h <;> first | rfl | exact absurd (by decide) h))

theorem State.closeWind_keeps (s : State) :
    KeepsBut [.wgt, .pif] s (State.closeWind s) := by
  simp only [State.closeWind]
  repeat' (first
    | with_reducible exact KeepsBut.refl _ _
    | with_reducible refine (State.judgeMasts_keeps ..).andThen (by decide) ?_
    | with_reducible refine (State.pushMasts_keeps ..).andThen (by decide) ?_
    | with_reducible refine (State.countGusts_keeps ..).andThen (by decide) ?_
    | with_reducible refine (State.chooseLead_keeps ..).andThen (by decide) ?_
    | with_reducible refine (State.ageGusts_keeps ..).andThen (by decide) ?_
    | with_reducible refine (State.closeGusts_keeps ..).andThen (by decide) ?_
    | with_reducible refine (State.gustMembership_keeps ..).andThen (by decide) ?_
    | refine KeepsBut.putWgt _ (by decide) ?_
    | exact KeepsBut.refl _ _
    | (constructor <;> intro h <;> first | rfl | exact absurd (by decide) h))

theorem State.leaveGusts_keeps (slot : Nat) (s : State) :
    KeepsBut [.wgt, .pif] s (State.leaveGusts slot s) := by
  simp only [State.leaveGusts]
  repeat' (first
    | with_reducible exact KeepsBut.refl _ _
    | with_reducible refine KeepsBut.trans ?_ (KeepsBut.foldl _ (fun _ _ => ?_) _ _)
    | with_reducible refine (State.raiseGust_keeps ..).andThen (by decide) ?_
    | refine KeepsBut.putWgt _ (by decide) ?_
    | exact KeepsBut.refl _ _
    | (constructor <;> intro h <;> first | rfl | exact absurd (by decide) h))

theorem State.applyMast_keeps (slot : Nat) (before : Option (Kind × Identity)) (after : Option (Kind × Identity)) (s : State) :
    KeepsBut [.wgt, .pif] s (State.applyMast slot before after s) := by
  simp only [State.applyMast]
  repeat' (first
    | with_reducible exact KeepsBut.refl _ _
    | split
    | with_reducible refine (State.leaveGusts_keeps ..).andThen (by decide) ?_
    | with_reducible refine (State.dropMast_keeps ..).andThen (by decide) ?_
    | with_reducible refine (State.createMast_keeps ..).andThen (by decide) ?_
    | with_reducible refine (State.updMast_keeps ..).andThen (by decide) ?_
    | exact KeepsBut.refl _ _
    | (constructor <;> intro h <;> first | rfl | exact absurd (by decide) h))

theorem State.restartWind_keeps (s : State) :
    KeepsBut [.wgt, .pif] s (State.restartWind s) := by
  simp only [State.restartWind]
  repeat' (first
    | with_reducible exact KeepsBut.refl _ _
    | split
    | with_reducible refine (State.raise_keeps ..).andThen (by decide) ?_
    | refine KeepsBut.putWgt _ (by decide) ?_
    | exact KeepsBut.refl _ _
    | (constructor <;> intro h <;> first | rfl | exact absurd (by decide) h))

theorem State.ageSite_keeps (s : State) :
    KeepsBut [.spm] s (State.ageSite s) := by
  simp only [State.ageSite]
  repeat' (first
    | with_reducible exact KeepsBut.refl _ _
    | refine KeepsBut.putSpm _ (by decide) ?_
    | exact KeepsBut.refl _ _
    | (constructor <;> intro h <;> first | rfl | exact absurd (by decide) h))

theorem State.silencePiles_keeps (port : Port) (s : State) :
    KeepsBut [.spm] s (State.silencePiles port s) := by
  simp only [State.silencePiles]
  repeat' (first
    | with_reducible exact KeepsBut.refl _ _
    | split
    | refine KeepsBut.putSpm _ (by decide) ?_
    | exact KeepsBut.refl _ _
    | (constructor <;> intro h <;> first | rfl | exact absurd (by decide) h))

theorem State.applyPile_keeps (c : PileCfg) (s : State) :
    KeepsBut [.spm] s (State.applyPile c s) := by
  simp only [State.applyPile]
  repeat' (first
    | with_reducible exact KeepsBut.refl _ _
    | split
    | with_reducible refine (State.updPile_keeps ..).andThen (by decide) ?_
    | refine KeepsBut.putSpm _ (by decide) ?_
    | exact KeepsBut.refl _ _
    | (constructor <;> intro h <;> first | rfl | exact absurd (by decide) h))

theorem State.dropPile_keeps (n : Nat) (s : State) :
    KeepsBut [.spm] s (State.dropPile n s) := by
  simp only [State.dropPile]
  repeat' (first
    | with_reducible exact KeepsBut.refl _ _
    | refine KeepsBut.putSpm _ (by decide) ?_
    | exact KeepsBut.refl _ _
    | (constructor <;> intro h <;> first | rfl | exact absurd (by decide) h))

theorem State.applyGauge_keeps (slot : Nat) (before : Option (Kind × Identity)) (after : Option (Kind × Identity)) (s : State) :
    KeepsBut [.spm] s (State.applyGauge slot before after s) := by
  simp only [State.applyGauge]
  repeat' (first
    | with_reducible exact KeepsBut.refl _ _
    | split
    | refine KeepsBut.putSpm _ (by decide) ?_
    | exact KeepsBut.refl _ _
    | (constructor <;> intro h <;> first | rfl | exact absurd (by decide) h))

theorem State.applyMonitor_keeps (slot : Nat) (before : Option (Kind × Identity)) (after : Option (Kind × Identity)) (s : State) :
    KeepsBut [.spm] s (State.applyMonitor slot before after s) := by
  simp only [State.applyMonitor]
  repeat' (first
    | with_reducible exact KeepsBut.refl _ _
    | split
    | refine KeepsBut.putSpm _ (by decide) ?_
    | exact KeepsBut.refl _ _
    | (constructor <;> intro h <;> first | rfl | exact absurd (by decide) h))

theorem State.restartSite_keeps (s : State) :
    KeepsBut [.spm] s (State.restartSite s) := by
  simp only [State.restartSite]
  repeat' (first
    | with_reducible exact KeepsBut.refl _ _
    | refine KeepsBut.putSpm _ (by decide) ?_
    | exact KeepsBut.refl _ _
    | (constructor <;> intro h <;> first | rfl | exact absurd (by decide) h))

theorem State.noticeGauges_keeps (before : Nat) (s : State) :
    KeepsBut [.pif] s (State.noticeGauges before s) := by
  simp only [State.noticeGauges]
  repeat' (first
    | with_reducible exact KeepsBut.refl _ _
    | split
    | with_reducible refine (State.raise_keeps ..).andThen (by decide) ?_
    | exact KeepsBut.refl _ _)

theorem State.changeBand_keeps (new : Band) (reason : BandReason) (s : State) :
    KeepsBut [.spm, .pif] s (State.changeBand new reason s) := by
  simp only [State.changeBand]
  repeat' (first
    | with_reducible exact KeepsBut.refl _ _
    | with_reducible refine (State.raise_keeps ..).andThen (by decide) ?_
    | refine KeepsBut.putSpm _ (by decide) ?_
    | exact KeepsBut.refl _ _
    | (constructor <;> intro h <;> first | rfl | exact absurd (by decide) h))

theorem State.actCandidate_keeps (c : Band) (s : State) :
    KeepsBut [.spm, .pif] s (State.actCandidate c s) := by
  simp only [State.actCandidate]
  repeat' (first
    | with_reducible exact KeepsBut.refl _ _
    | split
    | with_reducible refine (State.changeBand_keeps ..).andThen (by decide) ?_
    | refine KeepsBut.putSpm _ (by decide) ?_
    | exact KeepsBut.refl _ _
    | (constructor <;> intro h <;> first | rfl | exact absurd (by decide) h))

theorem State.noGaugeClose_keeps (s : State) :
    KeepsBut [.spm, .pif] s (State.noGaugeClose s) := by
  simp only [State.noGaugeClose]
  repeat' (first
    | with_reducible exact KeepsBut.refl _ _
    | split
    | with_reducible refine (State.changeBand_keeps ..).andThen (by decide) ?_
    | refine KeepsBut.putSpm _ (by decide) ?_
    | exact KeepsBut.refl _ _
    | (constructor <;> intro h <;> first | rfl | exact absurd (by decide) h))

theorem State.evaluateBand_keeps (s : State) :
    KeepsBut [.spm, .pif] s (State.evaluateBand s) := by
  simp only [State.evaluateBand]
  repeat' (first
    | with_reducible exact KeepsBut.refl _ _
    | split
    | with_reducible refine (State.noGaugeClose_keeps ..).andThen (by decide) ?_
    | with_reducible refine (State.actCandidate_keeps ..).andThen (by decide) ?_
    | refine KeepsBut.putSpm _ (by decide) ?_
    | exact KeepsBut.refl _ _
    | (constructor <;> intro h <;> first | rfl | exact absurd (by decide) h))

theorem State.closeSite_keeps (s : State) :
    KeepsBut [.spm, .pif] s (State.closeSite s) := by
  simp only [State.closeSite]
  repeat' (first
    | with_reducible exact KeepsBut.refl _ _
    | with_reducible refine (State.evaluateBand_keeps ..).andThen (by decide) ?_
    | with_reducible refine (State.noticeGauges_keeps ..).andThen (by decide) ?_
    | with_reducible refine (State.ageSite_keeps ..).andThen (by decide) ?_
    | refine KeepsBut.putSpm _ (by decide) ?_
    | exact KeepsBut.refl _ _
    | (constructor <;> intro h <;> first | rfl | exact absurd (by decide) h))

theorem State.storePile_keeps (n : Nat) (v : PileValues) (estimated : Bool) (leadMean : Nat) (s : State) :
    KeepsBut [.spm, .pif] s (State.storePile n v estimated leadMean s) := by
  simp only [State.storePile]
  repeat' (first
    | with_reducible exact KeepsBut.refl _ _
    | split
    | with_reducible refine (State.raise_keeps ..).andThen (by decide) ?_
    | with_reducible refine (State.updPile_keeps ..).andThen (by decide) ?_
    | exact KeepsBut.refl _ _
    | (constructor <;> intro h <;> first | rfl | exact absurd (by decide) h))

theorem reportWettingCommand_keeps (pile : Byte) (a : Asked) (s : State) :
    KeepsBut [.spm, .pif] s (reportWettingCommand pile a s) := by
  simp only [reportWettingCommand]
  repeat' (first
    | with_reducible exact KeepsBut.refl _ _
    | split
    | with_reducible refine (State.replyRange_keeps ..).andThen (by decide) ?_
    | with_reducible refine (State.reply_keeps ..).andThen (by decide) ?_
    | with_reducible refine (State.updPile_keeps ..).andThen (by decide) ?_
    | exact KeepsBut.refl _ _
    | (constructor <;> intro h <;> first | rfl | exact absurd (by decide) h))

theorem reportActivityCommand_keeps (pile : Byte) (activity : Byte) (a : Asked) (s : State) :
    KeepsBut [.spm, .pif] s (reportActivityCommand pile activity a s) := by
  simp only [reportActivityCommand]
  repeat' (first
    | with_reducible exact KeepsBut.refl _ _
    | split
    | with_reducible refine (State.replyRange_keeps ..).andThen (by decide) ?_
    | with_reducible refine (State.reply_keeps ..).andThen (by decide) ?_
    | with_reducible refine (State.updPile_keeps ..).andThen (by decide) ?_
    | exact KeepsBut.refl _ _
    | (constructor <;> intro h <;> first | rfl | exact absurd (by decide) h))

theorem State.raiseStation_keeps (cls : NoticeClass) (cause : StationCause) (slot : Nat) (s : State) :
    KeepsBut [.pif] s (State.raiseStation cls cause slot s) := by
  simp only [State.raiseStation]
  repeat' (first
    | with_reducible exact KeepsBut.refl _ _
    | split
    | with_reducible refine (State.raise_keeps ..).andThen (by decide) ?_
    | exact KeepsBut.refl _ _
    | (constructor <;> intro h <;> first | rfl | exact absurd (by decide) h))

theorem State.handOff_keeps (slot : Nat) (code : Nat) (r : Reading) (fresh : Bool) (s : State) :
    KeepsBut [.srg, .wgt, .spm] s (State.handOff slot code r fresh s) := by
  simp only [State.handOff]
  repeat' (first
    | with_reducible exact KeepsBut.refl _ _
    | split
    | with_reducible refine (State.takeDust_keeps ..).andThen (by decide) ?_
    | with_reducible refine (State.takeGauge_keeps ..).andThen (by decide) ?_
    | with_reducible refine (State.updMast_keeps ..).andThen (by decide) ?_
    | with_reducible refine (State.updStation_keeps ..).andThen (by decide) ?_
    | exact KeepsBut.refl _ _
    | (constructor <;> intro h <;> first | rfl | exact absurd (by decide) h))

theorem State.delivered_keeps (slot : Nat) (f : StationFrame) (heardA : Bool) (heardB : Bool) (s : State) :
    KeepsBut [.srg, .wgt, .spm, .pif] s (State.delivered slot f heardA heardB s) := by
  simp only [State.delivered]
  repeat' (first
    | with_reducible exact KeepsBut.refl _ _
    | split
    | with_reducible refine (State.handOff_keeps ..).andThen (by decide) ?_
    | with_reducible refine (State.raiseStation_keeps ..).andThen (by decide) ?_
    | with_reducible refine (State.revoke_keeps ..).andThen (by decide) ?_
    | with_reducible refine (State.updStation_keeps ..).andThen (by decide) ?_
    | exact KeepsBut.refl _ _
    | (constructor <;> intro h <;> first | rfl | exact absurd (by decide) h))

theorem State.loseStation_keeps (slot : Nat) (s : State) :
    KeepsBut [.srg, .pif] s (State.loseStation slot s) := by
  simp only [State.loseStation]
  repeat' (first
    | with_reducible exact KeepsBut.refl _ _
    | with_reducible refine (State.raiseStation_keeps ..).andThen (by decide) ?_
    | with_reducible refine (State.revoke_keeps ..).andThen (by decide) ?_
    | with_reducible refine (State.updStation_keeps ..).andThen (by decide) ?_
    | exact KeepsBut.refl _ _
    | (constructor <;> intro h <;> first | rfl | exact absurd (by decide) h))

theorem State.quietStation_keeps (slot : Nat) (s : State) :
    KeepsBut [.srg, .pif] s (State.quietStation slot s) := by
  simp only [State.quietStation]
  repeat' (first
    | with_reducible exact KeepsBut.refl _ _
    | with_reducible refine (State.raiseStation_keeps ..).andThen (by decide) ?_
    | with_reducible refine (State.revoke_keeps ..).andThen (by decide) ?_
    | with_reducible refine (State.updStation_keeps ..).andThen (by decide) ?_
    | exact KeepsBut.refl _ _
    | (constructor <;> intro h <;> first | rfl | exact absurd (by decide) h))

theorem State.missed_keeps (slot : Nat) (s : State) :
    KeepsBut [.srg, .pif] s (State.missed slot s) := by
  simp only [State.missed]
  repeat' (first
    | with_reducible exact KeepsBut.refl _ _
    | split
    | with_reducible refine (State.quietStation_keeps ..).andThen (by decide) ?_
    | with_reducible refine (State.loseStation_keeps ..).andThen (by decide) ?_
    | with_reducible refine (State.updStation_keeps ..).andThen (by decide) ?_
    | exact KeepsBut.refl _ _
    | (constructor <;> intro h <;> first | rfl | exact absurd (by decide) h))

theorem State.strangerAnnounce_keeps (a : Announce) (s : State) :
    KeepsBut [.srg, .pif] s (State.strangerAnnounce a s) := by
  simp only [State.strangerAnnounce]
  repeat' (first
    | with_reducible exact KeepsBut.refl _ _
    | split
    | with_reducible refine (State.raise_keeps ..).andThen (by decide) ?_
    | refine KeepsBut.putSrg _ (by decide) ?_
    | exact KeepsBut.refl _ _
    | (constructor <;> intro h <;> first | rfl | exact absurd (by decide) h))

theorem State.takeAnnounce_keeps (a : Announce) (s : State) :
    KeepsBut [.srg, .pif] s (State.takeAnnounce a s) := by
  simp only [State.takeAnnounce]
  repeat' (first
    | with_reducible exact KeepsBut.refl _ _
    | split
    | with_reducible refine (State.strangerAnnounce_keeps ..).andThen (by decide) ?_
    | with_reducible refine (State.raiseStation_keeps ..).andThen (by decide) ?_
    | with_reducible refine (State.enqueue_keeps ..).andThen (by decide) ?_
    | with_reducible refine (State.updStation_keeps ..).andThen (by decide) ?_
    | refine KeepsBut.putSrg _ (by decide) ?_
    | exact KeepsBut.refl _ _
    | (constructor <;> intro h <;> first | rfl | exact absurd (by decide) h))

theorem State.takeAnnounces_keeps (l : List Announce) (s : State) :
    KeepsBut [.srg, .pif] s (State.takeAnnounces l s) := by
  simp only [State.takeAnnounces]
  repeat' (first
    | with_reducible exact KeepsBut.refl _ _
    | with_reducible refine KeepsBut.trans ?_ (KeepsBut.foldl _ (fun _ _ => ?_) _ _)
    | with_reducible refine (State.takeAnnounce_keeps ..).andThen (by decide) ?_
    | exact KeepsBut.refl _ _)

theorem State.lapseSlot_keeps (slot : Nat) (s : State) :
    KeepsBut [.srg, .pif] s (State.lapseSlot slot s) := by
  simp only [State.lapseSlot]
  repeat' (first
    | with_reducible exact KeepsBut.refl _ _
    | split
    | with_reducible refine (State.raiseStation_keeps ..).andThen (by decide) ?_
    | with_reducible refine (State.revoke_keeps ..).andThen (by decide) ?_
    | with_reducible refine (State.updStation_keeps ..).andThen (by decide) ?_
    | exact KeepsBut.refl _ _
    | (constructor <;> intro h <;> first | rfl | exact absurd (by decide) h))

theorem State.lapseGrants_keeps (s : State) :
    KeepsBut [.srg, .pif] s (State.lapseGrants s) := by
  simp only [State.lapseGrants]
  repeat' (first
    | with_reducible exact KeepsBut.refl _ _
    | with_reducible refine KeepsBut.trans ?_ (KeepsBut.foldl _ (fun _ _ => ?_) _ _)
    | with_reducible refine (State.lapseSlot_keeps ..).andThen (by decide) ?_
    | exact KeepsBut.refl _ _)

theorem State.ackToSilent_keeps (slot : Nat) (s : State) :
    KeepsBut [.srg, .pif] s (State.ackToSilent slot s) := by
  simp only [State.ackToSilent]
  repeat' (first
    | with_reducible exact KeepsBut.refl _ _
    | with_reducible refine (State.missed_keeps ..).andThen (by decide) ?_
    | with_reducible refine (State.raiseStation_keeps ..).andThen (by decide) ?_
    | with_reducible refine (State.updStation_keeps ..).andThen (by decide) ?_
    | exact KeepsBut.refl _ _
    | (constructor <;> intro h <;> first | rfl | exact absurd (by decide) h))

theorem State.ackToQueue_keeps (slot : Nat) (s : State) :
    KeepsBut [.srg, .pif] s (State.ackToQueue slot s) := by
  simp only [State.ackToQueue]
  repeat' (first
    | with_reducible exact KeepsBut.refl _ _
    | with_reducible refine (State.raiseStation_keeps ..).andThen (by decide) ?_
    | with_reducible refine (State.enqueue_keeps ..).andThen (by decide) ?_
    | with_reducible refine (State.updStation_keeps ..).andThen (by decide) ?_
    | exact KeepsBut.refl _ _)

theorem ackLossCommand_keeps (slot : Byte) (a : Asked) (s : State) :
    KeepsBut [.srg, .pif] s (ackLossCommand slot a s) := by
  simp only [ackLossCommand]
  repeat' (first
    | with_reducible exact KeepsBut.refl _ _
    | split
    | with_reducible refine (State.ackToQueue_keeps ..).andThen (by decide) ?_
    | with_reducible refine (State.ackToSilent_keeps ..).andThen (by decide) ?_
    | with_reducible refine (State.replyRange_keeps ..).andThen (by decide) ?_
    | with_reducible refine (State.reply_keeps ..).andThen (by decide) ?_
    | refine KeepsBut.putSrg _ (by decide) ?_
    | exact KeepsBut.refl _ _
    | (constructor <;> intro h <;> first | rfl | exact absurd (by decide) h))

theorem State.grantSlot_keeps (round : Round) (slot : Nat) (s : State) :
    KeepsBut [.srg] s (State.grantSlot round slot s) := by
  simp only [State.grantSlot]
  repeat' (first
    | with_reducible exact KeepsBut.refl _ _
    | with_reducible refine (State.updStation_keeps ..).andThen (by decide) ?_
    | refine KeepsBut.putSrg _ (by decide) ?_
    | exact KeepsBut.refl _ _
    | (constructor <;> intro h <;> first | rfl | exact absurd (by decide) h))

theorem State.handGrants_keeps (round : Round) (s : State) :
    KeepsBut [.srg] s (State.handGrants round s) := by
  simp only [State.handGrants]
  repeat' (first
    | with_reducible exact KeepsBut.refl _ _
    | with_reducible refine KeepsBut.trans ?_ (KeepsBut.foldl _ (fun _ _ => ?_) _ _)
    | with_reducible refine (State.grantSlot_keeps ..).andThen (by decide) ?_
    | refine KeepsBut.putSrg _ (by decide) ?_
    | exact KeepsBut.refl _ _
    | (constructor <;> intro h <;> first | rfl | exact absurd (by decide) h))

theorem State.handRevocations_keeps (s : State) :
    KeepsBut [.srg] s (State.handRevocations s) := by
  simp only [State.handRevocations]
  repeat' (first
    | with_reducible exact KeepsBut.refl _ _
    | refine KeepsBut.putSrg _ (by decide) ?_
    | exact KeepsBut.refl _ _
    | (constructor <;> intro h <;> first | rfl | exact absurd (by decide) h))

theorem State.applyStation_keeps (c : StationCfg) (s : State) :
    KeepsBut [.srg] s (State.applyStation c s) := by
  simp only [State.applyStation]
  repeat' (first
    | with_reducible exact KeepsBut.refl _ _
    | split
    | with_reducible refine (State.forgetStranger_keeps ..).andThen (by decide) ?_
    | with_reducible refine (State.unqueue_keeps ..).andThen (by decide) ?_
    | with_reducible refine (State.revoke_keeps ..).andThen (by decide) ?_
    | with_reducible refine (State.updStation_keeps ..).andThen (by decide) ?_
    | refine KeepsBut.putSrg _ (by decide) ?_
    | exact KeepsBut.refl _ _
    | (constructor <;> intro h <;> first | rfl | exact absurd (by decide) h))

theorem State.dropStation_keeps (slot : Nat) (s : State) :
    KeepsBut [.srg] s (State.dropStation slot s) := by
  simp only [State.dropStation]
  repeat' (first
    | with_reducible exact KeepsBut.refl _ _
    | split
    | with_reducible refine (State.unqueue_keeps ..).andThen (by decide) ?_
    | with_reducible refine (State.revoke_keeps ..).andThen (by decide) ?_
    | refine KeepsBut.putSrg _ (by decide) ?_
    | exact KeepsBut.refl _ _
    | (constructor <;> intro h <;> first | rfl | exact absurd (by decide) h))

theorem State.restartStations_keeps (s : State) :
    KeepsBut [.srg] s (State.restartStations s) := by
  simp only [State.restartStations]
  repeat' (first
    | with_reducible exact KeepsBut.refl _ _
    | refine KeepsBut.putSrg _ (by decide) ?_
    | exact KeepsBut.refl _ _
    | (constructor <;> intro h <;> first | rfl | exact absurd (by decide) h))

theorem State.assessPile_keeps (n : Nat) (s : State) :
    KeepsBut [.rke, .spm, .pif] s (State.assessPile n s) := by
  simp only [State.assessPile]
  repeat' (first
    | with_reducible exact KeepsBut.refl _ _
    | split
    | with_reducible refine (State.storePile_keeps ..).andThen (by decide) ?_
    | with_reducible refine (State.putWind_keeps ..).andThen (by decide) ?_
    | exact KeepsBut.refl _ _
    | (constructor <;> intro h <;> first | rfl | exact absurd (by decide) h))

theorem State.assessPiles_keeps (s : State) :
    KeepsBut [.rke, .spm, .pif] s (State.assessPiles s) := by
  simp only [State.assessPiles]
  repeat' (first
    | with_reducible exact KeepsBut.refl _ _
    | with_reducible refine KeepsBut.trans ?_ (KeepsBut.foldl _ (fun _ _ => ?_) _ _)
    | with_reducible refine (State.assessPile_keeps ..).andThen (by decide) ?_
    | exact KeepsBut.refl _ _)

theorem State.assessPaths_keeps (s : State) :
    KeepsBut [.rke] s (State.assessPaths s) := by
  simp only [State.assessPaths]
  repeat' (first
    | with_reducible exact KeepsBut.refl _ _
    | refine KeepsBut.putRke _ (by decide) ?_
    | exact KeepsBut.refl _ _
    | (constructor <;> intro h <;> first | rfl | exact absurd (by decide) h))

theorem State.assessZones_keeps (s : State) :
    KeepsBut [.rke] s (State.assessZones s) := by
  simp only [State.assessZones]
  repeat' (first
    | with_reducible exact KeepsBut.refl _ _
    | split
    | refine KeepsBut.putRke _ (by decide) ?_
    | exact KeepsBut.refl _ _
    | (constructor <;> intro h <;> first | rfl | exact absurd (by decide) h))

theorem State.applyPath_keeps (c : PathCfg) (s : State) :
    KeepsBut [.rke] s (State.applyPath c s) := by
  simp only [State.applyPath]
  repeat' (first
    | with_reducible exact KeepsBut.refl _ _
    | split
    | refine KeepsBut.putRke _ (by decide) ?_
    | exact KeepsBut.refl _ _
    | (constructor <;> intro h <;> first | rfl | exact absurd (by decide) h))

theorem State.dropPath_keeps (pile : Nat) (zone : Nat) (s : State) :
    KeepsBut [.rke] s (State.dropPath pile zone s) := by
  simp only [State.dropPath]
  repeat' (first
    | with_reducible exact KeepsBut.refl _ _
    | refine KeepsBut.putRke _ (by decide) ?_
    | exact KeepsBut.refl _ _
    | (constructor <;> intro h <;> first | rfl | exact absurd (by decide) h))

theorem State.applyZoneResult_keeps (c : ZoneCfg) (s : State) :
    KeepsBut [.rke] s (State.applyZoneResult c s) := by
  simp only [State.applyZoneResult]
  repeat' (first
    | with_reducible exact KeepsBut.refl _ _
    | split
    | refine KeepsBut.putRke _ (by decide) ?_
    | exact KeepsBut.refl _ _
    | (constructor <;> intro h <;> first | rfl | exact absurd (by decide) h))

theorem State.dropZoneResult_keeps (n : Nat) (s : State) :
    KeepsBut [.rke] s (State.dropZoneResult n s) := by
  simp only [State.dropZoneResult]
  repeat' (first
    | with_reducible exact KeepsBut.refl _ _
    | refine KeepsBut.putRke _ (by decide) ?_
    | exact KeepsBut.refl _ _
    | (constructor <;> intro h <;> first | rfl | exact absurd (by decide) h))

theorem State.applyWind_keeps (c : PileCfg) (s : State) :
    KeepsBut [.rke] s (State.applyWind c s) := by
  simp only [State.applyWind]
  repeat' (first
    | with_reducible exact KeepsBut.refl _ _
    | split
    | refine KeepsBut.putRke _ (by decide) ?_
    | exact KeepsBut.refl _ _
    | (constructor <;> intro h <;> first | rfl | exact absurd (by decide) h))

theorem State.dropWind_keeps (n : Nat) (s : State) :
    KeepsBut [.rke] s (State.dropWind n s) := by
  simp only [State.dropWind]
  repeat' (first
    | with_reducible exact KeepsBut.refl _ _
    | refine KeepsBut.putRke _ (by decide) ?_
    | exact KeepsBut.refl _ _
    | (constructor <;> intro h <;> first | rfl | exact absurd (by decide) h))

theorem State.restartRisk_keeps (s : State) :
    KeepsBut [.rke] s (State.restartRisk s) := by
  simp only [State.restartRisk]
  repeat' (first
    | with_reducible exact KeepsBut.refl _ _
    | refine KeepsBut.putRke _ (by decide) ?_
    | exact KeepsBut.refl _ _
    | (constructor <;> intro h <;> first | rfl | exact absurd (by decide) h))

theorem State.deliverZones_keeps (s : State) :
    KeepsBut [.zwc, .wrl, .pif, .oda] s (State.deliverZones s) := by
  simp only [State.deliverZones]
  repeat' (first
    | with_reducible exact KeepsBut.refl _ _
    | with_reducible refine KeepsBut.trans ?_ (KeepsBut.foldl _ (fun _ _ => ?_) _ _)
    | with_reducible refine (State.deliverRisk_keeps ..).andThen (by decide) ?_
    | exact KeepsBut.refl _ _)

theorem State.assess_keeps (s : State) :
    KeepsBut [.rke, .spm, .pif, .zwc, .wrl, .oda] s (State.assess s) := by
  simp only [State.assess]
  repeat' (first
    | with_reducible exact KeepsBut.refl _ _
    | split
    | with_reducible refine (State.deliverZones_keeps ..).andThen (by decide) ?_
    | with_reducible refine (State.assessZones_keeps ..).andThen (by decide) ?_
    | with_reducible refine (State.assessPaths_keeps ..).andThen (by decide) ?_
    | with_reducible refine (State.assessPiles_keeps ..).andThen (by decide) ?_
    | exact KeepsBut.refl _ _)

theorem State.raiseLoop_keeps (cls : NoticeClass) (round : Round) (s : State) :
    KeepsBut [.pif] s (State.raiseLoop cls round s) := by
  simp only [State.raiseLoop]
  repeat' (first
    | with_reducible exact KeepsBut.refl _ _
    | with_reducible refine (State.raise_keeps ..).andThen (by decide) ?_
    | exact KeepsBut.refl _ _)

theorem State.hearForeign_keeps (s : State) :
    KeepsBut [.flc, .pif] s (State.hearForeign s) := by
  simp only [State.hearForeign]
  repeat' (first
    | with_reducible exact KeepsBut.refl _ _
    | split
    | with_reducible refine (State.raiseLoop_keeps ..).andThen (by decide) ?_
    | refine KeepsBut.putFlc _ (by decide) ?_
    | exact KeepsBut.refl _ _
    | (constructor <;> intro h <;> first | rfl | exact absurd (by decide) h))

theorem State.listenCopy_keeps (bytes : List Byte) (s : State) :
    KeepsBut [.flc, .pif] s (State.listenCopy bytes s) := by
  simp only [State.listenCopy]
  repeat' (first
    | with_reducible exact KeepsBut.refl _ _
    | split
    | with_reducible refine (State.hearForeign_keeps ..).andThen (by decide) ?_
    | exact KeepsBut.refl _ _
    | (constructor <;> intro h <;> first | rfl | exact absurd (by decide) h))

theorem State.roundCopy_keeps (side : Side) (w : Window) (ending : CopyEnd) (bytes : List Byte) (s : State) :
    KeepsBut [.flc] s (State.roundCopy side w ending bytes s) := by
  simp only [State.roundCopy]
  repeat' (first
    | with_reducible exact KeepsBut.refl _ _
    | split
    | refine KeepsBut.putFlc _ (by decide) ?_
    | exact KeepsBut.refl _ _
    | (constructor <;> intro h <;> first | rfl | exact absurd (by decide) h))

theorem State.takeCopy_keeps (side : Side) (w : Window) (ending : CopyEnd) (bytes : List Byte) (s : State) :
    KeepsBut [.flc, .pif] s (State.takeCopy side w ending bytes s) := by
  simp only [State.takeCopy]
  repeat' (first
    | with_reducible exact KeepsBut.refl _ _
    | split
    | with_reducible refine (State.roundCopy_keeps ..).andThen (by decide) ?_
    | with_reducible refine (State.listenCopy_keeps ..).andThen (by decide) ?_
    | refine KeepsBut.putFlc _ (by decide) ?_
    | exact KeepsBut.refl _ _
    | (constructor <;> intro h <;> first | rfl | exact absurd (by decide) h))

theorem State.endBackOff_keeps (s : State) :
    KeepsBut [.now, .flc] s (State.endBackOff s) := by
  simp only [State.endBackOff]
  repeat' (first
    | with_reducible exact KeepsBut.refl _ _
    | split
    | with_reducible refine (State.reach_keeps ..).andThen (by decide) ?_
    | refine KeepsBut.putFlc _ (by decide) ?_
    | exact KeepsBut.refl _ _
    | (constructor <;> intro h <;> first | rfl | exact absurd (by decide) h))

theorem State.startPhaseB_keeps (s : State) :
    KeepsBut [.now, .flc] s (State.startPhaseB s) := by
  simp only [State.startPhaseB]
  repeat' (first
    | with_reducible exact KeepsBut.refl _ _
    | split
    | with_reducible refine (State.reach_keeps ..).andThen (by decide) ?_
    | refine KeepsBut.putFlc _ (by decide) ?_
    | exact KeepsBut.refl _ _
    | (constructor <;> intro h <;> first | rfl | exact absurd (by decide) h))

theorem State.beginRound_keeps (round : Round) (start : Time) (s : State) :
    KeepsBut [.flc, .srg] s (State.beginRound round start s) := by
  simp only [State.beginRound]
  repeat' (first
    | with_reducible exact KeepsBut.refl _ _
    | with_reducible refine (State.handRevocations_keeps ..).andThen (by decide) ?_
    | with_reducible refine (State.handGrants_keeps ..).andThen (by decide) ?_
    | refine KeepsBut.putFlc _ (by decide) ?_
    | refine KeepsBut.putSrg _ (by decide) ?_
    | exact KeepsBut.refl _ _
    | (constructor <;> intro h <;> first | rfl | exact absurd (by decide) h))

theorem State.endListen_keeps (s : State) :
    KeepsBut [.now, .flc, .srg, .pif] s (State.endListen s) := by
  simp only [State.endListen]
  repeat' (first
    | with_reducible exact KeepsBut.refl _ _
    | split
    | with_reducible refine (State.beginRound_keeps ..).andThen (by decide) ?_
    | with_reducible refine (State.raiseLoop_keeps ..).andThen (by decide) ?_
    | with_reducible refine (State.reach_keeps ..).andThen (by decide) ?_
    | refine KeepsBut.putFlc _ (by decide) ?_
    | exact KeepsBut.refl _ _
    | (constructor <;> intro h <;> first | rfl | exact absurd (by decide) h))

theorem State.startRound_keeps (s : State) :
    KeepsBut [.now, .flc, .srg] s (State.startRound s) := by
  simp only [State.startRound]
  repeat' (first
    | with_reducible exact KeepsBut.refl _ _
    | split
    | with_reducible refine (State.beginRound_keeps ..).andThen (by decide) ?_
    | with_reducible refine (State.reach_keeps ..).andThen (by decide) ?_
    | refine KeepsBut.putFlc _ (by decide) ?_
    | exact KeepsBut.refl _ _
    | (constructor <;> intro h <;> first | rfl | exact absurd (by decide) h))

theorem State.passVerdict_keeps (n : Nat) (ring : Nat) (v : Verdict) (s : State) :
    KeepsBut [.flc, .srg, .wgt, .spm, .pif] s (State.passVerdict n ring v s) := by
  simp only [State.passVerdict]
  repeat' (first
    | with_reducible exact KeepsBut.refl _ _
    | split
    | with_reducible refine (State.missed_keeps ..).andThen (by decide) ?_
    | with_reducible refine (State.delivered_keeps ..).andThen (by decide) ?_
    | with_reducible refine (State.noteVerdict_keeps ..).andThen (by decide) ?_
    | refine KeepsBut.putFlc _ (by decide) ?_
    | exact KeepsBut.refl _ _
    | (constructor <;> intro h <;> first | rfl | exact absurd (by decide) h))

theorem State.endSlot_keeps (n : Nat) (s : State) :
    KeepsBut [.now, .flc, .srg, .wgt, .spm, .pif] s (State.endSlot n s) := by
  simp only [State.endSlot]
  repeat' (first
    | with_reducible exact KeepsBut.refl _ _
    | split
    | with_reducible refine (State.passVerdict_keeps ..).andThen (by decide) ?_
    | with_reducible refine (State.reach_keeps ..).andThen (by decide) ?_
    | refine KeepsBut.putFlc _ (by decide) ?_
    | exact KeepsBut.refl _ _
    | (constructor <;> intro h <;> first | rfl | exact absurd (by decide) h))

theorem State.decideMode_keeps (s : State) :
    KeepsBut [.flc, .pif] s (State.decideMode s) := by
  simp only [State.decideMode]
  repeat' (first
    | with_reducible exact KeepsBut.refl _ _
    | split
    | with_reducible refine (State.raiseLoop_keeps ..).andThen (by decide) ?_
    | refine KeepsBut.putFlc _ (by decide) ?_
    | exact KeepsBut.refl _ _
    | (constructor <;> intro h <;> first | rfl | exact absurd (by decide) h))

theorem State.closeLoop_keeps (s : State) :
    KeepsBut [.flc, .srg, .pif] s (State.closeLoop s) := by
  simp only [State.closeLoop]
  repeat' (first
    | with_reducible exact KeepsBut.refl _ _
    | with_reducible refine (State.decideMode_keeps ..).andThen (by decide) ?_
    | with_reducible refine (State.lapseGrants_keeps ..).andThen (by decide) ?_
    | with_reducible refine (State.takeAnnounces_keeps ..).andThen (by decide) ?_
    | refine KeepsBut.putFlc _ (by decide) ?_
    | exact KeepsBut.refl _ _
    | (constructor <;> intro h <;> first | rfl | exact absurd (by decide) h))

theorem State.restartLoop_keeps (s : State) :
    KeepsBut [.flc] s (State.restartLoop s) := by
  simp only [State.restartLoop]
  repeat' (first
    | with_reducible exact KeepsBut.refl _ _
    | refine KeepsBut.putFlc _ (by decide) ?_
    | exact KeepsBut.refl _ _
    | (constructor <;> intro h <;> first | rfl | exact absurd (by decide) h))

theorem State.raiseConfig_keeps (event : ConfigEvent) (owner : Option Port) (items : Nat) (s : State) :
    KeepsBut [.pif] s (State.raiseConfig event owner items s) := by
  simp only [State.raiseConfig]
  repeat' (first
    | with_reducible exact KeepsBut.refl _ _
    | with_reducible refine (State.raise_keeps ..).andThen (by decide) ?_
    | exact KeepsBut.refl _ _)

theorem State.freeSet_keeps (event : ConfigEvent) (s : State) :
    KeepsBut [.cau, .pif] s (State.freeSet event s) := by
  simp only [State.freeSet]
  repeat' (first
    | with_reducible exact KeepsBut.refl _ _
    | with_reducible refine (State.raiseConfig_keeps ..).andThen (by decide) ?_
    | refine KeepsBut.putCau _ (by decide) ?_
    | exact KeepsBut.refl _ _
    | (constructor <;> intro h <;> first | rfl | exact absurd (by decide) h))

theorem State.claimSet_keeps (x : Item) (port : Port) (s : State) :
    KeepsBut [.cau, .pif] s (State.claimSet x port s) := by
  simp only [State.claimSet]
  repeat' (first
    | with_reducible exact KeepsBut.refl _ _
    | with_reducible refine (State.raiseConfig_keeps ..).andThen (by decide) ?_
    | refine KeepsBut.putCau _ (by decide) ?_
    | exact KeepsBut.refl _ _
    | (constructor <;> intro h <;> first | rfl | exact absurd (by decide) h))

theorem State.stageOpen_keeps (item : List Byte) (a : Asked) (s : State) :
    KeepsBut [.cau, .pif] s (State.stageOpen item a s) := by
  simp only [State.stageOpen]
  repeat' (first
    | with_reducible exact KeepsBut.refl _ _
    | split
    | with_reducible refine (State.restartIdle_keeps ..).andThen (by decide) ?_
    | with_reducible refine (State.replyRange_keeps ..).andThen (by decide) ?_
    | with_reducible refine (State.reply_keeps ..).andThen (by decide) ?_
    | refine KeepsBut.putCau _ (by decide) ?_
    | exact KeepsBut.refl _ _
    | (constructor <;> intro h <;> first | rfl | exact absurd (by decide) h))

theorem stageCommand_keeps (item : List Byte) (a : Asked) (s : State) :
    KeepsBut [.cau, .pif] s (stageCommand item a s) := by
  simp only [stageCommand]
  repeat' (first
    | with_reducible exact KeepsBut.refl _ _
    | split
    | with_reducible refine (State.stageOpen_keeps ..).andThen (by decide) ?_
    | with_reducible refine (State.claimSet_keeps ..).andThen (by decide) ?_
    | with_reducible refine (State.replyRange_keeps ..).andThen (by decide) ?_
    | with_reducible refine (State.reply_keeps ..).andThen (by decide) ?_
    | refine KeepsBut.putCau _ (by decide) ?_
    | exact KeepsBut.refl _ _
    | (constructor <;> intro h <;> first | rfl | exact absurd (by decide) h))

theorem discardCommand_keeps (a : Asked) (s : State) :
    KeepsBut [.cau, .pif] s (discardCommand a s) := by
  simp only [discardCommand]
  repeat' (first
    | with_reducible exact KeepsBut.refl _ _
    | split
    | with_reducible refine (State.freeSet_keeps ..).andThen (by decide) ?_
    | with_reducible refine (State.reply_keeps ..).andThen (by decide) ?_
    | refine KeepsBut.putCau _ (by decide) ?_
    | exact KeepsBut.refl _ _
    | (constructor <;> intro h <;> first | rfl | exact absurd (by decide) h))

theorem State.proposeSet_keeps (s : State) :
    KeepsBut [.cau, .pif] s (State.proposeSet s) := by
  simp only [State.proposeSet]
  repeat' (first
    | with_reducible exact KeepsBut.refl _ _
    | with_reducible refine (State.raiseConfig_keeps ..).andThen (by decide) ?_
    | refine KeepsBut.putCau _ (by decide) ?_
    | exact KeepsBut.refl _ _
    | (constructor <;> intro h <;> first | rfl | exact absurd (by decide) h))

theorem proposeCommand_keeps (a : Asked) (s : State) :
    KeepsBut [.cau, .pif] s (proposeCommand a s) := by
  simp only [proposeCommand]
  repeat' (first
    | with_reducible exact KeepsBut.refl _ _
    | split
    | with_reducible refine (State.proposeSet_keeps ..).andThen (by decide) ?_
    | with_reducible refine (State.reply_keeps ..).andThen (by decide) ?_
    | refine KeepsBut.putCau _ (by decide) ?_
    | exact KeepsBut.refl _ _
    | (constructor <;> intro h <;> first | rfl | exact absurd (by decide) h))

theorem State.acceptSet_keeps (s : State) :
    KeepsBut [.cau, .pif] s (State.acceptSet s) := by
  simp only [State.acceptSet]
  repeat' (first
    | with_reducible exact KeepsBut.refl _ _
    | with_reducible refine (State.raiseConfig_keeps ..).andThen (by decide) ?_
    | refine KeepsBut.putCau _ (by decide) ?_
    | exact KeepsBut.refl _ _
    | (constructor <;> intro h <;> first | rfl | exact absurd (by decide) h))

theorem acceptCommand_keeps (n : Byte) (a : Asked) (s : State) :
    KeepsBut [.cau, .pif] s (acceptCommand n a s) := by
  simp only [acceptCommand]
  repeat' (first
    | with_reducible exact KeepsBut.refl _ _
    | split
    | with_reducible refine (State.acceptSet_keeps ..).andThen (by decide) ?_
    | with_reducible refine (State.replyRange_keeps ..).andThen (by decide) ?_
    | with_reducible refine (State.reply_keeps ..).andThen (by decide) ?_
    | refine KeepsBut.putCau _ (by decide) ?_
    | exact KeepsBut.refl _ _
    | (constructor <;> intro h <;> first | rfl | exact absurd (by decide) h))

theorem refuseCommand_keeps (n : Byte) (a : Asked) (s : State) :
    KeepsBut [.cau, .pif] s (refuseCommand n a s) := by
  simp only [refuseCommand]
  repeat' (first
    | with_reducible exact KeepsBut.refl _ _
    | split
    | with_reducible refine (State.freeSet_keeps ..).andThen (by decide) ?_
    | with_reducible refine (State.replyRange_keeps ..).andThen (by decide) ?_
    | with_reducible refine (State.reply_keeps ..).andThen (by decide) ?_
    | refine KeepsBut.putCau _ (by decide) ?_
    | exact KeepsBut.refl _ _
    | (constructor <;> intro h <;> first | rfl | exact absurd (by decide) h))

theorem State.restartSet_keeps (s : State) :
    KeepsBut [.cau, .pif] s (State.restartSet s) := by
  simp only [State.restartSet]
  repeat' (first
    | with_reducible exact KeepsBut.refl _ _
    | split
    | with_reducible refine (State.freeSet_keeps ..).andThen (by decide) ?_
    | exact KeepsBut.refl _ _)

theorem State.silenceSet_keeps (port : Port) (s : State) :
    KeepsBut [.cau, .pif] s (State.silenceSet port s) := by
  simp only [State.silenceSet]
  repeat' (first
    | with_reducible exact KeepsBut.refl _ _
    | split
    | with_reducible refine (State.freeSet_keeps ..).andThen (by decide) ?_
    | exact KeepsBut.refl _ _)

theorem State.expireIdle_keeps (s : State) :
    KeepsBut [.now, .cau, .pif] s (State.expireIdle s) := by
  simp only [State.expireIdle]
  repeat' (first
    | with_reducible exact KeepsBut.refl _ _
    | split
    | with_reducible refine (State.freeSet_keeps ..).andThen (by decide) ?_
    | with_reducible refine (State.reach_keeps ..).andThen (by decide) ?_
    | refine KeepsBut.putCau _ (by decide) ?_
    | exact KeepsBut.refl _ _
    | (constructor <;> intro h <;> first | rfl | exact absurd (by decide) h))

theorem State.expireProposal_keeps (s : State) :
    KeepsBut [.now, .cau, .pif] s (State.expireProposal s) := by
  simp only [State.expireProposal]
  repeat' (first
    | with_reducible exact KeepsBut.refl _ _
    | split
    | with_reducible refine (State.freeSet_keeps ..).andThen (by decide) ?_
    | with_reducible refine (State.reach_keeps ..).andThen (by decide) ?_
    | refine KeepsBut.putCau _ (by decide) ?_
    | exact KeepsBut.refl _ _
    | (constructor <;> intro h <;> first | rfl | exact absurd (by decide) h))

theorem State.changeOccupant_keeps (slot : Nat) (before : Option (Kind × Identity)) (after : Option (Kind × Identity)) (s : State) :
    KeepsBut [.wgt, .spm, .pif] s (State.changeOccupant slot before after s) := by
  simp only [State.changeOccupant]
  repeat' (first
    | with_reducible exact KeepsBut.refl _ _
    | with_reducible refine (State.applyMonitor_keeps ..).andThen (by decide) ?_
    | with_reducible refine (State.applyGauge_keeps ..).andThen (by decide) ?_
    | with_reducible refine (State.applyMast_keeps ..).andThen (by decide) ?_
    | exact KeepsBut.refl _ _)

theorem State.applyRemoval_keeps (k : ItemKey) (s : State) :
    KeepsBut [.srg, .wgt, .spm, .rke, .zwc, .oda, .cau, .pif, .wrl] s (State.applyRemoval k s) := by
  simp only [State.applyRemoval]
  repeat' (first
    | with_reducible exact KeepsBut.refl _ _
    | split
    | with_reducible refine (State.changeOccupant_keeps ..).andThen (by decide) ?_
    | with_reducible refine (State.dropWind_keeps ..).andThen (by decide) ?_
    | with_reducible refine (State.dropZoneResult_keeps ..).andThen (by decide) ?_
    | with_reducible refine (State.dropPath_keeps ..).andThen (by decide) ?_
    | with_reducible refine (State.dropStation_keeps ..).andThen (by decide) ?_
    | with_reducible refine (State.dropPile_keeps ..).andThen (by decide) ?_
    | with_reducible refine (State.dropZone_keeps ..).andThen (by decide) ?_
    | exact KeepsBut.refl _ _
    | (constructor <;> intro h <;> first | rfl | exact absurd (by decide) h))

theorem State.applyOut_keeps (s : State) (x : Item) :
    KeepsBut [.srg, .wgt, .spm, .rke, .zwc, .oda, .cau, .pif, .wrl] s (State.applyOut s x) := by
  simp only [State.applyOut]
  repeat' (first
    | with_reducible exact KeepsBut.refl _ _
    | split
    | with_reducible refine (State.applyRemoval_keeps ..).andThen (by decide) ?_
    | exact KeepsBut.refl _ _
    | (constructor <;> intro h <;> first | rfl | exact absurd (by decide) h))

theorem State.applyPut_keeps (s : State) (x : Item) :
    KeepsBut [.srg, .wgt, .spm, .rke, .zwc, .oda, .cau, .pif, .wrl] s (State.applyPut s x) := by
  simp only [State.applyPut]
  repeat' (first
    | with_reducible exact KeepsBut.refl _ _
    | split
    | with_reducible refine (State.changeOccupant_keeps ..).andThen (by decide) ?_
    | with_reducible refine (State.applyWind_keeps ..).andThen (by decide) ?_
    | with_reducible refine (State.applyZoneResult_keeps ..).andThen (by decide) ?_
    | with_reducible refine (State.applyPath_keeps ..).andThen (by decide) ?_
    | with_reducible refine (State.applyStation_keeps ..).andThen (by decide) ?_
    | with_reducible refine (State.applyPile_keeps ..).andThen (by decide) ?_
    | with_reducible refine (State.applyZone_keeps ..).andThen (by decide) ?_
    | refine KeepsBut.putCau _ (by decide) ?_
    | exact KeepsBut.refl _ _
    | (constructor <;> intro h <;> first | rfl | exact absurd (by decide) h))

theorem State.applyItems_keeps (items : List Item) (s : State) :
    KeepsBut [.srg, .wgt, .spm, .rke, .zwc, .oda, .cau, .pif, .wrl] s (State.applyItems items s) := by
  simp only [State.applyItems]
  repeat' (first
    | with_reducible exact KeepsBut.refl _ _
    | with_reducible refine KeepsBut.trans ?_ (KeepsBut.foldl _ (fun _ _ => ?_) _ _)
    | with_reducible refine (State.applyPut_keeps ..).andThen (by decide) ?_
    | with_reducible refine (State.applyOut_keeps ..).andThen (by decide) ?_
    | exact KeepsBut.refl _ _)

theorem State.applyGood_keeps (s : State) :
    KeepsBut [.srg, .wgt, .spm, .rke, .zwc, .oda, .cau, .pif, .wrl] s (State.applyGood s) := by
  simp only [State.applyGood]
  repeat' (first
    | with_reducible exact KeepsBut.refl _ _
    | with_reducible refine (State.applyItems_keeps ..).andThen (by decide) ?_
    | with_reducible refine (State.freeSet_keeps ..).andThen (by decide) ?_
    | with_reducible refine (State.record_keeps ..).andThen (by decide) ?_
    | exact KeepsBut.refl _ _)

theorem State.applySet_keeps (s : State) :
    KeepsBut [.srg, .wgt, .spm, .rke, .zwc, .oda, .cau, .pif, .wrl] s (State.applySet s) := by
  simp only [State.applySet]
  repeat' (first
    | with_reducible exact KeepsBut.refl _ _
    | split
    | with_reducible refine (State.applyGood_keeps ..).andThen (by decide) ?_
    | with_reducible refine (State.freeSet_keeps ..).andThen (by decide) ?_
    | refine KeepsBut.putCau _ (by decide) ?_
    | exact KeepsBut.refl _ _
    | (constructor <;> intro h <;> first | rfl | exact absurd (by decide) h))

theorem statusCommand_keeps (a : Asked) (s : State) :
    KeepsBut [.pif] s (statusCommand a s) := by
  simp only [statusCommand]
  repeat' (first
    | with_reducible exact KeepsBut.refl _ _
    | with_reducible refine (State.reply_keeps ..).andThen (by decide) ?_
    | with_reducible refine (State.updPort_keeps ..).andThen (by decide) ?_
    | exact KeepsBut.refl _ _
    | (constructor <;> intro h <;> first | rfl | exact absurd (by decide) h))

theorem readZoneCommand_keeps (zone : Byte) (a : Asked) (s : State) :
    KeepsBut [.pif] s (readZoneCommand zone a s) := by
  simp only [readZoneCommand]
  repeat' (first
    | with_reducible exact KeepsBut.refl _ _
    | split
    | with_reducible refine (State.replyRange_keeps ..).andThen (by decide) ?_
    | with_reducible refine (State.reply_keeps ..).andThen (by decide) ?_
    | exact KeepsBut.refl _ _
    | (constructor <;> intro h <;> first | rfl | exact absurd (by decide) h))

theorem readPileCommand_keeps (a : Asked) (s : State) :
    KeepsBut [.pif] s (readPileCommand a s) := by
  simp only [readPileCommand]
  repeat' (first
    | with_reducible exact KeepsBut.refl _ _
    | with_reducible refine (State.reply_keeps ..).andThen (by decide) ?_
    | exact KeepsBut.refl _ _)

theorem readStationsCommand_keeps (a : Asked) (s : State) :
    KeepsBut [.pif] s (readStationsCommand a s) := by
  simp only [readStationsCommand]
  repeat' (first
    | with_reducible exact KeepsBut.refl _ _
    | with_reducible refine (State.reply_keeps ..).andThen (by decide) ?_
    | exact KeepsBut.refl _ _)

theorem readStrangersCommand_keeps (a : Asked) (s : State) :
    KeepsBut [.pif] s (readStrangersCommand a s) := by
  simp only [readStrangersCommand]
  repeat' (first
    | with_reducible exact KeepsBut.refl _ _
    | with_reducible refine (State.reply_keeps ..).andThen (by decide) ?_
    | exact KeepsBut.refl _ _)

theorem readGustsCommand_keeps (a : Asked) (s : State) :
    KeepsBut [.pif] s (readGustsCommand a s) := by
  simp only [readGustsCommand]
  repeat' (first
    | with_reducible exact KeepsBut.refl _ _
    | with_reducible refine (State.reply_keeps ..).andThen (by decide) ?_
    | exact KeepsBut.refl _ _)

theorem readPathsCommand_keeps (a : Asked) (s : State) :
    KeepsBut [.pif] s (readPathsCommand a s) := by
  simp only [readPathsCommand]
  repeat' (first
    | with_reducible exact KeepsBut.refl _ _
    | with_reducible refine (State.reply_keeps ..).andThen (by decide) ?_
    | exact KeepsBut.refl _ _)

theorem readLoopCommand_keeps (a : Asked) (s : State) :
    KeepsBut [.pif] s (readLoopCommand a s) := by
  simp only [readLoopCommand]
  repeat' (first
    | with_reducible exact KeepsBut.refl _ _
    | with_reducible refine (State.reply_keeps ..).andThen (by decide) ?_
    | exact KeepsBut.refl _ _)

theorem readPending_keeps (kind : Byte) (key1 : Byte) (key2 : Byte) (a : Asked) (s : State) :
    KeepsBut [.pif] s (readPending kind key1 key2 a s) := by
  simp only [readPending]
  repeat' (first
    | with_reducible exact KeepsBut.refl _ _
    | split
    | with_reducible refine (State.replyRange_keeps ..).andThen (by decide) ?_
    | with_reducible refine (State.reply_keeps ..).andThen (by decide) ?_
    | exact KeepsBut.refl _ _
    | (constructor <;> intro h <;> first | rfl | exact absurd (by decide) h))

theorem readInForce_keeps (kind : Byte) (key1 : Byte) (key2 : Byte) (a : Asked) (s : State) :
    KeepsBut [.pif] s (readInForce kind key1 key2 a s) := by
  simp only [readInForce]
  repeat' (first
    | with_reducible exact KeepsBut.refl _ _
    | split
    | with_reducible refine (State.replyRange_keeps ..).andThen (by decide) ?_
    | with_reducible refine (State.reply_keeps ..).andThen (by decide) ?_
    | exact KeepsBut.refl _ _
    | (constructor <;> intro h <;> first | rfl | exact absurd (by decide) h))

theorem readConfigItemCommand_keeps (source : Byte) (kind : Byte) (key1 : Byte) (key2 : Byte) (a : Asked) (s : State) :
    KeepsBut [.pif] s (readConfigItemCommand source kind key1 key2 a s) := by
  simp only [readConfigItemCommand]
  repeat' (first
    | with_reducible exact KeepsBut.refl _ _
    | split
    | with_reducible refine (readInForce_keeps ..).andThen (by decide) ?_
    | with_reducible refine (readPending_keeps ..).andThen (by decide) ?_
    | with_reducible refine (State.replyRange_keeps ..).andThen (by decide) ?_
    | exact KeepsBut.refl _ _)

theorem readLogAtCommand_keeps (seq : Seq) (a : Asked) (s : State) :
    KeepsBut [.pif] s (readLogAtCommand seq a s) := by
  simp only [readLogAtCommand]
  repeat' (first
    | with_reducible exact KeepsBut.refl _ _
    | split
    | with_reducible refine (State.reply_keeps ..).andThen (by decide) ?_
    | exact KeepsBut.refl _ _
    | (constructor <;> intro h <;> first | rfl | exact absurd (by decide) h))

theorem readLogNextCommand_keeps (a : Asked) (s : State) :
    KeepsBut [.pif, .wrl] s (readLogNextCommand a s) := by
  simp only [readLogNextCommand]
  repeat' (first
    | with_reducible exact KeepsBut.refl _ _
    | with_reducible refine (State.replySegments_keeps ..).andThen (by decide) ?_
    | refine KeepsBut.putWrl _ (by decide) ?_
    | exact KeepsBut.refl _ _
    | (constructor <;> intro h <;> first | rfl | exact absurd (by decide) h))

theorem State.markRestart_keeps (port : Port) (s : State) :
    KeepsBut [.wrl] s (State.markRestart port s) := by
  simp only [State.markRestart]
  repeat' (first
    | with_reducible exact KeepsBut.refl _ _
    | with_reducible refine (State.record_keeps ..).andThen (by decide) ?_
    | refine KeepsBut.putWrl _ (by decide) ?_
    | exact KeepsBut.refl _ _
    | (constructor <;> intro h <;> first | rfl | exact absurd (by decide) h))

theorem State.restartBlocks_keeps (s : State) :
    KeepsBut [.srg, .wgt, .spm, .rke, .zwc, .oda, .cau, .pif] s (State.restartBlocks s) := by
  simp only [State.restartBlocks]
  repeat' (first
    | with_reducible exact KeepsBut.refl _ _
    | with_reducible refine (State.restartSet_keeps ..).andThen (by decide) ?_
    | with_reducible refine (State.restartRisk_keeps ..).andThen (by decide) ?_
    | with_reducible refine (State.restartStations_keeps ..).andThen (by decide) ?_
    | with_reducible refine (State.restartSite_keeps ..).andThen (by decide) ?_
    | with_reducible refine (State.restartWind_keeps ..).andThen (by decide) ?_
    | with_reducible refine (State.restartZones_keeps ..).andThen (by decide) ?_
    | exact KeepsBut.refl _ _)

theorem restartCommand_keeps (a : Asked) (s : State) :
    KeepsBut [.flc, .wrl, .srg, .wgt, .spm, .rke, .zwc, .oda, .cau, .pif] s (restartCommand a s) := by
  simp only [restartCommand]
  repeat' (first
    | with_reducible exact KeepsBut.refl _ _
    | with_reducible refine (State.restartBlocks_keeps ..).andThen (by decide) ?_
    | with_reducible refine (State.markRestart_keeps ..).andThen (by decide) ?_
    | with_reducible refine (State.restartLoop_keeps ..).andThen (by decide) ?_
    | with_reducible refine (State.reply_keeps ..).andThen (by decide) ?_
    | exact KeepsBut.refl _ _)

theorem runCommand_keeps (c : Command) (a : Asked) (s : State) :
    KeepsBut [.flc, .wrl, .srg, .wgt, .spm, .rke, .zwc, .oda, .cau, .pif] s (runCommand c a s) := by
  simp only [runCommand]
  repeat' (first
    | with_reducible exact KeepsBut.refl _ _
    | split
    | with_reducible refine (restartCommand_keeps ..).andThen (by decide) ?_
    | with_reducible refine (readLogNextCommand_keeps ..).andThen (by decide) ?_
    | with_reducible refine (readLogAtCommand_keeps ..).andThen (by decide) ?_
    | with_reducible refine (readConfigItemCommand_keeps ..).andThen (by decide) ?_
    | with_reducible refine (readLoopCommand_keeps ..).andThen (by decide) ?_
    | with_reducible refine (readPathsCommand_keeps ..).andThen (by decide) ?_
    | with_reducible refine (readGustsCommand_keeps ..).andThen (by decide) ?_
    | with_reducible refine (readStrangersCommand_keeps ..).andThen (by decide) ?_
    | with_reducible refine (readStationsCommand_keeps ..).andThen (by decide) ?_
    | with_reducible refine (readPileCommand_keeps ..).andThen (by decide) ?_
    | with_reducible refine (readZoneCommand_keeps ..).andThen (by decide) ?_
    | with_reducible refine (statusCommand_keeps ..).andThen (by decide) ?_
    | with_reducible refine (refuseCommand_keeps ..).andThen (by decide) ?_
    | with_reducible refine (acceptCommand_keeps ..).andThen (by decide) ?_
    | with_reducible refine (proposeCommand_keeps ..).andThen (by decide) ?_
    | with_reducible refine (discardCommand_keeps ..).andThen (by decide) ?_
    | with_reducible refine (stageCommand_keeps ..).andThen (by decide) ?_
    | with_reducible refine (ackLossCommand_keeps ..).andThen (by decide) ?_
    | with_reducible refine (reportActivityCommand_keeps ..).andThen (by decide) ?_
    | with_reducible refine (reportWettingCommand_keeps ..).andThen (by decide) ?_
    | with_reducible refine (clearLineCommand_keeps ..).andThen (by decide) ?_
    | with_reducible refine (testCommand_keeps ..).andThen (by decide) ?_
    | with_reducible refine (serviceCommand_keeps ..).andThen (by decide) ?_
    | with_reducible refine (silenceCommand_keeps ..).andThen (by decide) ?_
    | with_reducible refine (ackAlertCommand_keeps ..).andThen (by decide) ?_
    | with_reducible refine (floorCommand_keeps ..).andThen (by decide) ?_
    | exact KeepsBut.refl _ _
    | (constructor <;> intro h <;> first | rfl | exact absurd (by decide) h))

theorem judgeCommand_keeps (c : Option Command) (a : Asked) (s : State) :
    KeepsBut [.flc, .wrl, .srg, .wgt, .spm, .rke, .zwc, .oda, .cau, .pif] s (judgeCommand c a s) := by
  simp only [judgeCommand]
  repeat' (first
    | with_reducible exact KeepsBut.refl _ _
    | split
    | with_reducible refine (runCommand_keeps ..).andThen (by decide) ?_
    | with_reducible refine (State.reply_keeps ..).andThen (by decide) ?_
    | exact KeepsBut.refl _ _
    | (constructor <;> intro h <;> first | rfl | exact absurd (by decide) h))

theorem State.takeContent_keeps (port : Port) (content : List Byte) (releases : Bool) (s : State) :
    KeepsBut [.flc, .wrl, .srg, .wgt, .spm, .rke, .zwc, .oda, .cau, .pif] s (State.takeContent port content releases s) := by
  simp only [State.takeContent]
  repeat' (first
    | with_reducible exact KeepsBut.refl _ _
    | split
    | with_reducible refine (judgeCommand_keeps ..).andThen (by decide) ?_
    | with_reducible refine (State.reply_keeps ..).andThen (by decide) ?_
    | exact KeepsBut.refl _ _
    | (constructor <;> intro h <;> first | rfl | exact absurd (by decide) h))

theorem State.issue_keeps (port : Port) (tag : Byte) (c : Command) (s : State) :
    KeepsBut [.flc, .wrl, .srg, .wgt, .spm, .rke, .zwc, .oda, .cau, .pif] s (State.issue port tag c s) := by
  simp only [State.issue]
  repeat' (first
    | with_reducible exact KeepsBut.refl _ _
    | split
    | with_reducible refine (judgeCommand_keeps ..).andThen (by decide) ?_
    | with_reducible refine (State.updPort_keeps ..).andThen (by decide) ?_
    | refine KeepsBut.putPif _ (by decide) ?_
    | exact KeepsBut.refl _ _
    | (constructor <;> intro h <;> first | rfl | exact absurd (by decide) h))

theorem State.holdContent_keeps (port : Port) (content : List Byte) (s : State) :
    KeepsBut [.flc, .wrl, .srg, .wgt, .spm, .rke, .zwc, .oda, .cau, .pif] s (State.holdContent port content s) := by
  simp only [State.holdContent]
  repeat' (first
    | with_reducible exact KeepsBut.refl _ _
    | split
    | with_reducible refine (State.takeContent_keeps ..).andThen (by decide) ?_
    | with_reducible refine (State.updPort_keeps ..).andThen (by decide) ?_
    | refine KeepsBut.putPif _ (by decide) ?_
    | exact KeepsBut.refl _ _
    | (constructor <;> intro h <;> first | rfl | exact absurd (by decide) h))

theorem State.restartWatch_keeps (port : Port) (s : State) :
    KeepsBut [.pif] s (State.restartWatch port s) := by
  simp only [State.restartWatch]
  repeat' (first
    | with_reducible exact KeepsBut.refl _ _
    | split
    | with_reducible refine (State.raise_keeps ..).andThen (by decide) ?_
    | refine KeepsBut.putPif _ (by decide) ?_
    | exact KeepsBut.refl _ _
    | (constructor <;> intro h <;> first | rfl | exact absurd (by decide) h))

theorem State.receiveFrame_keeps (port : Port) (bytes : List Byte) (stopBitError : Bool) (s : State) :
    KeepsBut [.flc, .wrl, .srg, .wgt, .spm, .rke, .zwc, .oda, .cau, .pif] s (State.receiveFrame port bytes stopBitError s) := by
  simp only [State.receiveFrame]
  repeat' (first
    | with_reducible exact KeepsBut.refl _ _
    | split
    | with_reducible refine (State.restartWatch_keeps ..).andThen (by decide) ?_
    | with_reducible refine (State.holdContent_keeps ..).andThen (by decide) ?_
    | with_reducible refine (State.setReceiver_keeps ..).andThen (by decide) ?_
    | refine KeepsBut.putPif _ (by decide) ?_
    | exact KeepsBut.refl _ _
    | (constructor <;> intro h <;> first | rfl | exact absurd (by decide) h))

theorem State.releaseHolding_keeps (port : Port) (s : State) :
    KeepsBut [.flc, .wrl, .srg, .wgt, .spm, .rke, .zwc, .oda, .cau, .pif] s (State.releaseHolding port s) := by
  simp only [State.releaseHolding]
  repeat' (first
    | with_reducible exact KeepsBut.refl _ _
    | split
    | with_reducible refine (State.takeContent_keeps ..).andThen (by decide) ?_
    | with_reducible refine (State.updPort_keeps ..).andThen (by decide) ?_
    | refine KeepsBut.putPif _ (by decide) ?_
    | exact KeepsBut.refl _ _
    | (constructor <;> intro h <;> first | rfl | exact absurd (by decide) h))

theorem State.silenceMaster_keeps (port : Port) (s : State) :
    KeepsBut [.pif, .wrl, .zwc, .oda, .spm, .cau] s (State.silenceMaster port s) := by
  simp only [State.silenceMaster]
  repeat' (first
    | with_reducible exact KeepsBut.refl _ _
    | split
    | with_reducible refine (State.silenceSet_keeps ..).andThen (by decide) ?_
    | with_reducible refine (State.silencePiles_keeps ..).andThen (by decide) ?_
    | with_reducible refine (State.silenceZones_keeps ..).andThen (by decide) ?_
    | with_reducible refine (State.raise_keeps ..).andThen (by decide) ?_
    | with_reducible refine (State.record_keeps ..).andThen (by decide) ?_
    | refine KeepsBut.putPif _ (by decide) ?_
    | exact KeepsBut.refl _ _
    | (constructor <;> intro h <;> first | rfl | exact absurd (by decide) h))

theorem State.expireWatch_keeps (port : Port) (s : State) :
    KeepsBut [.now, .pif, .wrl, .zwc, .oda, .spm, .cau] s (State.expireWatch port s) := by
  simp only [State.expireWatch]
  repeat' (first
    | with_reducible exact KeepsBut.refl _ _
    | split
    | with_reducible refine (State.silenceMaster_keeps ..).andThen (by decide) ?_
    | with_reducible refine (State.reach_keeps ..).andThen (by decide) ?_
    | refine KeepsBut.putPif _ (by decide) ?_
    | exact KeepsBut.refl _ _
    | (constructor <;> intro h <;> first | rfl | exact absurd (by decide) h))

theorem State.openFrame_keeps (port : Port) (s : State) :
    KeepsBut [.pif] s (State.openFrame port s) := by
  simp only [State.openFrame]
  repeat' (first
    | with_reducible exact KeepsBut.refl _ _
    | with_reducible refine (State.setReceiver_keeps ..).andThen (by decide) ?_
    | exact KeepsBut.refl _ _)

theorem State.discardLong_keeps (port : Port) (s : State) :
    KeepsBut [.pif] s (State.discardLong port s) := by
  simp only [State.discardLong]
  repeat' (first
    | with_reducible exact KeepsBut.refl _ _
    | with_reducible refine (State.setReceiver_keeps ..).andThen (by decide) ?_
    | exact KeepsBut.refl _ _)

theorem State.timeoutFrame_keeps (port : Port) (s : State) :
    KeepsBut [.now, .pif] s (State.timeoutFrame port s) := by
  simp only [State.timeoutFrame]
  repeat' (first
    | with_reducible exact KeepsBut.refl _ _
    | split
    | with_reducible refine (State.setReceiver_keeps ..).andThen (by decide) ?_
    | with_reducible refine (State.reach_keeps ..).andThen (by decide) ?_
    | refine KeepsBut.putPif _ (by decide) ?_
    | exact KeepsBut.refl _ _
    | (constructor <;> intro h <;> first | rfl | exact absurd (by decide) h))

theorem State.completeFrame_keeps (port : Port) (s : State) :
    KeepsBut [.now, .flc, .wrl, .srg, .wgt, .spm, .rke, .zwc, .oda, .cau, .pif] s (State.completeFrame port s) := by
  simp only [State.completeFrame]
  repeat' (first
    | with_reducible exact KeepsBut.refl _ _
    | split
    | with_reducible refine (State.releaseHolding_keeps ..).andThen (by decide) ?_
    | with_reducible refine (State.updPort_keeps ..).andThen (by decide) ?_
    | with_reducible refine (State.reach_keeps ..).andThen (by decide) ?_
    | refine KeepsBut.putPif _ (by decide) ?_
    | exact KeepsBut.refl _ _
    | (constructor <;> intro h <;> first | rfl | exact absurd (by decide) h))

theorem State.closeBlocks_keeps (s : State) :
    KeepsBut [.flc, .srg, .wgt, .spm, .rke, .zwc, .oda, .cau, .pif, .wrl] s (State.closeBlocks s) := by
  simp only [State.closeBlocks]
  repeat' (first
    | with_reducible exact KeepsBut.refl _ _
    | with_reducible refine (State.applySet_keeps ..).andThen (by decide) ?_
    | with_reducible refine (State.closeLoop_keeps ..).andThen (by decide) ?_
    | with_reducible refine (State.assess_keeps ..).andThen (by decide) ?_
    | with_reducible refine (State.closeSite_keeps ..).andThen (by decide) ?_
    | with_reducible refine (State.closeWind_keeps ..).andThen (by decide) ?_
    | exact KeepsBut.refl _ _)

theorem State.closeRound_keeps (s : State) :
    KeepsBut [.now, .flc, .srg, .wgt, .spm, .rke, .zwc, .oda, .cau, .pif, .wrl] s (State.closeRound s) := by
  simp only [State.closeRound]
  repeat' (first
    | with_reducible exact KeepsBut.refl _ _
    | split
    | with_reducible refine (State.closeBlocks_keeps ..).andThen (by decide) ?_
    | with_reducible refine (State.reach_keeps ..).andThen (by decide) ?_
    | refine KeepsBut.putFlc _ (by decide) ?_
    | exact KeepsBut.refl _ _
    | (constructor <;> intro h <;> first | rfl | exact absurd (by decide) h))

end Sys2Proof.Machine
end

