-- ==== Sys2Proof/Laws/Ops.lean ====
section
/-! SUPPORT. What the shared operations do: keyed tables, the record, the transmitter and the queues. -/

namespace Sys2Proof.Machine

/-! ## Keyed tables -/

section
variable {α : Type} {key : α → Nat}

theorem findKey_mem : ∀ {l : List α} {k : Nat} {a : α}, findKey key k l = some a → a ∈ l ∧ key a = k
  | [], _, _, h => by simp [findKey] at h
  | b :: rest, k, a, h => by
    by_cases hb : key b = k
    · simp [findKey, hb] at h; subst h; exact ⟨by simp, hb⟩
    · simp [findKey, hb] at h
      obtain ⟨h1, h2⟩ := findKey_mem h
      exact ⟨by simp [h1], h2⟩

theorem findKey_updateKey (f : α → α) (hf : ∀ a, key (f a) = key a) (k n : Nat) :
    ∀ l : List α, findKey key n (updateKey key k f l) =
      if n = k then (findKey key n l).map f else findKey key n l
  | [] => by simp [findKey, updateKey]
  | b :: rest => by
    have ih := findKey_updateKey f hf k n rest
    by_cases hb : key b = k
    · by_cases hn : n = k
      · simp [updateKey, findKey, hb, hn, hf]
      · have : ¬ k = n := fun e => hn e.symm
        simp [updateKey, findKey, hb, hf, hn, this, ih]
    · by_cases hn : key b = n
      · have : ¬ n = k := fun e => hb (hn.trans e)
        simp [updateKey, findKey, hn, this]
      · by_cases hk : n = k <;> simp_all [updateKey, findKey]

theorem map_updateKey (f : α → α) (hf : ∀ a, key (f a) = key a) (k : Nat) :
    ∀ l : List α, (updateKey key k f l).map key = l.map key
  | [] => rfl
  | b :: rest => by
    have ih := map_updateKey f hf k rest
    by_cases hb : key b = k <;> simp [updateKey, hb, hf, ih]

end

/-- A zone after a change of a zone that keeps its number. -/
theorem State.zone_updZone (s : State) (k n : Nat) (f : Zone → Zone) (hf : ∀ z, (f z).cfg.zone = z.cfg.zone) :
    (s.updZone k f).zone n = if n = k then (s.zone n).map f else s.zone n :=
  findKey_updateKey f hf k n _

/-- A line after a change of a line that keeps its number. -/
theorem State.line_updLine (s : State) (k n : Nat) (f : Line → Line) (hf : ∀ l, (f l).line = l.line) :
    (s.updLine k f).line n = if n = k then (s.line n).map f else s.line n :=
  findKey_updateKey f hf k n _

/-- A pile after a change of a pile that keeps its number. -/
theorem State.pile_updPile (s : State) (k n : Nat) (f : Pile → Pile) (hf : ∀ p, (f p).cfg.pile = p.cfg.pile) :
    (s.updPile k f).pile n = if n = k then (s.pile n).map f else s.pile n :=
  findKey_updateKey f hf k n _

/-- A station after a change of a station that keeps its slot. -/
theorem State.station_updStation (s : State) (k n : Nat) (f : Station → Station)
    (hf : ∀ x, (f x).cfg.slot = x.cfg.slot) :
    (s.updStation k f).station n = if n = k then (s.station n).map f else s.station n :=
  findKey_updateKey f hf k n _

/-- A mast record after a change of one that keeps its slot. -/
theorem State.mast_updMast (s : State) (k n : Nat) (f : Mast → Mast) (hf : ∀ m, (f m).slot = m.slot) :
    (s.updMast k f).mast n = if n = k then (s.mast n).map f else s.mast n :=
  findKey_updateKey f hf k n _

/-- A gauge record after a GAUGE reading (R70). -/
theorem State.gauge_takeGauge (s : State) (k n humidity : Nat) (rain heater : Bool) :
    (s.takeGauge k humidity rain heater).gauge n =
      if n = k then (s.gauge n).map (fun g =>
        { g with reading := some { humidity := humidity, rain := rain, heater := heater,
                                   round := s.flc.round } })
      else s.gauge n :=
  findKey_updateKey (key := fun g : Gauge => g.slot)
    (fun g => { g with reading := some { humidity := humidity, rain := rain, heater := heater,
                                         round := s.flc.round } })
    (fun _ => rfl) k n s.spm.gauges

/-- A monitor hold after a DUST reading (R77). -/
theorem State.monitor_takeDust (s : State) (k n concentration code : Nat) :
    (s.takeDust k concentration code).monitor n =
      if n = k then (s.monitor n).map (fun m =>
        { m with value := some (concentration, s.flc.round), heater := code == 2, rangeHigh := code == 4,
                 goingQuiet := code == 15 })
      else s.monitor n :=
  findKey_updateKey (key := fun m : Monitor => m.slot)
    (fun m => { m with value := some (concentration, s.flc.round), heater := code == 2,
                       rangeHigh := code == 4, goingQuiet := code == 15 })
    (fun _ => rfl) k n s.spm.monitors

/-! ## Monitor results and the dwell counter (R103, R104, R117) -/

@[simp] theorem State.monitorResult_slot (s : State) (c : ZoneCfg) (n : Nat) :
    (s.monitorResult c n).slot = n := by
  unfold State.monitorResult
  split
  · rfl
  · split <;> rfl

/-- No monitor's index is above the highest. -/
theorem le_highestIndex : ∀ {l : List MonitorResult} {r : MonitorResult} {i : Nat}, r ∈ l → r.index = some i →
    i ≤ highestIndex l
  | [], _, _, h, _ => by simp at h
  | x :: rest, r, i, h, hi => by
    rcases List.mem_cons.mp h with rfl | h
    · simp [highestIndex, hi, Nat.le_max_left]
    · exact Nat.le_trans (le_highestIndex h hi) (Nat.le_max_right _ _)

/-- A highest index other than 0 is some monitor's. -/
theorem exists_highestIndex : ∀ {l : List MonitorResult}, highestIndex l ≠ 0 →
    ∃ r ∈ l, r.index = some (highestIndex l)
  | [], h => absurd rfl h
  | x :: rest, h => by
    by_cases hx : highestIndex rest ≤ x.index.getD 0
    · refine ⟨x, List.mem_cons_self .., ?_⟩
      cases hi : x.index with
      | none => simp [hi] at hx; simp [highestIndex, hi, hx] at h
      | some i => simp [hi] at hx; simp [highestIndex, hi, hx]
    · have e : highestIndex (x :: rest) = highestIndex rest := by simp [highestIndex]; omega
      obtain ⟨r, hr, hi⟩ := exists_highestIndex (l := rest) (by rw [← e]; exact h)
      exact ⟨r, List.mem_cons_of_mem _ hr, by rw [e]; exact hi⟩

/-- The dwell counter at CLEAR and above it. -/
theorem Zone.dwellAfter_eq (r : Nat) (z : Zone) :
    z.dwellAfter r =
      if z.level ≠ .clear ∧ r < z.cfg.fallLimit z.level then z.dwell + 1 else 0 := by
  cases h : z.level <;> simp [Zone.dwellAfter, h]

/-! ## The counting interval of a copy (R7) -/

/-- Before the round close a copy that completes in its round counts in the running counts. -/
theorem Progress.interval_open {p : Progress} (h : p.closed = false) (w : Window) {e : CopyEnd}
    (he : e ≠ .afterRound) : p.interval w e = .running := by
  simp [Progress.interval, h, he, intervalBack]

/-- After the round close a copy of a slot or of the admission window that completes in its round counts in
the counts that the close has ended. -/
theorem Progress.interval_closed {p : Progress} (h : p.closed = true) {w : Window} (hw : w ≠ .quietGap)
    {e : CopyEnd} (he : e ≠ .afterRound) : p.interval w e = .last := by
  simp [Progress.interval, h, hw, he, intervalBack]

/-- A copy of the round before the one in progress, taken before the round close, counts in the counts that
the close of its round has ended. -/
theorem Progress.interval_afterRound {p : Progress} (h : p.closed = false) {w : Window}
    (hw : w ≠ .quietGap) : p.interval w .afterRound = .last := by
  simp [Progress.interval, h, hw, intervalBack]

/-- Counting a copy changes one side of the running or of the last counts, and nothing else. -/
theorem Flc.countCopy_spec (side : Side) (w : Window) (e : CopyEnd) (c : CopyClass) (f : Flc) :
    f.countCopy side w e c =
      { f with running := (f.countCopy side w e c).running, last := (f.countCopy side w e c).last }
    ∧ (∀ p, f.progress = some p → p.interval w e = .running →
        (f.countCopy side w e c).running = f.running.upd (Counts.add c) side
          ∧ (f.countCopy side w e c).last = f.last)
    ∧ (∀ p, f.progress = some p → p.interval w e = .last →
        (f.countCopy side w e c).last = f.last.upd (Counts.add c) side
          ∧ (f.countCopy side w e c).running = f.running)
    ∧ (∀ p, f.progress = some p → p.interval w e = .earlier → f.countCopy side w e c = f) := by
  unfold Flc.countCopy
  refine ⟨?_, ?_, ?_, ?_⟩
  · split <;> rfl
  all_goals intro p hp hi; simp [hp, hi]

/-! ## Ports -/

@[simp] theorem Pif.port_updPort_same (p : Pif) (port : Port) (f : PortState → PortState) :
    (p.updPort f port).port port = f (p.port port) := by cases port <;> rfl

theorem Pif.port_updPort_other (p : Pif) {port o : Port} (h : o ≠ port) (f : PortState → PortState) :
    (p.updPort f port).port o = p.port o := by cases port <;> cases o <;> first | rfl | exact absurd rfl h

@[simp] theorem Pif.updPort_watchT (p : Pif) (port : Port) (f : PortState → PortState) :
    (p.updPort f port).watchT = p.watchT := by cases port <;> rfl

@[simp] theorem Pif.updPort_watchQ (p : Pif) (port : Port) (f : PortState → PortState) :
    (p.updPort f port).watchQ = p.watchQ := by cases port <;> rfl

/-- What an operation on a port's transmitter leaves: the receiver and the holding. -/
structure PortState.SameHolding (p q : PortState) : Prop where
  receiver : q.receiver = p.receiver
  executing : q.executing = p.executing
  waiting : q.waiting = p.waiting

theorem PortState.SameHolding.refl (p : PortState) : p.SameHolding p := ⟨rfl, rfl, rfl⟩

theorem PortState.SameHolding.trans {p q r : PortState} (h : p.SameHolding q) (k : q.SameHolding r) :
    p.SameHolding r := ⟨k.1.trans h.1, k.2.trans h.2, k.3.trans h.3⟩

theorem PortState.arbitrate_holding (now : Time) (p : PortState) : p.SameHolding (p.arbitrate now) := by
  unfold PortState.arbitrate
  split
  · exact .refl p
  · split
    · exact ⟨rfl, rfl, rfl⟩
    · split <;> exact ⟨rfl, rfl, rfl⟩

theorem PortState.queueFrames_holding (now : Time) (fs : List TxFrame) (p : PortState) :
    p.SameHolding (p.queueFrames now fs) :=
  PortState.SameHolding.trans (q := { p with responses := p.responses ++ fs }) ⟨rfl, rfl, rfl⟩
    (PortState.arbitrate_holding now _)

theorem PortState.queueNotice_holding (c : NoticeClass) (n : Notice) (p : PortState) :
    p.SameHolding (p.queueNotice c n) := by
  unfold PortState.queueNotice; split <;> exact ⟨rfl, rfl, rfl⟩

theorem PortState.notify_holding (now : Time) (c : NoticeClass) (n : Notice) (port : Port) (p : PortState) :
    p.SameHolding (p.notify now c n port) := by
  unfold PortState.notify; split
  · exact (PortState.queueNotice_holding c n p).trans (PortState.arbitrate_holding now _)
  · exact .refl p

/-- An arbitration that finds a frame sent or waiting keeps the order of what goes out. -/
theorem PortState.arbitrate_outgoing (now : Time) (p : PortState) (h : p.outgoing ≠ []) :
    (p.arbitrate now).outgoing = p.outgoing := by
  unfold PortState.arbitrate
  split
  · rfl
  · rename_i hs
    split
    · rename_i f rest hr
      simp [PortState.outgoing, PortState.send, hs, hr]
    · rename_i hr
      simp [PortState.outgoing, hs, hr] at h

/-- What goes out after frames are queued: what went out before, then the frames. -/
theorem PortState.queueFrames_outgoing (now : Time) (fs : List TxFrame) (p : PortState) (h : fs ≠ []) :
    (p.queueFrames now fs).outgoing = p.outgoing ++ fs := by
  have : ({ p with responses := p.responses ++ fs } : PortState).outgoing = p.outgoing ++ fs := by
    simp [PortState.outgoing]
  rw [PortState.queueFrames, PortState.arbitrate_outgoing _ _ (by rw [this]; simp [h]), this]

/-- A notice does not change what goes out while something does. -/
theorem PortState.notify_outgoing (now : Time) (c : NoticeClass) (n : Notice) (port : Port) (p : PortState)
    (h : p.outgoing ≠ []) : (p.notify now c n port).outgoing = p.outgoing := by
  have hq : (p.queueNotice c n).outgoing = p.outgoing := by
    unfold PortState.queueNotice; split <;> rfl
  unfold PortState.notify
  split
  · rw [PortState.arbitrate_outgoing _ _ (by rw [hq]; exact h), hq]
  · rfl

theorem packUnits_ne_nil : ∀ (us : List (List Byte)) (cur : List Byte), packUnits us cur ≠ []
  | [], _ => by simp [packUnits]
  | u :: rest, cur => by
    unfold packUnits
    split
    · exact packUnits_ne_nil rest _
    · simp

theorem packEntries_ne_nil : ∀ (us : List (List Byte)) (cur : List Byte), packEntries us cur ≠ []
  | [], _ => by simp [packEntries]
  | u :: rest, cur => by
    unfold packEntries
    split
    · exact packEntries_ne_nil rest _
    · simp

theorem responseFrames_ne_nil (a : Asked) (r : Result) (n : Nat) :
    ∀ {ds : List (List Byte)}, ds ≠ [] → responseFrames a r n ds ≠ []
  | [], h => absurd rfl h
  | [_], _ => by simp [responseFrames]
  | _ :: _ :: _, _ => by simp [responseFrames]

/-- A notice reaches every port by its own routing. -/
theorem State.raise_port (s : State) (c : NoticeClass) (n : Notice) (p : Port) :
    (s.raise c n).pif.port p = (s.pif.port p).notify s.now c n p := by cases p <;> rfl

@[simp] theorem State.raise_watchT (s : State) (c : NoticeClass) (n : Notice) :
    (s.raise c n).pif.watchT = s.pif.watchT := rfl

@[simp] theorem State.raise_watchQ (s : State) (c : NoticeClass) (n : Notice) :
    (s.raise c n).pif.watchQ = s.pif.watchQ := rfl

theorem PortsQuiet.refl (s : State) : PortsQuiet s s := ⟨fun _ => rfl, fun _ => rfl, fun _ => rfl, rfl, rfl⟩

theorem PortsQuiet.trans {s t u : State} (h : PortsQuiet s t) (k : PortsQuiet t u) : PortsQuiet s u :=
  ⟨fun p => (k.1 p).trans (h.1 p), fun p => (k.2 p).trans (h.2 p), fun p => (k.3 p).trans (h.3 p),
   k.4.trans h.4, k.5.trans h.5⟩

/-- Ports untouched. -/
theorem PortsQuiet.ofPif {s t : State} (h : t.pif = s.pif) : PortsQuiet s t :=
  ⟨fun _ => by rw [h], fun _ => by rw [h], fun _ => by rw [h], by rw [h], by rw [h]⟩

/-- A notice leaves the receivers, the holdings and the watchdogs. -/
theorem State.raise_quiet (s : State) (c : NoticeClass) (n : Notice) : PortsQuiet s (s.raise c n) :=
  ⟨fun p => by rw [s.raise_port]; exact (PortState.notify_holding ..).receiver,
   fun p => by rw [s.raise_port]; exact (PortState.notify_holding ..).waiting,
   fun p => by rw [s.raise_port]; exact (PortState.notify_holding ..).executing, rfl, rfl⟩

/-- A response leaves the receivers, the holdings and the watchdogs. -/
theorem State.replySegments_quiet (s : State) (a : Asked) (r : Result) (d : List (List Byte)) :
    PortsQuiet s (s.replySegments a r d) := by
  have key : ∀ p, ((s.pif.port p).SameHolding ((s.replySegments a r d).pif.port p)) := by
    intro p
    by_cases h : p = a.port
    · subst h
      simp only [State.replySegments, State.updPort, Pif.port_updPort_same]
      exact PortState.queueFrames_holding ..
    · simp only [State.replySegments, State.updPort, Pif.port_updPort_other _ h]
      exact .refl _
  exact ⟨fun p => (key p).receiver, fun p => (key p).waiting, fun p => (key p).executing,
    Pif.updPort_watchT .., Pif.updPort_watchQ ..⟩

theorem State.reply_quiet (s : State) (a : Asked) (r : Result) (u : List (List Byte)) :
    PortsQuiet s (s.reply a r u) := s.replySegments_quiet a r _

/-- A response ends what its port sends. -/
theorem State.reply_answers (s : State) (a : Asked) (r : Result) (u : List (List Byte)) :
    (s.reply a r u).Answers a r u := by
  unfold State.Answers State.reply State.replySegments State.updPort
  rw [Pif.port_updPort_same, PortState.queueFrames_outgoing _ _ _
    (responseFrames_ne_nil a r 1 (packUnits_ne_nil u []))]
  exact List.suffix_append _ _

/-! ## The receiver (R171, R172) -/

/-- A flag that opens a frame does nothing else. -/
theorem State.receiveFrame_opens {s : State} {port : Port} {bytes : List Byte} (stopBitError : Bool)
    (h : (s.pif.port port).receiver.opensFrame s.now bytes = true) :
    s.receiveFrame port bytes stopBitError = s.openFrame port := by simp [State.receiveFrame, h]

/-- A flag that closes a frame leaves the receiver hunting; a frame that is well-formed restarts the watchdog
and goes to the holding, and any other one has no effect. -/
theorem State.receiveFrame_closes {s : State} {port : Port} {bytes : List Byte} (stopBitError : Bool)
    (h : (s.pif.port port).receiver.opensFrame s.now bytes = false) :
    (wellFormedContent bytes stopBitError = none →
      s.receiveFrame port bytes stopBitError = s.setReceiver port .hunting)
    ∧ (∀ content, wellFormedContent bytes stopBitError = some content →
      s.receiveFrame port bytes stopBitError =
        ((s.setReceiver port .hunting).restartWatch port).holdContent port content) := by
  constructor
  · intro hw; simp [State.receiveFrame, h, State.judgeFrame, hw]
  · intro content hw; simp [State.receiveFrame, h, State.judgeFrame, hw]

/-- A receiver that is inside a frame closes it, where the frame has a byte, is not over-long and is within
its limit. -/
theorem Receiver.opensFrame_inside {now since : Time} {bytes : List Byte} (h : bytes ≠ [])
    (hl : overLong bytes = false) (ht : now ≤ since + 100000) :
    (Receiver.inside since).opensFrame now bytes = false := by
  simp [Receiver.opensFrame, h, hl, frameLimit, Nat.not_lt.mpr ht]

/-! ## The record (R186, R188) -/

/-- What a write to a record that has entries leaves: the last entry is the new one, one more entry or
256, the next number one higher, the epoch as it was. -/
theorem Wrl.append_spec (e : Entry) (w : Wrl) :
    (w.append e).entries.getLast? = some e ∧ (w.append e).nextSeq = w.nextSeq + 1
      ∧ (w.append e).epoch = w.epoch := by
  unfold Wrl.append
  split
  · simp
  · split
    · refine ⟨by simp, rfl, ?_⟩
      unfold Wrl.overwritten; dsimp only; split <;> rfl
    · simp

theorem State.record_wrl (s : State) (b : EntryBody) : (s.record b).wrl = s.logged b := rfl

end Sys2Proof.Machine
end

