-- ==== Sys2Proof/WellFormed.lean ====
section
/-! DEFINITION. Which commands can occur at all: the ranges of the operands that no master chooses
(slots, lines, zones, roles, bytes between flags).  Operands that a master sends are judged by the
coordinator itself (REFUSED_RANGE, MALFORMED), so every value of them is well formed.  The meanings
do not depend on this check: a command that names a thing which does not exist changes nothing. -/

namespace Sys2Proof

/-- The flag byte 0xC3 never stands between two flags (R194). -/
def noFlagInside (bytes : List Byte) : Bool := bytes.all (fun b => b != 0xC3#8)

/-- A window of the round: a slot window is one of 1 to 48 (R1). -/
def Window.wellFormed : Window → Bool
  | .slot n => decide (1 ≤ n ∧ n ≤ 48)
  | .phaseA => true
  | .phaseB => true
  | .admission => true
  | .quietGap => true

/-- The T-port and the Q-port have a watchdog and a floor role, the S-port has neither (R180, R114). -/
def Port.hasRole : Port → Bool
  | .t => true
  | .q => true
  | .s => false

/-- The ranges of section 4 for the operands of each command. -/
def Instr.wellFormed : Instr → Bool
  | .power => true
  | .restart _ _ => true
  | .masterSilenceExpiry port => port.hasRole
  | .listenPeriodEnd => true
  | .foreignBeaconHeard => true
  | .backOffEnd => true
  | .roundStart => true
  | .loopCopy _ window _ bytes => window.wellFormed && noFlagInside bytes
  | .slotEnd slot => decide (1 ≤ slot ∧ slot ≤ 48)
  | .roundClose => true
  | .short line => decide (1 ≤ line ∧ line ≤ 32)
  | .retryWaitEnd line => decide (1 ≤ line ∧ line ≤ 32)
  | .patternPhaseChange _ => true
  | .lineCheck _ => true
  | .cleanCountTick => true
  | .floorExpiry zone role => decide (1 ≤ zone ∧ zone ≤ 16) && role.hasRole
  | .silenceExpiry zone => decide (1 ≤ zone ∧ zone ≤ 16)
  | .testEnd zone => decide (1 ≤ zone ∧ zone ≤ 16)
  | .idleExpiry => true
  | .proposalExpiry => true
  | .portFrame _ bytes _ => noFlagInside bytes
  | .portFrameTimeout _ => true
  | .transmitComplete _ => true
  | .status _ _ => true
  | .readZone _ _ _ => true
  | .readPile _ _ => true
  | .readStations _ _ => true
  | .readStrangers _ _ => true
  | .readGusts _ _ => true
  | .readPaths _ _ => true
  | .readConfigItem _ _ _ _ _ _ => true
  | .readLoop _ _ => true
  | .reportWetting _ _ _ => true
  | .reportActivity _ _ _ _ => true
  | .floor _ _ _ _ _ => true
  | .ackAlert _ _ _ => true
  | .silence _ _ _ _ => true
  | .service _ _ _ _ => true
  | .test _ _ _ => true
  | .clearLine _ _ _ => true
  | .ackLoss _ _ _ => true
  | .stage _ _ item => decide (item.length ≤ 70)
  | .discard _ _ => true
  | .propose _ _ => true
  | .accept _ _ _ => true
  | .refuse _ _ _ => true
  | .readLogNext _ _ => true
  | .readLogAt _ _ _ => true
  | .portOpeningFlag _ => true
  | .portFrameOverlength _ => true
  | .phaseBOut => true

end Sys2Proof
end

