-- ==== Sys2Proof/Laws/PerInstr.lean ====
section
/-! SUPPORT. One lemma per row of the table: a row that a master sends is the row of its command, and a
command in a good format is a well-formed row; a row that no master sends is the row of no command. -/

namespace Sys2Proof.Laws.RowsOfCommands

open Sys2Proof.Machine

/-- The port, the tag and the command that a row takes, for the rows that a master sends. -/
def taken : Instr → Option (Port × Byte × Command)
  | .power => none
  | .restart port tag => some (port, tag, .restart)
  | .masterSilenceExpiry _ => none
  | .listenPeriodEnd => none
  | .foreignBeaconHeard => none
  | .backOffEnd => none
  | .roundStart => none
  | .loopCopy _ _ _ _ => none
  | .slotEnd _ => none
  | .roundClose => none
  | .short _ => none
  | .retryWaitEnd _ => none
  | .patternPhaseChange _ => none
  | .lineCheck _ => none
  | .cleanCountTick => none
  | .floorExpiry _ _ => none
  | .silenceExpiry _ => none
  | .testEnd _ => none
  | .idleExpiry => none
  | .proposalExpiry => none
  | .portFrame _ _ _ => none
  | .portFrameTimeout _ => none
  | .transmitComplete _ => none
  | .status port tag => some (port, tag, .status)
  | .readZone port tag zone => some (port, tag, .readZone zone)
  | .readPile port tag => some (port, tag, .readPile)
  | .readStations port tag => some (port, tag, .readStations)
  | .readStrangers port tag => some (port, tag, .readStrangers)
  | .readGusts port tag => some (port, tag, .readGusts)
  | .readPaths port tag => some (port, tag, .readPaths)
  | .readConfigItem port tag source kind key1 key2 => some (port, tag, .readConfigItem source kind key1 key2)
  | .readLoop port tag => some (port, tag, .readLoop)
  | .reportWetting port tag pile => some (port, tag, .reportWetting pile)
  | .reportActivity port tag pile activity => some (port, tag, .reportActivity pile activity)
  | .floor port tag zone level minutes => some (port, tag, .floor zone level minutes)
  | .ackAlert port tag zone => some (port, tag, .ackAlert zone)
  | .silence port tag zone minutes => some (port, tag, .silence zone minutes)
  | .service port tag zone state => some (port, tag, .service zone state)
  | .test port tag zone => some (port, tag, .test zone)
  | .clearLine port tag line => some (port, tag, .clearLine line)
  | .ackLoss port tag slot => some (port, tag, .ackLoss slot)
  | .stage port tag item => some (port, tag, .stage item)
  | .discard port tag => some (port, tag, .discard)
  | .propose port tag => some (port, tag, .propose)
  | .accept port tag number => some (port, tag, .accept number)
  | .refuse port tag number => some (port, tag, .refuse number)
  | .readLogNext port tag => some (port, tag, .readLogNext)
  | .readLogAt port tag seq => some (port, tag, .readLogAt seq)
  | .portOpeningFlag _ => none
  | .portFrameOverlength _ => none
  | .phaseBOut => none

/-- A row is the row of the command that it takes, and is well formed where that command's format is good;
a row that takes no command of a master is the row of none. -/
def Statement (i : Instr) : Prop :=
  match taken i with
  | some (port, tag, c) => i = rowOf port tag c ∧ (c.formatGood = true → i.wellFormed = true)
  | none => ∀ port tag c, i ≠ rowOf port tag c

/-- An item kind has at most 70 bytes. -/
theorem itemLength_le (kind : Byte) (n : Nat) (h : itemLength kind = some n) : n ≤ 70 := by
  unfold itemLength at h
  split_ifs at h <;> (cases h; decide)

/-- An item in a good format has at most 70 bytes. -/
theorem length_le_of_itemFormat (item : List Byte) (h : itemFormat item = true) : item.length ≤ 70 := by
  unfold itemFormat at h
  split at h
  · cases h
  · split at h
    · cases h
    · rename_i n hn
      exact of_decide_eq_true h ▸ itemLength_le _ n hn

theorem power : Statement (.power) := fun _ _ c => by
  cases c <;> simp [rowOf]

theorem restart (port : Port) (tag : Byte) : Statement (.restart port tag) := ⟨rfl, fun _ => rfl⟩

theorem masterSilenceExpiry (port : Port) : Statement (.masterSilenceExpiry port) := fun _ _ c => by
  cases c <;> simp [rowOf]

theorem listenPeriodEnd : Statement (.listenPeriodEnd) := fun _ _ c => by
  cases c <;> simp [rowOf]

theorem foreignBeaconHeard : Statement (.foreignBeaconHeard) := fun _ _ c => by
  cases c <;> simp [rowOf]

theorem backOffEnd : Statement (.backOffEnd) := fun _ _ c => by
  cases c <;> simp [rowOf]

theorem roundStart : Statement (.roundStart) := fun _ _ c => by
  cases c <;> simp [rowOf]

theorem loopCopy (side : Side) (window : Window) (ending : CopyEnd) (bytes : List Byte)
    : Statement (.loopCopy side window ending bytes) := fun _ _ c => by
  cases c <;> simp [rowOf]

theorem slotEnd (slot : Nat) : Statement (.slotEnd slot) := fun _ _ c => by
  cases c <;> simp [rowOf]

theorem roundClose : Statement (.roundClose) := fun _ _ c => by
  cases c <;> simp [rowOf]

theorem short (line : Nat) : Statement (.short line) := fun _ _ c => by
  cases c <;> simp [rowOf]

theorem retryWaitEnd (line : Nat) : Statement (.retryWaitEnd line) := fun _ _ c => by
  cases c <;> simp [rowOf]

theorem patternPhaseChange (gen : Generator) : Statement (.patternPhaseChange gen) := fun _ _ c => by
  cases c <;> simp [rowOf]

theorem lineCheck (sense : BitVec 32) : Statement (.lineCheck sense) := fun _ _ c => by
  cases c <;> simp [rowOf]

theorem cleanCountTick : Statement (.cleanCountTick) := fun _ _ c => by
  cases c <;> simp [rowOf]

theorem floorExpiry (zone : Nat) (role : Port) : Statement (.floorExpiry zone role) := fun _ _ c => by
  cases c <;> simp [rowOf]

theorem silenceExpiry (zone : Nat) : Statement (.silenceExpiry zone) := fun _ _ c => by
  cases c <;> simp [rowOf]

theorem testEnd (zone : Nat) : Statement (.testEnd zone) := fun _ _ c => by
  cases c <;> simp [rowOf]

theorem idleExpiry : Statement (.idleExpiry) := fun _ _ c => by
  cases c <;> simp [rowOf]

theorem proposalExpiry : Statement (.proposalExpiry) := fun _ _ c => by
  cases c <;> simp [rowOf]

theorem portFrame (port : Port) (bytes : List Byte) (stopBitError : Bool)
    : Statement (.portFrame port bytes stopBitError) := fun _ _ c => by
  cases c <;> simp [rowOf]

theorem portFrameTimeout (port : Port) : Statement (.portFrameTimeout port) := fun _ _ c => by
  cases c <;> simp [rowOf]

theorem transmitComplete (port : Port) : Statement (.transmitComplete port) := fun _ _ c => by
  cases c <;> simp [rowOf]

theorem status (port : Port) (tag : Byte) : Statement (.status port tag) := ⟨rfl, fun _ => rfl⟩

theorem readZone (port : Port) (tag : Byte) (zone : Byte) : Statement (.readZone port tag zone) := ⟨rfl, fun _ => rfl⟩

theorem readPile (port : Port) (tag : Byte) : Statement (.readPile port tag) := ⟨rfl, fun _ => rfl⟩

theorem readStations (port : Port) (tag : Byte) : Statement (.readStations port tag) := ⟨rfl, fun _ => rfl⟩

theorem readStrangers (port : Port) (tag : Byte) : Statement (.readStrangers port tag) := ⟨rfl, fun _ => rfl⟩

theorem readGusts (port : Port) (tag : Byte) : Statement (.readGusts port tag) := ⟨rfl, fun _ => rfl⟩

theorem readPaths (port : Port) (tag : Byte) : Statement (.readPaths port tag) := ⟨rfl, fun _ => rfl⟩

theorem readConfigItem (port : Port) (tag : Byte) (source kind key1 key2 : Byte)
    : Statement (.readConfigItem port tag source kind key1 key2) := ⟨rfl, fun _ => rfl⟩

theorem readLoop (port : Port) (tag : Byte) : Statement (.readLoop port tag) := ⟨rfl, fun _ => rfl⟩

theorem reportWetting (port : Port) (tag : Byte) (pile : Byte)
    : Statement (.reportWetting port tag pile) := ⟨rfl, fun _ => rfl⟩

theorem reportActivity (port : Port) (tag : Byte) (pile activity : Byte)
    : Statement (.reportActivity port tag pile activity) := ⟨rfl, fun _ => rfl⟩

theorem floor (port : Port) (tag : Byte) (zone level : Byte) (minutes : BitVec 16)
    : Statement (.floor port tag zone level minutes) := ⟨rfl, fun _ => rfl⟩

theorem ackAlert (port : Port) (tag : Byte) (zone : Byte) : Statement (.ackAlert port tag zone) := ⟨rfl, fun _ => rfl⟩

theorem silence (port : Port) (tag : Byte) (zone : Byte) (minutes : BitVec 16)
    : Statement (.silence port tag zone minutes) := ⟨rfl, fun _ => rfl⟩

theorem service (port : Port) (tag : Byte) (zone state : Byte)
    : Statement (.service port tag zone state) := ⟨rfl, fun _ => rfl⟩

theorem test (port : Port) (tag : Byte) (zone : Byte) : Statement (.test port tag zone) := ⟨rfl, fun _ => rfl⟩

theorem clearLine (port : Port) (tag : Byte) (line : Byte) : Statement (.clearLine port tag line) := ⟨rfl, fun _ => rfl⟩

theorem ackLoss (port : Port) (tag : Byte) (slot : Byte) : Statement (.ackLoss port tag slot) := ⟨rfl, fun _ => rfl⟩

theorem stage (port : Port) (tag : Byte) (item : List Byte) : Statement (.stage port tag item) := ⟨rfl, fun h => decide_eq_true (length_le_of_itemFormat item h)⟩

theorem discard (port : Port) (tag : Byte) : Statement (.discard port tag) := ⟨rfl, fun _ => rfl⟩

theorem propose (port : Port) (tag : Byte) : Statement (.propose port tag) := ⟨rfl, fun _ => rfl⟩

theorem accept (port : Port) (tag : Byte) (number : Byte) : Statement (.accept port tag number) := ⟨rfl, fun _ => rfl⟩

theorem refuse (port : Port) (tag : Byte) (number : Byte) : Statement (.refuse port tag number) := ⟨rfl, fun _ => rfl⟩

theorem readLogNext (port : Port) (tag : Byte) : Statement (.readLogNext port tag) := ⟨rfl, fun _ => rfl⟩

theorem readLogAt (port : Port) (tag : Byte) (seq : BitVec 32)
    : Statement (.readLogAt port tag seq) := ⟨rfl, fun _ => rfl⟩

theorem portOpeningFlag (port : Port) : Statement (.portOpeningFlag port) := fun _ _ c => by
  cases c <;> simp [rowOf]

theorem portFrameOverlength (port : Port) : Statement (.portFrameOverlength port) := fun _ _ c => by
  cases c <;> simp [rowOf]

theorem phaseBOut : Statement (.phaseBOut) := fun _ _ c => by
  cases c <;> simp [rowOf]

end Sys2Proof.Laws.RowsOfCommands
end

