-- ==== Sys2Proof/Laws/Quiet.lean ====
section
/-! SUPPORT. No operation below the ports themselves touches a receiver, a holding or a watchdog. -/

namespace Sys2Proof.Machine

/-- One more operation that leaves the ports alone. -/
theorem PortsQuiet.andThen {s t u : State} (k : PortsQuiet t u) (h : PortsQuiet s t) : PortsQuiet s u :=
  h.trans k

theorem PortsQuiet.foldl {α : Type} (f : State → α → State) (h : ∀ s a, PortsQuiet s (f s a)) :
    ∀ (l : List α) (s : State), PortsQuiet s (l.foldl f s)
  | [], s => .refl s
  | a :: l, s => (h s a).trans (PortsQuiet.foldl f h l (f s a))

/-- Any change of the parts other than the ports. -/
theorem PortsQuiet.put {s t u : State} (e : u.pif = t.pif) (h : PortsQuiet s t) : PortsQuiet s u :=
  h.trans (.ofPif e)

theorem State.replyRange_quiet (a : Asked) (i : Nat) (s : State) : PortsQuiet s (s.replyRange a i) :=
  s.reply_quiet a _ _

/-- Forgetting the notices-dropped flag of a port. -/
theorem State.clearDropped_quiet (port : Port) (s : State) :
    PortsQuiet s (s.updPort port (fun p => { p with dropped := false })) := by
  constructor <;> first | (intro p; cases port <;> cases p <;> rfl) | (cases port <;> rfl)

theorem State.raiseZone_quiet (cls : NoticeClass) (event : LevelEvent) (n : Nat) (s : State) :
    PortsQuiet s (State.raiseZone cls event n s) := by
  simp only [State.raiseZone]
  repeat' (first
    | with_reducible exact PortsQuiet.refl _
    | split
    | with_reducible refine (State.raise_quiet ..).andThen ?_
    | exact PortsQuiet.ofPif rfl)

theorem State.judgeDark_quiet (n : Nat) (s : State) :
    PortsQuiet s (State.judgeDark n s) := by
  simp only [State.judgeDark]
  repeat' (first
    | with_reducible exact PortsQuiet.refl _
    | split
    | with_reducible refine (State.raiseZone_quiet ..).andThen ?_
    | with_reducible refine PortsQuiet.put ((State.updZone_keeps ..).pif (by decide)) ?_
    | exact PortsQuiet.ofPif rfl)

theorem State.faultReport_quiet (line : Nat) (s : State) :
    PortsQuiet s (State.faultReport line s) := by
  simp only [State.faultReport]
  repeat' (first
    | with_reducible exact PortsQuiet.refl _
    | with_reducible refine (State.judgeDark_quiet ..).andThen ?_)

theorem State.changeLevel_quiet (n : Nat) (new : Level) (cause : LevelCause) (s : State) :
    PortsQuiet s (State.changeLevel n new cause s) := by
  simp only [State.changeLevel]
  repeat' (first
    | with_reducible exact PortsQuiet.refl _
    | split
    | with_reducible refine (State.raise_quiet ..).andThen ?_
    | with_reducible refine PortsQuiet.put ((State.updZone_keeps ..).pif (by decide)) ?_
    | with_reducible refine PortsQuiet.put ((State.record_keeps ..).pif (by decide)) ?_
    | with_reducible refine PortsQuiet.put ((State.abortTest_keeps ..).pif (by decide)) ?_
    | exact PortsQuiet.ofPif rfl
    | refine (PortsQuiet.put (((KeepsBut.putWrl (ps := [.wrl]) _ (by decide) (KeepsBut.refl _ _)).pif (by decide))) ?_))

theorem State.decideLevel_quiet (n : Nat) (r : Nat) (s : State) :
    PortsQuiet s (State.decideLevel n r s) := by
  simp only [State.decideLevel]
  repeat' (first
    | with_reducible exact PortsQuiet.refl _
    | split
    | with_reducible refine (State.changeLevel_quiet ..).andThen ?_
    | with_reducible refine PortsQuiet.put ((State.updZone_keeps ..).pif (by decide)) ?_
    | exact PortsQuiet.ofPif rfl)

theorem State.deliverRisk_quiet (d : Delivery) (s : State) :
    PortsQuiet s (State.deliverRisk d s) := by
  simp only [State.deliverRisk]
  repeat' (first
    | with_reducible exact PortsQuiet.refl _
    | with_reducible refine (State.decideLevel_quiet ..).andThen ?_
    | with_reducible refine PortsQuiet.put ((State.updZone_keeps ..).pif (by decide)) ?_
    | with_reducible refine PortsQuiet.put ((State.deriveDemand_keeps ..).pif (by decide)) ?_)

theorem State.endFloor_quiet (n : Nat) (role : Port) (byExpiry : Bool) (s : State) :
    PortsQuiet s (State.endFloor n role byExpiry s) := by
  simp only [State.endFloor]
  repeat' (first
    | with_reducible exact PortsQuiet.refl _
    | split
    | with_reducible refine (State.raiseZone_quiet ..).andThen ?_
    | with_reducible refine PortsQuiet.put ((State.updZone_keeps ..).pif (by decide)) ?_
    | with_reducible refine PortsQuiet.put ((State.record_keeps ..).pif (by decide)) ?_
    | exact PortsQuiet.ofPif rfl)

theorem State.setFloor_quiet (n : Nat) (role : Port) (l : Level) (minutes : Nat) (s : State) :
    PortsQuiet s (State.setFloor n role l minutes s) := by
  simp only [State.setFloor]
  repeat' (first
    | with_reducible exact PortsQuiet.refl _
    | split
    | with_reducible refine (State.changeLevel_quiet ..).andThen ?_
    | with_reducible refine (State.raiseZone_quiet ..).andThen ?_
    | with_reducible refine PortsQuiet.put ((State.updZone_keeps ..).pif (by decide)) ?_
    | with_reducible refine PortsQuiet.put ((State.record_keeps ..).pif (by decide)) ?_
    | with_reducible refine PortsQuiet.put ((State.deriveDemand_keeps ..).pif (by decide)) ?_
    | exact PortsQuiet.ofPif rfl)

theorem floorCommand_quiet (zone : Byte) (level : Byte) (minutes : BitVec 16) (a : Asked) (s : State) :
    PortsQuiet s (floorCommand zone level minutes a s) := by
  simp only [floorCommand]
  repeat' (first
    | with_reducible exact PortsQuiet.refl _
    | split
    | with_reducible refine (State.setFloor_quiet ..).andThen ?_
    | with_reducible refine (State.endFloor_quiet ..).andThen ?_
    | with_reducible refine (State.replyRange_quiet ..).andThen ?_
    | with_reducible refine (State.reply_quiet ..).andThen ?_
    | exact PortsQuiet.ofPif rfl)

theorem ackAlertCommand_quiet (zone : Byte) (a : Asked) (s : State) :
    PortsQuiet s (ackAlertCommand zone a s) := by
  simp only [ackAlertCommand]
  repeat' (first
    | with_reducible exact PortsQuiet.refl _
    | split
    | with_reducible refine (State.raiseZone_quiet ..).andThen ?_
    | with_reducible refine (State.replyRange_quiet ..).andThen ?_
    | with_reducible refine (State.reply_quiet ..).andThen ?_
    | with_reducible refine PortsQuiet.put ((State.updZone_keeps ..).pif (by decide)) ?_
    | with_reducible refine PortsQuiet.put ((State.record_keeps ..).pif (by decide)) ?_
    | with_reducible refine PortsQuiet.put ((State.deriveDemand_keeps ..).pif (by decide)) ?_
    | exact PortsQuiet.ofPif rfl)

theorem State.putSilence_quiet (n : Nat) (until_ : Option Seconds) (minutes : Nat) (byExpiry : Bool) (s : State) :
    PortsQuiet s (State.putSilence n until_ minutes byExpiry s) := by
  simp only [State.putSilence]
  repeat' (first
    | with_reducible exact PortsQuiet.refl _
    | with_reducible refine (State.raiseZone_quiet ..).andThen ?_
    | with_reducible refine PortsQuiet.put ((State.updZone_keeps ..).pif (by decide)) ?_
    | with_reducible refine PortsQuiet.put ((State.record_keeps ..).pif (by decide)) ?_
    | with_reducible refine PortsQuiet.put ((State.deriveDemand_keeps ..).pif (by decide)) ?_
    | exact PortsQuiet.ofPif rfl)

theorem silenceCommand_quiet (zone : Byte) (minutes : BitVec 16) (a : Asked) (s : State) :
    PortsQuiet s (silenceCommand zone minutes a s) := by
  simp only [silenceCommand]
  repeat' (first
    | with_reducible exact PortsQuiet.refl _
    | split
    | with_reducible refine (State.putSilence_quiet ..).andThen ?_
    | with_reducible refine (State.replyRange_quiet ..).andThen ?_
    | with_reducible refine (State.reply_quiet ..).andThen ?_
    | exact PortsQuiet.ofPif rfl)

theorem State.putService_quiet (n : Nat) (v : Service) (s : State) :
    PortsQuiet s (State.putService n v s) := by
  simp only [State.putService]
  repeat' (first
    | with_reducible exact PortsQuiet.refl _
    | split
    | with_reducible refine (State.raiseZone_quiet ..).andThen ?_
    | with_reducible refine PortsQuiet.put ((State.updZone_keeps ..).pif (by decide)) ?_
    | with_reducible refine PortsQuiet.put ((State.record_keeps ..).pif (by decide)) ?_
    | with_reducible refine PortsQuiet.put ((State.deriveDemand_keeps ..).pif (by decide)) ?_
    | exact PortsQuiet.ofPif rfl)

theorem serviceCommand_quiet (zone : Byte) (state : Byte) (a : Asked) (s : State) :
    PortsQuiet s (serviceCommand zone state a s) := by
  simp only [serviceCommand]
  repeat' (first
    | with_reducible exact PortsQuiet.refl _
    | split
    | with_reducible refine (State.putService_quiet ..).andThen ?_
    | with_reducible refine (State.replyRange_quiet ..).andThen ?_
    | with_reducible refine (State.reply_quiet ..).andThen ?_
    | exact PortsQuiet.ofPif rfl)

theorem testCommand_quiet (zone : Byte) (a : Asked) (s : State) :
    PortsQuiet s (testCommand zone a s) := by
  simp only [testCommand]
  repeat' (first
    | with_reducible exact PortsQuiet.refl _
    | split
    | with_reducible refine (State.raiseZone_quiet ..).andThen ?_
    | with_reducible refine (State.replyRange_quiet ..).andThen ?_
    | with_reducible refine (State.reply_quiet ..).andThen ?_
    | with_reducible refine PortsQuiet.put ((State.updZone_keeps ..).pif (by decide)) ?_
    | with_reducible refine PortsQuiet.put ((State.record_keeps ..).pif (by decide)) ?_
    | with_reducible refine PortsQuiet.put ((State.deriveDemand_keeps ..).pif (by decide)) ?_
    | exact PortsQuiet.ofPif rfl)

theorem State.expireFloor_quiet (n : Nat) (role : Port) (s : State) :
    PortsQuiet s (State.expireFloor n role s) := by
  simp only [State.expireFloor]
  repeat' (first
    | with_reducible exact PortsQuiet.refl _
    | split
    | with_reducible refine (State.endFloor_quiet ..).andThen ?_
    | with_reducible refine PortsQuiet.put ((State.reach_keeps ..).pif (by decide)) ?_
    | exact PortsQuiet.ofPif rfl)

theorem State.expireSilence_quiet (n : Nat) (s : State) :
    PortsQuiet s (State.expireSilence n s) := by
  simp only [State.expireSilence]
  repeat' (first
    | with_reducible exact PortsQuiet.refl _
    | split
    | with_reducible refine (State.putSilence_quiet ..).andThen ?_
    | with_reducible refine PortsQuiet.put ((State.reach_keeps ..).pif (by decide)) ?_
    | exact PortsQuiet.ofPif rfl)

theorem State.completeTest_quiet (n : Nat) (s : State) :
    PortsQuiet s (State.completeTest n s) := by
  simp only [State.completeTest]
  repeat' (first
    | with_reducible exact PortsQuiet.refl _
    | split
    | with_reducible refine (State.raiseZone_quiet ..).andThen ?_
    | with_reducible refine PortsQuiet.put ((State.reach_keeps ..).pif (by decide)) ?_
    | with_reducible refine PortsQuiet.put ((State.updZone_keeps ..).pif (by decide)) ?_
    | with_reducible refine PortsQuiet.put ((State.record_keeps ..).pif (by decide)) ?_
    | with_reducible refine PortsQuiet.put ((State.deriveDemand_keeps ..).pif (by decide)) ?_
    | exact PortsQuiet.ofPif rfl)

theorem State.silenceZone_quiet (port : Port) (n : Nat) (s : State) :
    PortsQuiet s (State.silenceZone port n s) := by
  simp only [State.silenceZone]
  repeat' (first
    | with_reducible exact PortsQuiet.refl _
    | split
    | with_reducible refine (State.raiseZone_quiet ..).andThen ?_
    | with_reducible refine PortsQuiet.put ((State.updZone_keeps ..).pif (by decide)) ?_
    | with_reducible refine PortsQuiet.put ((State.deriveDemand_keeps ..).pif (by decide)) ?_
    | exact PortsQuiet.ofPif rfl)

theorem State.silenceZones_quiet (port : Port) (s : State) :
    PortsQuiet s (State.silenceZones port s) := by
  simp only [State.silenceZones]
  repeat' (first
    | with_reducible exact PortsQuiet.refl _
    | with_reducible refine PortsQuiet.trans ?_ (PortsQuiet.foldl _ (fun _ _ => ?_) _ _)
    | with_reducible refine (State.silenceZone_quiet ..).andThen ?_)

theorem State.applyZone_quiet (c : ZoneCfg) (s : State) :
    PortsQuiet s (State.applyZone c s) := by
  simp only [State.applyZone]
  repeat' (first
    | with_reducible exact PortsQuiet.refl _
    | split
    | with_reducible refine (State.judgeDark_quiet ..).andThen ?_
    | with_reducible refine PortsQuiet.put ((State.updZone_keeps ..).pif (by decide)) ?_
    | with_reducible refine PortsQuiet.put ((State.deriveDemand_keeps ..).pif (by decide)) ?_
    | exact PortsQuiet.ofPif rfl
    | refine (PortsQuiet.put (((KeepsBut.putZwc (ps := [.zwc]) _ (by decide) (KeepsBut.refl _ _)).pif (by decide))) ?_))

theorem State.raiseLine_quiet (cls : NoticeClass) (event : LineEvent) (n : Nat) (s : State) :
    PortsQuiet s (State.raiseLine cls event n s) := by
  simp only [State.raiseLine]
  repeat' (first
    | with_reducible exact PortsQuiet.refl _
    | split
    | with_reducible refine (State.raise_quiet ..).andThen ?_
    | exact PortsQuiet.ofPif rfl)

theorem State.shortLine_quiet (n : Nat) (s : State) :
    PortsQuiet s (State.shortLine n s) := by
  simp only [State.shortLine]
  repeat' (first
    | with_reducible exact PortsQuiet.refl _
    | split
    | with_reducible refine (State.raiseLine_quiet ..).andThen ?_
    | with_reducible refine (State.faultReport_quiet ..).andThen ?_
    | with_reducible refine PortsQuiet.put ((State.updLine_keeps ..).pif (by decide)) ?_
    | exact PortsQuiet.ofPif rfl)

theorem State.putOpen_quiet (n : Nat) (v : Bool) (s : State) :
    PortsQuiet s (State.putOpen n v s) := by
  simp only [State.putOpen]
  repeat' (first
    | with_reducible exact PortsQuiet.refl _
    | split
    | with_reducible refine (State.raiseLine_quiet ..).andThen ?_
    | with_reducible refine (State.faultReport_quiet ..).andThen ?_
    | with_reducible refine PortsQuiet.put ((State.updLine_keeps ..).pif (by decide)) ?_
    | exact PortsQuiet.ofPif rfl)

theorem State.checkLine_quiet (sense : BitVec 32) (n : Nat) (s : State) :
    PortsQuiet s (State.checkLine sense n s) := by
  simp only [State.checkLine]
  repeat' (first
    | with_reducible exact PortsQuiet.refl _
    | split
    | with_reducible refine (State.putOpen_quiet ..).andThen ?_
    | with_reducible refine PortsQuiet.put ((State.updLine_keeps ..).pif (by decide)) ?_
    | exact PortsQuiet.ofPif rfl)

theorem State.checkLines_quiet (sense : BitVec 32) (s : State) :
    PortsQuiet s (State.checkLines sense s) := by
  simp only [State.checkLines]
  repeat' (first
    | with_reducible exact PortsQuiet.refl _
    | with_reducible refine PortsQuiet.trans ?_ (PortsQuiet.foldl _ (fun _ _ => ?_) _ _)
    | with_reducible refine (State.checkLine_quiet ..).andThen ?_
    | with_reducible refine PortsQuiet.put ((State.reach_keeps ..).pif (by decide)) ?_
    | exact PortsQuiet.ofPif rfl
    | refine (PortsQuiet.put (((KeepsBut.putOda (ps := [.oda]) _ (by decide) (KeepsBut.refl _ _)).pif (by decide))) ?_))

theorem State.clearLatch_quiet (n : Nat) (openFlag : Bool) (s : State) :
    PortsQuiet s (State.clearLatch n openFlag s) := by
  simp only [State.clearLatch]
  repeat' (first
    | with_reducible exact PortsQuiet.refl _
    | split
    | with_reducible refine (State.raiseLine_quiet ..).andThen ?_
    | with_reducible refine (State.faultReport_quiet ..).andThen ?_
    | with_reducible refine PortsQuiet.put ((State.updLine_keeps ..).pif (by decide)) ?_
    | with_reducible refine PortsQuiet.put ((State.record_keeps ..).pif (by decide)) ?_
    | exact PortsQuiet.ofPif rfl
    | refine (PortsQuiet.put (((KeepsBut.putOda (ps := [.oda]) _ (by decide) (KeepsBut.refl _ _)).pif (by decide))) ?_))

theorem clearLineCommand_quiet (line : Byte) (a : Asked) (s : State) :
    PortsQuiet s (clearLineCommand line a s) := by
  simp only [clearLineCommand]
  repeat' (first
    | with_reducible exact PortsQuiet.refl _
    | split
    | with_reducible refine (State.clearLatch_quiet ..).andThen ?_
    | with_reducible refine (State.replyRange_quiet ..).andThen ?_
    | with_reducible refine (State.reply_quiet ..).andThen ?_
    | exact PortsQuiet.ofPif rfl)

theorem State.updateBlind_quiet (s : State) :
    PortsQuiet s (State.updateBlind s) := by
  simp only [State.updateBlind]
  repeat' (first
    | with_reducible exact PortsQuiet.refl _
    | split
    | with_reducible refine (State.raise_quiet ..).andThen ?_
    | exact PortsQuiet.ofPif rfl
    | refine (PortsQuiet.put (((KeepsBut.putFlc (ps := [.flc]) _ (by decide) (KeepsBut.refl _ _)).pif (by decide))) ?_)
    | refine (PortsQuiet.put (((KeepsBut.putWgt (ps := [.wgt]) _ (by decide) (KeepsBut.refl _ _)).pif (by decide))) ?_))

theorem State.raiseGust_quiet (event : GustEvent) (reason : Option RemoveReason) (joined : Option Nat) (g : Gust) (s : State) :
    PortsQuiet s (State.raiseGust event reason joined g s) := by
  simp only [State.raiseGust]
  repeat' (first
    | with_reducible exact PortsQuiet.refl _
    | with_reducible refine (State.raise_quiet ..).andThen ?_)

theorem State.confirmGust_quiet (id : Nat) (slot : Nat) (s : State) :
    PortsQuiet s (State.confirmGust id slot s) := by
  simp only [State.confirmGust]
  repeat' (first
    | with_reducible exact PortsQuiet.refl _
    | split
    | with_reducible refine (State.raiseGust_quiet ..).andThen ?_
    | with_reducible refine PortsQuiet.put ((State.updGust_keeps ..).pif (by decide)) ?_
    | exact PortsQuiet.ofPif rfl)

theorem State.joinGust_quiet (id : Nat) (slot : Nat) (peak : Nat) (s : State) :
    PortsQuiet s (State.joinGust id slot peak s) := by
  simp only [State.joinGust]
  repeat' (first
    | with_reducible exact PortsQuiet.refl _
    | with_reducible refine (State.confirmGust_quiet ..).andThen ?_
    | with_reducible refine PortsQuiet.put ((State.updGust_keeps ..).pif (by decide)) ?_
    | exact PortsQuiet.ofPif rfl
    | refine (PortsQuiet.put (((KeepsBut.putFlc (ps := [.flc]) _ (by decide) (KeepsBut.refl _ _)).pif (by decide))) ?_))

theorem State.mergeGust_quiet (g : Gust) (slot : Nat) (peak : Nat) (s : State) :
    PortsQuiet s (State.mergeGust g slot peak s) := by
  simp only [State.mergeGust]
  repeat' (first
    | with_reducible exact PortsQuiet.refl _
    | with_reducible refine (State.confirmGust_quiet ..).andThen ?_
    | with_reducible refine (State.raiseGust_quiet ..).andThen ?_
    | with_reducible refine PortsQuiet.put ((State.updGust_keeps ..).pif (by decide)) ?_
    | exact PortsQuiet.ofPif rfl
    | refine (PortsQuiet.put (((KeepsBut.putFlc (ps := [.flc]) _ (by decide) (KeepsBut.refl _ _)).pif (by decide))) ?_))

theorem State.appendGust_quiet (slot : Nat) (dir : Nat) (peak : Nat) (s : State) :
    PortsQuiet s (State.appendGust slot dir peak s) := by
  simp only [State.appendGust]
  repeat' (first
    | with_reducible exact PortsQuiet.refl _
    | with_reducible refine (State.raiseGust_quiet ..).andThen ?_
    | exact PortsQuiet.ofPif rfl
    | refine (PortsQuiet.put (((KeepsBut.putFlc (ps := [.flc]) _ (by decide) (KeepsBut.refl _ _)).pif (by decide))) ?_)
    | refine (PortsQuiet.put (((KeepsBut.putWgt (ps := [.wgt]) _ (by decide) (KeepsBut.refl _ _)).pif (by decide))) ?_)
    | refine (PortsQuiet.put (((KeepsBut.putWrl (ps := [.wrl]) _ (by decide) (KeepsBut.refl _ _)).pif (by decide))) ?_))

theorem State.openGust_quiet (slot : Nat) (dir : Nat) (peak : Nat) (s : State) :
    PortsQuiet s (State.openGust slot dir peak s) := by
  simp only [State.openGust]
  repeat' (first
    | with_reducible exact PortsQuiet.refl _
    | split
    | with_reducible refine (State.appendGust_quiet ..).andThen ?_
    | with_reducible refine (State.mergeGust_quiet ..).andThen ?_
    | with_reducible refine (State.raiseGust_quiet ..).andThen ?_
    | exact PortsQuiet.ofPif rfl
    | refine (PortsQuiet.put (((KeepsBut.putWgt (ps := [.wgt]) _ (by decide) (KeepsBut.refl _ _)).pif (by decide))) ?_))

theorem State.gustMember_quiet (slot : Nat) (dir : Nat) (peak : Nat) (s : State) :
    PortsQuiet s (State.gustMember slot dir peak s) := by
  simp only [State.gustMember]
  repeat' (first
    | with_reducible exact PortsQuiet.refl _
    | split
    | with_reducible refine (State.openGust_quiet ..).andThen ?_
    | with_reducible refine (State.joinGust_quiet ..).andThen ?_
    | with_reducible refine PortsQuiet.put ((State.updGust_keeps ..).pif (by decide)) ?_
    | exact PortsQuiet.ofPif rfl
    | refine (PortsQuiet.put (((KeepsBut.putFlc (ps := [.flc]) _ (by decide) (KeepsBut.refl _ _)).pif (by decide))) ?_)
    | refine (PortsQuiet.put (((KeepsBut.putWgt (ps := [.wgt]) _ (by decide) (KeepsBut.refl _ _)).pif (by decide))) ?_))

theorem State.gustMembership_quiet (s : State) :
    PortsQuiet s (State.gustMembership s) := by
  simp only [State.gustMembership]
  repeat' (first
    | with_reducible exact PortsQuiet.refl _
    | split
    | with_reducible refine PortsQuiet.trans ?_ (PortsQuiet.foldl _ (fun _ _ => ?_) _ _)
    | with_reducible refine (State.gustMember_quiet ..).andThen ?_
    | exact PortsQuiet.ofPif rfl
    | refine (PortsQuiet.put (((KeepsBut.putWgt (ps := [.wgt]) _ (by decide) (KeepsBut.refl _ _)).pif (by decide))) ?_))

theorem State.closeGusts_quiet (s : State) :
    PortsQuiet s (State.closeGusts s) := by
  simp only [State.closeGusts]
  repeat' (first
    | with_reducible exact PortsQuiet.refl _
    | split
    | with_reducible refine PortsQuiet.trans ?_ (PortsQuiet.foldl _ (fun _ _ => ?_) _ _)
    | with_reducible refine (State.raiseGust_quiet ..).andThen ?_
    | exact PortsQuiet.ofPif rfl
    | refine (PortsQuiet.put (((KeepsBut.putFlc (ps := [.flc]) _ (by decide) (KeepsBut.refl _ _)).pif (by decide))) ?_)
    | refine (PortsQuiet.put (((KeepsBut.putWgt (ps := [.wgt]) _ (by decide) (KeepsBut.refl _ _)).pif (by decide))) ?_))

theorem State.ageGusts_quiet (s : State) :
    PortsQuiet s (State.ageGusts s) := by
  simp only [State.ageGusts]
  repeat' (first
    | with_reducible exact PortsQuiet.refl _
    | with_reducible refine PortsQuiet.trans ?_ (PortsQuiet.foldl _ (fun _ _ => ?_) _ _)
    | with_reducible refine (State.raiseGust_quiet ..).andThen ?_
    | exact PortsQuiet.ofPif rfl
    | refine (PortsQuiet.put (((KeepsBut.putFlc (ps := [.flc]) _ (by decide) (KeepsBut.refl _ _)).pif (by decide))) ?_)
    | refine (PortsQuiet.put (((KeepsBut.putWgt (ps := [.wgt]) _ (by decide) (KeepsBut.refl _ _)).pif (by decide))) ?_))

theorem State.chooseLead_quiet (s : State) :
    PortsQuiet s (State.chooseLead s) := by
  simp only [State.chooseLead]
  repeat' (first
    | with_reducible exact PortsQuiet.refl _
    | with_reducible refine (State.updateBlind_quiet ..).andThen ?_
    | exact PortsQuiet.ofPif rfl
    | refine (PortsQuiet.put (((KeepsBut.putWgt (ps := [.wgt]) _ (by decide) (KeepsBut.refl _ _)).pif (by decide))) ?_))

theorem State.closeWind_quiet (s : State) :
    PortsQuiet s (State.closeWind s) := by
  simp only [State.closeWind]
  repeat' (first
    | with_reducible exact PortsQuiet.refl _
    | with_reducible refine (State.chooseLead_quiet ..).andThen ?_
    | with_reducible refine (State.ageGusts_quiet ..).andThen ?_
    | with_reducible refine (State.closeGusts_quiet ..).andThen ?_
    | with_reducible refine (State.gustMembership_quiet ..).andThen ?_
    | with_reducible refine PortsQuiet.put ((State.countGusts_keeps ..).pif (by decide)) ?_
    | with_reducible refine PortsQuiet.put ((State.pushMasts_keeps ..).pif (by decide)) ?_
    | with_reducible refine PortsQuiet.put ((State.judgeMasts_keeps ..).pif (by decide)) ?_
    | exact PortsQuiet.ofPif rfl
    | refine (PortsQuiet.put (((KeepsBut.putFlc (ps := [.flc]) _ (by decide) (KeepsBut.refl _ _)).pif (by decide))) ?_)
    | refine (PortsQuiet.put (((KeepsBut.putWgt (ps := [.wgt]) _ (by decide) (KeepsBut.refl _ _)).pif (by decide))) ?_))

theorem State.leaveGusts_quiet (slot : Nat) (s : State) :
    PortsQuiet s (State.leaveGusts slot s) := by
  simp only [State.leaveGusts]
  repeat' (first
    | with_reducible exact PortsQuiet.refl _
    | with_reducible refine PortsQuiet.trans ?_ (PortsQuiet.foldl _ (fun _ _ => ?_) _ _)
    | with_reducible refine (State.raiseGust_quiet ..).andThen ?_
    | exact PortsQuiet.ofPif rfl
    | refine (PortsQuiet.put (((KeepsBut.putFlc (ps := [.flc]) _ (by decide) (KeepsBut.refl _ _)).pif (by decide))) ?_)
    | refine (PortsQuiet.put (((KeepsBut.putWgt (ps := [.wgt]) _ (by decide) (KeepsBut.refl _ _)).pif (by decide))) ?_))

theorem State.applyMast_quiet (slot : Nat) (before : Option (Kind × Identity)) (after : Option (Kind × Identity)) (s : State) :
    PortsQuiet s (State.applyMast slot before after s) := by
  simp only [State.applyMast]
  repeat' (first
    | with_reducible exact PortsQuiet.refl _
    | split
    | with_reducible refine (State.leaveGusts_quiet ..).andThen ?_
    | with_reducible refine PortsQuiet.put ((State.updMast_keeps ..).pif (by decide)) ?_
    | with_reducible refine PortsQuiet.put ((State.createMast_keeps ..).pif (by decide)) ?_
    | with_reducible refine PortsQuiet.put ((State.dropMast_keeps ..).pif (by decide)) ?_
    | exact PortsQuiet.ofPif rfl)

theorem State.restartWind_quiet (s : State) :
    PortsQuiet s (State.restartWind s) := by
  simp only [State.restartWind]
  repeat' (first
    | with_reducible exact PortsQuiet.refl _
    | split
    | with_reducible refine (State.raise_quiet ..).andThen ?_
    | exact PortsQuiet.ofPif rfl
    | refine (PortsQuiet.put (((KeepsBut.putFlc (ps := [.flc]) _ (by decide) (KeepsBut.refl _ _)).pif (by decide))) ?_)
    | refine (PortsQuiet.put (((KeepsBut.putWgt (ps := [.wgt]) _ (by decide) (KeepsBut.refl _ _)).pif (by decide))) ?_))

theorem State.noticeGauges_quiet (before : Nat) (s : State) :
    PortsQuiet s (State.noticeGauges before s) := by
  simp only [State.noticeGauges]
  repeat' (first
    | with_reducible exact PortsQuiet.refl _
    | split
    | with_reducible refine (State.raise_quiet ..).andThen ?_)

theorem State.changeBand_quiet (new : Band) (reason : BandReason) (s : State) :
    PortsQuiet s (State.changeBand new reason s) := by
  simp only [State.changeBand]
  repeat' (first
    | with_reducible exact PortsQuiet.refl _
    | with_reducible refine (State.raise_quiet ..).andThen ?_
    | exact PortsQuiet.ofPif rfl
    | refine (PortsQuiet.put (((KeepsBut.putFlc (ps := [.flc]) _ (by decide) (KeepsBut.refl _ _)).pif (by decide))) ?_)
    | refine (PortsQuiet.put (((KeepsBut.putSpm (ps := [.spm]) _ (by decide) (KeepsBut.refl _ _)).pif (by decide))) ?_))

theorem State.actCandidate_quiet (c : Band) (s : State) :
    PortsQuiet s (State.actCandidate c s) := by
  simp only [State.actCandidate]
  repeat' (first
    | with_reducible exact PortsQuiet.refl _
    | split
    | with_reducible refine (State.changeBand_quiet ..).andThen ?_
    | exact PortsQuiet.ofPif rfl
    | refine (PortsQuiet.put (((KeepsBut.putSpm (ps := [.spm]) _ (by decide) (KeepsBut.refl _ _)).pif (by decide))) ?_))

theorem State.noGaugeClose_quiet (s : State) :
    PortsQuiet s (State.noGaugeClose s) := by
  simp only [State.noGaugeClose]
  repeat' (first
    | with_reducible exact PortsQuiet.refl _
    | split
    | with_reducible refine (State.changeBand_quiet ..).andThen ?_
    | exact PortsQuiet.ofPif rfl
    | refine (PortsQuiet.put (((KeepsBut.putSpm (ps := [.spm]) _ (by decide) (KeepsBut.refl _ _)).pif (by decide))) ?_))

theorem State.evaluateBand_quiet (s : State) :
    PortsQuiet s (State.evaluateBand s) := by
  simp only [State.evaluateBand]
  repeat' (first
    | with_reducible exact PortsQuiet.refl _
    | split
    | with_reducible refine (State.noGaugeClose_quiet ..).andThen ?_
    | with_reducible refine (State.actCandidate_quiet ..).andThen ?_
    | exact PortsQuiet.ofPif rfl
    | refine (PortsQuiet.put (((KeepsBut.putSpm (ps := [.spm]) _ (by decide) (KeepsBut.refl _ _)).pif (by decide))) ?_)
    | refine (PortsQuiet.put (((KeepsBut.putCau (ps := [.cau]) _ (by decide) (KeepsBut.refl _ _)).pif (by decide))) ?_))

theorem State.closeSite_quiet (s : State) :
    PortsQuiet s (State.closeSite s) := by
  simp only [State.closeSite]
  repeat' (first
    | with_reducible exact PortsQuiet.refl _
    | with_reducible refine (State.evaluateBand_quiet ..).andThen ?_
    | with_reducible refine (State.noticeGauges_quiet ..).andThen ?_
    | with_reducible refine PortsQuiet.put ((State.ageSite_keeps ..).pif (by decide)) ?_
    | exact PortsQuiet.ofPif rfl
    | refine (PortsQuiet.put (((KeepsBut.putSpm (ps := [.spm]) _ (by decide) (KeepsBut.refl _ _)).pif (by decide))) ?_)
    | refine (PortsQuiet.put (((KeepsBut.putCau (ps := [.cau]) _ (by decide) (KeepsBut.refl _ _)).pif (by decide))) ?_))

theorem State.storePile_quiet (n : Nat) (v : PileValues) (estimated : Bool) (leadMean : Nat) (s : State) :
    PortsQuiet s (State.storePile n v estimated leadMean s) := by
  simp only [State.storePile]
  repeat' (first
    | with_reducible exact PortsQuiet.refl _
    | split
    | with_reducible refine (State.raise_quiet ..).andThen ?_
    | with_reducible refine PortsQuiet.put ((State.updPile_keeps ..).pif (by decide)) ?_
    | exact PortsQuiet.ofPif rfl
    | refine (PortsQuiet.put (((KeepsBut.putFlc (ps := [.flc]) _ (by decide) (KeepsBut.refl _ _)).pif (by decide))) ?_)
    | refine (PortsQuiet.put (((KeepsBut.putCau (ps := [.cau]) _ (by decide) (KeepsBut.refl _ _)).pif (by decide))) ?_))

theorem reportWettingCommand_quiet (pile : Byte) (a : Asked) (s : State) :
    PortsQuiet s (reportWettingCommand pile a s) := by
  simp only [reportWettingCommand]
  repeat' (first
    | with_reducible exact PortsQuiet.refl _
    | split
    | with_reducible refine (State.replyRange_quiet ..).andThen ?_
    | with_reducible refine (State.reply_quiet ..).andThen ?_
    | with_reducible refine PortsQuiet.put ((State.updPile_keeps ..).pif (by decide)) ?_
    | exact PortsQuiet.ofPif rfl
    | refine (PortsQuiet.put (((KeepsBut.putFlc (ps := [.flc]) _ (by decide) (KeepsBut.refl _ _)).pif (by decide))) ?_)
    | refine (PortsQuiet.put (((KeepsBut.putWrl (ps := [.wrl]) _ (by decide) (KeepsBut.refl _ _)).pif (by decide))) ?_))

theorem reportActivityCommand_quiet (pile : Byte) (activity : Byte) (a : Asked) (s : State) :
    PortsQuiet s (reportActivityCommand pile activity a s) := by
  simp only [reportActivityCommand]
  repeat' (first
    | with_reducible exact PortsQuiet.refl _
    | split
    | with_reducible refine (State.replyRange_quiet ..).andThen ?_
    | with_reducible refine (State.reply_quiet ..).andThen ?_
    | with_reducible refine PortsQuiet.put ((State.updPile_keeps ..).pif (by decide)) ?_
    | exact PortsQuiet.ofPif rfl)

theorem State.raiseStation_quiet (cls : NoticeClass) (cause : StationCause) (slot : Nat) (s : State) :
    PortsQuiet s (State.raiseStation cls cause slot s) := by
  simp only [State.raiseStation]
  repeat' (first
    | with_reducible exact PortsQuiet.refl _
    | split
    | with_reducible refine (State.raise_quiet ..).andThen ?_
    | exact PortsQuiet.ofPif rfl
    | refine (PortsQuiet.put (((KeepsBut.putFlc (ps := [.flc]) _ (by decide) (KeepsBut.refl _ _)).pif (by decide))) ?_))

theorem State.delivered_quiet (slot : Nat) (f : StationFrame) (heardA : Bool) (heardB : Bool) (s : State) :
    PortsQuiet s (State.delivered slot f heardA heardB s) := by
  simp only [State.delivered]
  repeat' (first
    | with_reducible exact PortsQuiet.refl _
    | split
    | with_reducible refine (State.raiseStation_quiet ..).andThen ?_
    | with_reducible refine PortsQuiet.put ((State.updStation_keeps ..).pif (by decide)) ?_
    | with_reducible refine PortsQuiet.put ((State.revoke_keeps ..).pif (by decide)) ?_
    | with_reducible refine PortsQuiet.put ((State.handOff_keeps ..).pif (by decide)) ?_
    | exact PortsQuiet.ofPif rfl
    | refine (PortsQuiet.put (((KeepsBut.putFlc (ps := [.flc]) _ (by decide) (KeepsBut.refl _ _)).pif (by decide))) ?_))

theorem State.loseStation_quiet (slot : Nat) (s : State) :
    PortsQuiet s (State.loseStation slot s) := by
  simp only [State.loseStation]
  repeat' (first
    | with_reducible exact PortsQuiet.refl _
    | with_reducible refine (State.raiseStation_quiet ..).andThen ?_
    | with_reducible refine PortsQuiet.put ((State.updStation_keeps ..).pif (by decide)) ?_
    | with_reducible refine PortsQuiet.put ((State.revoke_keeps ..).pif (by decide)) ?_
    | exact PortsQuiet.ofPif rfl)

theorem State.quietStation_quiet (slot : Nat) (s : State) :
    PortsQuiet s (State.quietStation slot s) := by
  simp only [State.quietStation]
  repeat' (first
    | with_reducible exact PortsQuiet.refl _
    | with_reducible refine (State.raiseStation_quiet ..).andThen ?_
    | with_reducible refine PortsQuiet.put ((State.updStation_keeps ..).pif (by decide)) ?_
    | with_reducible refine PortsQuiet.put ((State.revoke_keeps ..).pif (by decide)) ?_
    | exact PortsQuiet.ofPif rfl)

theorem State.missed_quiet (slot : Nat) (s : State) :
    PortsQuiet s (State.missed slot s) := by
  simp only [State.missed]
  repeat' (first
    | with_reducible exact PortsQuiet.refl _
    | split
    | with_reducible refine (State.quietStation_quiet ..).andThen ?_
    | with_reducible refine (State.loseStation_quiet ..).andThen ?_
    | with_reducible refine PortsQuiet.put ((State.updStation_keeps ..).pif (by decide)) ?_
    | exact PortsQuiet.ofPif rfl)

theorem State.strangerAnnounce_quiet (a : Announce) (s : State) :
    PortsQuiet s (State.strangerAnnounce a s) := by
  simp only [State.strangerAnnounce]
  repeat' (first
    | with_reducible exact PortsQuiet.refl _
    | split
    | with_reducible refine (State.raise_quiet ..).andThen ?_
    | exact PortsQuiet.ofPif rfl
    | refine (PortsQuiet.put (((KeepsBut.putFlc (ps := [.flc]) _ (by decide) (KeepsBut.refl _ _)).pif (by decide))) ?_)
    | refine (PortsQuiet.put (((KeepsBut.putSrg (ps := [.srg]) _ (by decide) (KeepsBut.refl _ _)).pif (by decide))) ?_)
    | refine (PortsQuiet.put (((KeepsBut.putWrl (ps := [.wrl]) _ (by decide) (KeepsBut.refl _ _)).pif (by decide))) ?_))

theorem State.takeAnnounce_quiet (a : Announce) (s : State) :
    PortsQuiet s (State.takeAnnounce a s) := by
  simp only [State.takeAnnounce]
  repeat' (first
    | with_reducible exact PortsQuiet.refl _
    | split
    | with_reducible refine (State.strangerAnnounce_quiet ..).andThen ?_
    | with_reducible refine (State.raiseStation_quiet ..).andThen ?_
    | with_reducible refine PortsQuiet.put ((State.updStation_keeps ..).pif (by decide)) ?_
    | with_reducible refine PortsQuiet.put ((State.enqueue_keeps ..).pif (by decide)) ?_
    | exact PortsQuiet.ofPif rfl
    | refine (PortsQuiet.put (((KeepsBut.putFlc (ps := [.flc]) _ (by decide) (KeepsBut.refl _ _)).pif (by decide))) ?_)
    | refine (PortsQuiet.put (((KeepsBut.putSrg (ps := [.srg]) _ (by decide) (KeepsBut.refl _ _)).pif (by decide))) ?_))

theorem State.takeAnnounces_quiet (l : List Announce) (s : State) :
    PortsQuiet s (State.takeAnnounces l s) := by
  simp only [State.takeAnnounces]
  repeat' (first
    | with_reducible exact PortsQuiet.refl _
    | with_reducible refine PortsQuiet.trans ?_ (PortsQuiet.foldl _ (fun _ _ => ?_) _ _)
    | with_reducible refine (State.takeAnnounce_quiet ..).andThen ?_)

theorem State.lapseSlot_quiet (slot : Nat) (s : State) :
    PortsQuiet s (State.lapseSlot slot s) := by
  simp only [State.lapseSlot]
  repeat' (first
    | with_reducible exact PortsQuiet.refl _
    | split
    | with_reducible refine (State.raiseStation_quiet ..).andThen ?_
    | with_reducible refine PortsQuiet.put ((State.updStation_keeps ..).pif (by decide)) ?_
    | with_reducible refine PortsQuiet.put ((State.revoke_keeps ..).pif (by decide)) ?_
    | exact PortsQuiet.ofPif rfl
    | refine (PortsQuiet.put (((KeepsBut.putFlc (ps := [.flc]) _ (by decide) (KeepsBut.refl _ _)).pif (by decide))) ?_))

theorem State.lapseGrants_quiet (s : State) :
    PortsQuiet s (State.lapseGrants s) := by
  simp only [State.lapseGrants]
  repeat' (first
    | with_reducible exact PortsQuiet.refl _
    | with_reducible refine PortsQuiet.trans ?_ (PortsQuiet.foldl _ (fun _ _ => ?_) _ _)
    | with_reducible refine (State.lapseSlot_quiet ..).andThen ?_)

theorem State.ackToSilent_quiet (slot : Nat) (s : State) :
    PortsQuiet s (State.ackToSilent slot s) := by
  simp only [State.ackToSilent]
  repeat' (first
    | with_reducible exact PortsQuiet.refl _
    | with_reducible refine (State.missed_quiet ..).andThen ?_
    | with_reducible refine (State.raiseStation_quiet ..).andThen ?_
    | with_reducible refine PortsQuiet.put ((State.updStation_keeps ..).pif (by decide)) ?_
    | exact PortsQuiet.ofPif rfl)

theorem State.ackToQueue_quiet (slot : Nat) (s : State) :
    PortsQuiet s (State.ackToQueue slot s) := by
  simp only [State.ackToQueue]
  repeat' (first
    | with_reducible exact PortsQuiet.refl _
    | with_reducible refine (State.raiseStation_quiet ..).andThen ?_
    | with_reducible refine PortsQuiet.put ((State.updStation_keeps ..).pif (by decide)) ?_
    | with_reducible refine PortsQuiet.put ((State.enqueue_keeps ..).pif (by decide)) ?_)

theorem ackLossCommand_quiet (slot : Byte) (a : Asked) (s : State) :
    PortsQuiet s (ackLossCommand slot a s) := by
  simp only [ackLossCommand]
  repeat' (first
    | with_reducible exact PortsQuiet.refl _
    | split
    | with_reducible refine (State.ackToQueue_quiet ..).andThen ?_
    | with_reducible refine (State.ackToSilent_quiet ..).andThen ?_
    | with_reducible refine (State.replyRange_quiet ..).andThen ?_
    | with_reducible refine (State.reply_quiet ..).andThen ?_
    | exact PortsQuiet.ofPif rfl
    | refine (PortsQuiet.put (((KeepsBut.putSrg (ps := [.srg]) _ (by decide) (KeepsBut.refl _ _)).pif (by decide))) ?_))

theorem State.assessPile_quiet (n : Nat) (s : State) :
    PortsQuiet s (State.assessPile n s) := by
  simp only [State.assessPile]
  repeat' (first
    | with_reducible exact PortsQuiet.refl _
    | split
    | with_reducible refine (State.storePile_quiet ..).andThen ?_
    | with_reducible refine PortsQuiet.put ((State.putWind_keeps ..).pif (by decide)) ?_
    | exact PortsQuiet.ofPif rfl
    | refine (PortsQuiet.put (((KeepsBut.putWgt (ps := [.wgt]) _ (by decide) (KeepsBut.refl _ _)).pif (by decide))) ?_)
    | refine (PortsQuiet.put (((KeepsBut.putCau (ps := [.cau]) _ (by decide) (KeepsBut.refl _ _)).pif (by decide))) ?_))

theorem State.assessPiles_quiet (s : State) :
    PortsQuiet s (State.assessPiles s) := by
  simp only [State.assessPiles]
  repeat' (first
    | with_reducible exact PortsQuiet.refl _
    | with_reducible refine PortsQuiet.trans ?_ (PortsQuiet.foldl _ (fun _ _ => ?_) _ _)
    | with_reducible refine (State.assessPile_quiet ..).andThen ?_)

theorem State.deliverZones_quiet (s : State) :
    PortsQuiet s (State.deliverZones s) := by
  simp only [State.deliverZones]
  repeat' (first
    | with_reducible exact PortsQuiet.refl _
    | with_reducible refine PortsQuiet.trans ?_ (PortsQuiet.foldl _ (fun _ _ => ?_) _ _)
    | with_reducible refine (State.deliverRisk_quiet ..).andThen ?_)

theorem State.assess_quiet (s : State) :
    PortsQuiet s (State.assess s) := by
  simp only [State.assess]
  repeat' (first
    | with_reducible exact PortsQuiet.refl _
    | split
    | with_reducible refine (State.deliverZones_quiet ..).andThen ?_
    | with_reducible refine (State.assessPiles_quiet ..).andThen ?_
    | with_reducible refine PortsQuiet.put ((State.assessPaths_keeps ..).pif (by decide)) ?_
    | with_reducible refine PortsQuiet.put ((State.assessZones_keeps ..).pif (by decide)) ?_)

theorem State.raiseLoop_quiet (cls : NoticeClass) (round : Round) (s : State) :
    PortsQuiet s (State.raiseLoop cls round s) := by
  simp only [State.raiseLoop]
  repeat' (first
    | with_reducible exact PortsQuiet.refl _
    | with_reducible refine (State.raise_quiet ..).andThen ?_)

theorem State.hearForeign_quiet (s : State) :
    PortsQuiet s (State.hearForeign s) := by
  simp only [State.hearForeign]
  repeat' (first
    | with_reducible exact PortsQuiet.refl _
    | split
    | with_reducible refine (State.raiseLoop_quiet ..).andThen ?_
    | exact PortsQuiet.ofPif rfl
    | refine (PortsQuiet.put (((KeepsBut.putFlc (ps := [.flc]) _ (by decide) (KeepsBut.refl _ _)).pif (by decide))) ?_))

theorem State.listenCopy_quiet (bytes : List Byte) (s : State) :
    PortsQuiet s (State.listenCopy bytes s) := by
  simp only [State.listenCopy]
  repeat' (first
    | with_reducible exact PortsQuiet.refl _
    | split
    | with_reducible refine (State.hearForeign_quiet ..).andThen ?_
    | exact PortsQuiet.ofPif rfl)

theorem State.takeCopy_quiet (side : Side) (w : Window) (ending : CopyEnd) (bytes : List Byte) (s : State) :
    PortsQuiet s (State.takeCopy side w ending bytes s) := by
  simp only [State.takeCopy]
  repeat' (first
    | with_reducible exact PortsQuiet.refl _
    | split
    | with_reducible refine (State.listenCopy_quiet ..).andThen ?_
    | with_reducible refine PortsQuiet.put ((State.roundCopy_keeps ..).pif (by decide)) ?_
    | exact PortsQuiet.ofPif rfl
    | refine (PortsQuiet.put (((KeepsBut.putFlc (ps := [.flc]) _ (by decide) (KeepsBut.refl _ _)).pif (by decide))) ?_))

theorem State.endListen_quiet (s : State) :
    PortsQuiet s (State.endListen s) := by
  simp only [State.endListen]
  repeat' (first
    | with_reducible exact PortsQuiet.refl _
    | split
    | with_reducible refine (State.raiseLoop_quiet ..).andThen ?_
    | with_reducible refine PortsQuiet.put ((State.reach_keeps ..).pif (by decide)) ?_
    | with_reducible refine PortsQuiet.put ((State.beginRound_keeps ..).pif (by decide)) ?_
    | exact PortsQuiet.ofPif rfl
    | refine (PortsQuiet.put (((KeepsBut.putFlc (ps := [.flc]) _ (by decide) (KeepsBut.refl _ _)).pif (by decide))) ?_))

theorem State.passVerdict_quiet (n : Nat) (ring : Nat) (v : Verdict) (s : State) :
    PortsQuiet s (State.passVerdict n ring v s) := by
  simp only [State.passVerdict]
  repeat' (first
    | with_reducible exact PortsQuiet.refl _
    | split
    | with_reducible refine (State.missed_quiet ..).andThen ?_
    | with_reducible refine (State.delivered_quiet ..).andThen ?_
    | with_reducible refine PortsQuiet.put ((State.noteVerdict_keeps ..).pif (by decide)) ?_
    | exact PortsQuiet.ofPif rfl
    | refine (PortsQuiet.put (((KeepsBut.putFlc (ps := [.flc]) _ (by decide) (KeepsBut.refl _ _)).pif (by decide))) ?_))

theorem State.endSlot_quiet (n : Nat) (s : State) :
    PortsQuiet s (State.endSlot n s) := by
  simp only [State.endSlot]
  repeat' (first
    | with_reducible exact PortsQuiet.refl _
    | split
    | with_reducible refine (State.passVerdict_quiet ..).andThen ?_
    | with_reducible refine PortsQuiet.put ((State.reach_keeps ..).pif (by decide)) ?_
    | exact PortsQuiet.ofPif rfl
    | refine (PortsQuiet.put (((KeepsBut.putFlc (ps := [.flc]) _ (by decide) (KeepsBut.refl _ _)).pif (by decide))) ?_))

theorem State.decideMode_quiet (s : State) :
    PortsQuiet s (State.decideMode s) := by
  simp only [State.decideMode]
  repeat' (first
    | with_reducible exact PortsQuiet.refl _
    | split
    | with_reducible refine (State.raiseLoop_quiet ..).andThen ?_
    | exact PortsQuiet.ofPif rfl
    | refine (PortsQuiet.put (((KeepsBut.putFlc (ps := [.flc]) _ (by decide) (KeepsBut.refl _ _)).pif (by decide))) ?_))

theorem State.closeLoop_quiet (s : State) :
    PortsQuiet s (State.closeLoop s) := by
  simp only [State.closeLoop]
  repeat' (first
    | with_reducible exact PortsQuiet.refl _
    | with_reducible refine (State.decideMode_quiet ..).andThen ?_
    | with_reducible refine (State.lapseGrants_quiet ..).andThen ?_
    | with_reducible refine (State.takeAnnounces_quiet ..).andThen ?_
    | exact PortsQuiet.ofPif rfl
    | refine (PortsQuiet.put (((KeepsBut.putFlc (ps := [.flc]) _ (by decide) (KeepsBut.refl _ _)).pif (by decide))) ?_))

theorem State.raiseConfig_quiet (event : ConfigEvent) (owner : Option Port) (items : Nat) (s : State) :
    PortsQuiet s (State.raiseConfig event owner items s) := by
  simp only [State.raiseConfig]
  repeat' (first
    | with_reducible exact PortsQuiet.refl _
    | with_reducible refine (State.raise_quiet ..).andThen ?_)

theorem State.freeSet_quiet (event : ConfigEvent) (s : State) :
    PortsQuiet s (State.freeSet event s) := by
  simp only [State.freeSet]
  repeat' (first
    | with_reducible exact PortsQuiet.refl _
    | with_reducible refine (State.raiseConfig_quiet ..).andThen ?_
    | exact PortsQuiet.ofPif rfl
    | refine (PortsQuiet.put (((KeepsBut.putCau (ps := [.cau]) _ (by decide) (KeepsBut.refl _ _)).pif (by decide))) ?_))

theorem State.claimSet_quiet (x : Item) (port : Port) (s : State) :
    PortsQuiet s (State.claimSet x port s) := by
  simp only [State.claimSet]
  repeat' (first
    | with_reducible exact PortsQuiet.refl _
    | with_reducible refine (State.raiseConfig_quiet ..).andThen ?_
    | exact PortsQuiet.ofPif rfl
    | refine (PortsQuiet.put (((KeepsBut.putCau (ps := [.cau]) _ (by decide) (KeepsBut.refl _ _)).pif (by decide))) ?_))

theorem State.stageOpen_quiet (item : List Byte) (a : Asked) (s : State) :
    PortsQuiet s (State.stageOpen item a s) := by
  simp only [State.stageOpen]
  repeat' (first
    | with_reducible exact PortsQuiet.refl _
    | split
    | with_reducible refine (State.replyRange_quiet ..).andThen ?_
    | with_reducible refine (State.reply_quiet ..).andThen ?_
    | with_reducible refine PortsQuiet.put ((State.restartIdle_keeps ..).pif (by decide)) ?_
    | exact PortsQuiet.ofPif rfl
    | refine (PortsQuiet.put (((KeepsBut.putCau (ps := [.cau]) _ (by decide) (KeepsBut.refl _ _)).pif (by decide))) ?_))

theorem stageCommand_quiet (item : List Byte) (a : Asked) (s : State) :
    PortsQuiet s (stageCommand item a s) := by
  simp only [stageCommand]
  repeat' (first
    | with_reducible exact PortsQuiet.refl _
    | split
    | with_reducible refine (State.stageOpen_quiet ..).andThen ?_
    | with_reducible refine (State.claimSet_quiet ..).andThen ?_
    | with_reducible refine (State.replyRange_quiet ..).andThen ?_
    | with_reducible refine (State.reply_quiet ..).andThen ?_
    | exact PortsQuiet.ofPif rfl
    | refine (PortsQuiet.put (((KeepsBut.putCau (ps := [.cau]) _ (by decide) (KeepsBut.refl _ _)).pif (by decide))) ?_))

theorem discardCommand_quiet (a : Asked) (s : State) :
    PortsQuiet s (discardCommand a s) := by
  simp only [discardCommand]
  repeat' (first
    | with_reducible exact PortsQuiet.refl _
    | split
    | with_reducible refine (State.freeSet_quiet ..).andThen ?_
    | with_reducible refine (State.reply_quiet ..).andThen ?_
    | exact PortsQuiet.ofPif rfl
    | refine (PortsQuiet.put (((KeepsBut.putCau (ps := [.cau]) _ (by decide) (KeepsBut.refl _ _)).pif (by decide))) ?_))

theorem State.proposeSet_quiet (s : State) :
    PortsQuiet s (State.proposeSet s) := by
  simp only [State.proposeSet]
  repeat' (first
    | with_reducible exact PortsQuiet.refl _
    | with_reducible refine (State.raiseConfig_quiet ..).andThen ?_
    | exact PortsQuiet.ofPif rfl
    | refine (PortsQuiet.put (((KeepsBut.putCau (ps := [.cau]) _ (by decide) (KeepsBut.refl _ _)).pif (by decide))) ?_))

theorem proposeCommand_quiet (a : Asked) (s : State) :
    PortsQuiet s (proposeCommand a s) := by
  simp only [proposeCommand]
  repeat' (first
    | with_reducible exact PortsQuiet.refl _
    | split
    | with_reducible refine (State.proposeSet_quiet ..).andThen ?_
    | with_reducible refine (State.reply_quiet ..).andThen ?_
    | exact PortsQuiet.ofPif rfl
    | refine (PortsQuiet.put (((KeepsBut.putCau (ps := [.cau]) _ (by decide) (KeepsBut.refl _ _)).pif (by decide))) ?_))

theorem State.acceptSet_quiet (s : State) :
    PortsQuiet s (State.acceptSet s) := by
  simp only [State.acceptSet]
  repeat' (first
    | with_reducible exact PortsQuiet.refl _
    | with_reducible refine (State.raiseConfig_quiet ..).andThen ?_
    | exact PortsQuiet.ofPif rfl
    | refine (PortsQuiet.put (((KeepsBut.putCau (ps := [.cau]) _ (by decide) (KeepsBut.refl _ _)).pif (by decide))) ?_))

theorem acceptCommand_quiet (n : Byte) (a : Asked) (s : State) :
    PortsQuiet s (acceptCommand n a s) := by
  simp only [acceptCommand]
  repeat' (first
    | with_reducible exact PortsQuiet.refl _
    | split
    | with_reducible refine (State.acceptSet_quiet ..).andThen ?_
    | with_reducible refine (State.replyRange_quiet ..).andThen ?_
    | with_reducible refine (State.reply_quiet ..).andThen ?_
    | exact PortsQuiet.ofPif rfl
    | refine (PortsQuiet.put (((KeepsBut.putCau (ps := [.cau]) _ (by decide) (KeepsBut.refl _ _)).pif (by decide))) ?_))

theorem refuseCommand_quiet (n : Byte) (a : Asked) (s : State) :
    PortsQuiet s (refuseCommand n a s) := by
  simp only [refuseCommand]
  repeat' (first
    | with_reducible exact PortsQuiet.refl _
    | split
    | with_reducible refine (State.freeSet_quiet ..).andThen ?_
    | with_reducible refine (State.replyRange_quiet ..).andThen ?_
    | with_reducible refine (State.reply_quiet ..).andThen ?_
    | exact PortsQuiet.ofPif rfl
    | refine (PortsQuiet.put (((KeepsBut.putCau (ps := [.cau]) _ (by decide) (KeepsBut.refl _ _)).pif (by decide))) ?_))

theorem State.restartSet_quiet (s : State) :
    PortsQuiet s (State.restartSet s) := by
  simp only [State.restartSet]
  repeat' (first
    | with_reducible exact PortsQuiet.refl _
    | split
    | with_reducible refine (State.freeSet_quiet ..).andThen ?_)

theorem State.silenceSet_quiet (port : Port) (s : State) :
    PortsQuiet s (State.silenceSet port s) := by
  simp only [State.silenceSet]
  repeat' (first
    | with_reducible exact PortsQuiet.refl _
    | split
    | with_reducible refine (State.freeSet_quiet ..).andThen ?_)

theorem State.expireIdle_quiet (s : State) :
    PortsQuiet s (State.expireIdle s) := by
  simp only [State.expireIdle]
  repeat' (first
    | with_reducible exact PortsQuiet.refl _
    | split
    | with_reducible refine (State.freeSet_quiet ..).andThen ?_
    | with_reducible refine PortsQuiet.put ((State.reach_keeps ..).pif (by decide)) ?_
    | exact PortsQuiet.ofPif rfl
    | refine (PortsQuiet.put (((KeepsBut.putCau (ps := [.cau]) _ (by decide) (KeepsBut.refl _ _)).pif (by decide))) ?_))

theorem State.expireProposal_quiet (s : State) :
    PortsQuiet s (State.expireProposal s) := by
  simp only [State.expireProposal]
  repeat' (first
    | with_reducible exact PortsQuiet.refl _
    | split
    | with_reducible refine (State.freeSet_quiet ..).andThen ?_
    | with_reducible refine PortsQuiet.put ((State.reach_keeps ..).pif (by decide)) ?_
    | exact PortsQuiet.ofPif rfl
    | refine (PortsQuiet.put (((KeepsBut.putCau (ps := [.cau]) _ (by decide) (KeepsBut.refl _ _)).pif (by decide))) ?_))

theorem State.changeOccupant_quiet (slot : Nat) (before : Option (Kind × Identity)) (after : Option (Kind × Identity)) (s : State) :
    PortsQuiet s (State.changeOccupant slot before after s) := by
  simp only [State.changeOccupant]
  repeat' (first
    | with_reducible exact PortsQuiet.refl _
    | with_reducible refine (State.applyMast_quiet ..).andThen ?_
    | with_reducible refine PortsQuiet.put ((State.applyGauge_keeps ..).pif (by decide)) ?_
    | with_reducible refine PortsQuiet.put ((State.applyMonitor_keeps ..).pif (by decide)) ?_)

theorem State.applyRemoval_quiet (k : ItemKey) (s : State) :
    PortsQuiet s (State.applyRemoval k s) := by
  simp only [State.applyRemoval]
  repeat' (first
    | with_reducible exact PortsQuiet.refl _
    | split
    | with_reducible refine (State.changeOccupant_quiet ..).andThen ?_
    | with_reducible refine PortsQuiet.put ((State.dropZone_keeps ..).pif (by decide)) ?_
    | with_reducible refine PortsQuiet.put ((State.dropPile_keeps ..).pif (by decide)) ?_
    | with_reducible refine PortsQuiet.put ((State.dropStation_keeps ..).pif (by decide)) ?_
    | with_reducible refine PortsQuiet.put ((State.dropPath_keeps ..).pif (by decide)) ?_
    | with_reducible refine PortsQuiet.put ((State.dropZoneResult_keeps ..).pif (by decide)) ?_
    | with_reducible refine PortsQuiet.put ((State.dropWind_keeps ..).pif (by decide)) ?_
    | exact PortsQuiet.ofPif rfl)

theorem State.applyOut_quiet (s : State) (x : Item) :
    PortsQuiet s (State.applyOut s x) := by
  simp only [State.applyOut]
  repeat' (first
    | with_reducible exact PortsQuiet.refl _
    | split
    | with_reducible refine (State.applyRemoval_quiet ..).andThen ?_
    | exact PortsQuiet.ofPif rfl)

theorem State.applyPut_quiet (s : State) (x : Item) :
    PortsQuiet s (State.applyPut s x) := by
  simp only [State.applyPut]
  repeat' (first
    | with_reducible exact PortsQuiet.refl _
    | split
    | with_reducible refine (State.changeOccupant_quiet ..).andThen ?_
    | with_reducible refine (State.applyZone_quiet ..).andThen ?_
    | with_reducible refine PortsQuiet.put ((State.applyPile_keeps ..).pif (by decide)) ?_
    | with_reducible refine PortsQuiet.put ((State.applyStation_keeps ..).pif (by decide)) ?_
    | with_reducible refine PortsQuiet.put ((State.applyPath_keeps ..).pif (by decide)) ?_
    | with_reducible refine PortsQuiet.put ((State.applyZoneResult_keeps ..).pif (by decide)) ?_
    | with_reducible refine PortsQuiet.put ((State.applyWind_keeps ..).pif (by decide)) ?_
    | exact PortsQuiet.ofPif rfl
    | refine (PortsQuiet.put (((KeepsBut.putCau (ps := [.cau]) _ (by decide) (KeepsBut.refl _ _)).pif (by decide))) ?_))

theorem State.applyItems_quiet (items : List Item) (s : State) :
    PortsQuiet s (State.applyItems items s) := by
  simp only [State.applyItems]
  repeat' (first
    | with_reducible exact PortsQuiet.refl _
    | with_reducible refine PortsQuiet.trans ?_ (PortsQuiet.foldl _ (fun _ _ => ?_) _ _)
    | with_reducible refine (State.applyPut_quiet ..).andThen ?_
    | with_reducible refine (State.applyOut_quiet ..).andThen ?_)

theorem State.applyGood_quiet (s : State) :
    PortsQuiet s (State.applyGood s) := by
  simp only [State.applyGood]
  repeat' (first
    | with_reducible exact PortsQuiet.refl _
    | with_reducible refine (State.applyItems_quiet ..).andThen ?_
    | with_reducible refine (State.freeSet_quiet ..).andThen ?_
    | with_reducible refine PortsQuiet.put ((State.record_keeps ..).pif (by decide)) ?_)

theorem State.applySet_quiet (s : State) :
    PortsQuiet s (State.applySet s) := by
  simp only [State.applySet]
  repeat' (first
    | with_reducible exact PortsQuiet.refl _
    | split
    | with_reducible refine (State.applyGood_quiet ..).andThen ?_
    | with_reducible refine (State.freeSet_quiet ..).andThen ?_
    | exact PortsQuiet.ofPif rfl
    | refine (PortsQuiet.put (((KeepsBut.putCau (ps := [.cau]) _ (by decide) (KeepsBut.refl _ _)).pif (by decide))) ?_))

theorem statusCommand_quiet (a : Asked) (s : State) :
    PortsQuiet s (statusCommand a s) := by
  simp only [statusCommand]
  repeat' (first
    | with_reducible exact PortsQuiet.refl _
    | with_reducible refine (State.reply_quiet ..).andThen ?_
    | with_reducible refine (State.clearDropped_quiet ..).andThen ?_
    | exact PortsQuiet.ofPif rfl)

theorem readZoneCommand_quiet (zone : Byte) (a : Asked) (s : State) :
    PortsQuiet s (readZoneCommand zone a s) := by
  simp only [readZoneCommand]
  repeat' (first
    | with_reducible exact PortsQuiet.refl _
    | split
    | with_reducible refine (State.replyRange_quiet ..).andThen ?_
    | with_reducible refine (State.reply_quiet ..).andThen ?_
    | exact PortsQuiet.ofPif rfl)

theorem readPileCommand_quiet (a : Asked) (s : State) :
    PortsQuiet s (readPileCommand a s) := by
  simp only [readPileCommand]
  repeat' (first
    | with_reducible exact PortsQuiet.refl _
    | with_reducible refine (State.reply_quiet ..).andThen ?_)

theorem readStationsCommand_quiet (a : Asked) (s : State) :
    PortsQuiet s (readStationsCommand a s) := by
  simp only [readStationsCommand]
  repeat' (first
    | with_reducible exact PortsQuiet.refl _
    | with_reducible refine (State.reply_quiet ..).andThen ?_)

theorem readStrangersCommand_quiet (a : Asked) (s : State) :
    PortsQuiet s (readStrangersCommand a s) := by
  simp only [readStrangersCommand]
  repeat' (first
    | with_reducible exact PortsQuiet.refl _
    | with_reducible refine (State.reply_quiet ..).andThen ?_)

theorem readGustsCommand_quiet (a : Asked) (s : State) :
    PortsQuiet s (readGustsCommand a s) := by
  simp only [readGustsCommand]
  repeat' (first
    | with_reducible exact PortsQuiet.refl _
    | with_reducible refine (State.reply_quiet ..).andThen ?_)

theorem readPathsCommand_quiet (a : Asked) (s : State) :
    PortsQuiet s (readPathsCommand a s) := by
  simp only [readPathsCommand]
  repeat' (first
    | with_reducible exact PortsQuiet.refl _
    | with_reducible refine (State.reply_quiet ..).andThen ?_)

theorem readLoopCommand_quiet (a : Asked) (s : State) :
    PortsQuiet s (readLoopCommand a s) := by
  simp only [readLoopCommand]
  repeat' (first
    | with_reducible exact PortsQuiet.refl _
    | with_reducible refine (State.reply_quiet ..).andThen ?_)

theorem readPending_quiet (kind : Byte) (key1 : Byte) (key2 : Byte) (a : Asked) (s : State) :
    PortsQuiet s (readPending kind key1 key2 a s) := by
  simp only [readPending]
  repeat' (first
    | with_reducible exact PortsQuiet.refl _
    | split
    | with_reducible refine (State.replyRange_quiet ..).andThen ?_
    | with_reducible refine (State.reply_quiet ..).andThen ?_
    | exact PortsQuiet.ofPif rfl
    | refine (PortsQuiet.put (((KeepsBut.putCau (ps := [.cau]) _ (by decide) (KeepsBut.refl _ _)).pif (by decide))) ?_))

theorem readInForce_quiet (kind : Byte) (key1 : Byte) (key2 : Byte) (a : Asked) (s : State) :
    PortsQuiet s (readInForce kind key1 key2 a s) := by
  simp only [readInForce]
  repeat' (first
    | with_reducible exact PortsQuiet.refl _
    | split
    | with_reducible refine (State.replyRange_quiet ..).andThen ?_
    | with_reducible refine (State.reply_quiet ..).andThen ?_
    | exact PortsQuiet.ofPif rfl)

theorem readConfigItemCommand_quiet (source : Byte) (kind : Byte) (key1 : Byte) (key2 : Byte) (a : Asked) (s : State) :
    PortsQuiet s (readConfigItemCommand source kind key1 key2 a s) := by
  simp only [readConfigItemCommand]
  repeat' (first
    | with_reducible exact PortsQuiet.refl _
    | split
    | with_reducible refine (readInForce_quiet ..).andThen ?_
    | with_reducible refine (readPending_quiet ..).andThen ?_
    | with_reducible refine (State.replyRange_quiet ..).andThen ?_)

theorem readLogAtCommand_quiet (seq : Seq) (a : Asked) (s : State) :
    PortsQuiet s (readLogAtCommand seq a s) := by
  simp only [readLogAtCommand]
  repeat' (first
    | with_reducible exact PortsQuiet.refl _
    | split
    | with_reducible refine (State.reply_quiet ..).andThen ?_
    | exact PortsQuiet.ofPif rfl
    | refine (PortsQuiet.put (((KeepsBut.putWrl (ps := [.wrl]) _ (by decide) (KeepsBut.refl _ _)).pif (by decide))) ?_))

theorem readLogNextCommand_quiet (a : Asked) (s : State) :
    PortsQuiet s (readLogNextCommand a s) := by
  simp only [readLogNextCommand]
  repeat' (first
    | with_reducible exact PortsQuiet.refl _
    | with_reducible refine (State.replySegments_quiet ..).andThen ?_
    | exact PortsQuiet.ofPif rfl
    | refine (PortsQuiet.put (((KeepsBut.putWrl (ps := [.wrl]) _ (by decide) (KeepsBut.refl _ _)).pif (by decide))) ?_))

theorem State.restartBlocks_quiet (s : State) :
    PortsQuiet s (State.restartBlocks s) := by
  simp only [State.restartBlocks]
  repeat' (first
    | with_reducible exact PortsQuiet.refl _
    | with_reducible refine (State.restartSet_quiet ..).andThen ?_
    | with_reducible refine (State.restartWind_quiet ..).andThen ?_
    | with_reducible refine PortsQuiet.put ((State.restartZones_keeps ..).pif (by decide)) ?_
    | with_reducible refine PortsQuiet.put ((State.restartSite_keeps ..).pif (by decide)) ?_
    | with_reducible refine PortsQuiet.put ((State.restartStations_keeps ..).pif (by decide)) ?_
    | with_reducible refine PortsQuiet.put ((State.restartRisk_keeps ..).pif (by decide)) ?_)

theorem restartCommand_quiet (a : Asked) (s : State) :
    PortsQuiet s (restartCommand a s) := by
  simp only [restartCommand]
  repeat' (first
    | with_reducible exact PortsQuiet.refl _
    | with_reducible refine (State.restartBlocks_quiet ..).andThen ?_
    | with_reducible refine (State.reply_quiet ..).andThen ?_
    | with_reducible refine PortsQuiet.put ((State.restartLoop_keeps ..).pif (by decide)) ?_
    | with_reducible refine PortsQuiet.put ((State.markRestart_keeps ..).pif (by decide)) ?_)

theorem runCommand_quiet (c : Command) (a : Asked) (s : State) :
    PortsQuiet s (runCommand c a s) := by
  simp only [runCommand]
  repeat' (first
    | with_reducible exact PortsQuiet.refl _
    | split
    | with_reducible refine (restartCommand_quiet ..).andThen ?_
    | with_reducible refine (readLogNextCommand_quiet ..).andThen ?_
    | with_reducible refine (readLogAtCommand_quiet ..).andThen ?_
    | with_reducible refine (readConfigItemCommand_quiet ..).andThen ?_
    | with_reducible refine (readLoopCommand_quiet ..).andThen ?_
    | with_reducible refine (readPathsCommand_quiet ..).andThen ?_
    | with_reducible refine (readGustsCommand_quiet ..).andThen ?_
    | with_reducible refine (readStrangersCommand_quiet ..).andThen ?_
    | with_reducible refine (readStationsCommand_quiet ..).andThen ?_
    | with_reducible refine (readPileCommand_quiet ..).andThen ?_
    | with_reducible refine (readZoneCommand_quiet ..).andThen ?_
    | with_reducible refine (statusCommand_quiet ..).andThen ?_
    | with_reducible refine (refuseCommand_quiet ..).andThen ?_
    | with_reducible refine (acceptCommand_quiet ..).andThen ?_
    | with_reducible refine (proposeCommand_quiet ..).andThen ?_
    | with_reducible refine (discardCommand_quiet ..).andThen ?_
    | with_reducible refine (stageCommand_quiet ..).andThen ?_
    | with_reducible refine (ackLossCommand_quiet ..).andThen ?_
    | with_reducible refine (reportActivityCommand_quiet ..).andThen ?_
    | with_reducible refine (reportWettingCommand_quiet ..).andThen ?_
    | with_reducible refine (clearLineCommand_quiet ..).andThen ?_
    | with_reducible refine (testCommand_quiet ..).andThen ?_
    | with_reducible refine (serviceCommand_quiet ..).andThen ?_
    | with_reducible refine (silenceCommand_quiet ..).andThen ?_
    | with_reducible refine (ackAlertCommand_quiet ..).andThen ?_
    | with_reducible refine (floorCommand_quiet ..).andThen ?_
    | exact PortsQuiet.ofPif rfl)

theorem judgeCommand_quiet (c : Option Command) (a : Asked) (s : State) :
    PortsQuiet s (judgeCommand c a s) := by
  simp only [judgeCommand]
  repeat' (first
    | with_reducible exact PortsQuiet.refl _
    | split
    | with_reducible refine (runCommand_quiet ..).andThen ?_
    | with_reducible refine (State.reply_quiet ..).andThen ?_
    | exact PortsQuiet.ofPif rfl)

theorem State.closeBlocks_quiet (s : State) :
    PortsQuiet s (State.closeBlocks s) := by
  simp only [State.closeBlocks]
  repeat' (first
    | with_reducible exact PortsQuiet.refl _
    | with_reducible refine (State.applySet_quiet ..).andThen ?_
    | with_reducible refine (State.closeLoop_quiet ..).andThen ?_
    | with_reducible refine (State.assess_quiet ..).andThen ?_
    | with_reducible refine (State.closeSite_quiet ..).andThen ?_
    | with_reducible refine (State.closeWind_quiet ..).andThen ?_)

theorem State.closeRound_quiet (s : State) :
    PortsQuiet s (State.closeRound s) := by
  simp only [State.closeRound]
  repeat' (first
    | with_reducible exact PortsQuiet.refl _
    | split
    | with_reducible refine (State.closeBlocks_quiet ..).andThen ?_
    | with_reducible refine PortsQuiet.put ((State.reach_keeps ..).pif (by decide)) ?_
    | exact PortsQuiet.ofPif rfl
    | refine (PortsQuiet.put (((KeepsBut.putFlc (ps := [.flc]) _ (by decide) (KeepsBut.refl _ _)).pif (by decide))) ?_))

/-! ## The notices of a statement (R22, R130) -/

@[simp] theorem State.loopNoticed_none (n : LoopNotice) (s : State) : s.loopNoticed none n = s := rfl

@[simp] theorem State.loopNoticed_some (c : NoticeClass) (n : LoopNotice) (s : State) :
    s.loopNoticed (some c) n = s.raise c (.loop n) := rfl

/-- A LOOP notice changes the ports and nothing else, and no receiver. -/
theorem State.loopNoticed_spec (cls : Option NoticeClass) (n : LoopNotice) (s : State) :
    KeepsBut [.pif] s (s.loopNoticed cls n) ∧ PortsQuiet s (s.loopNoticed cls n) := by
  cases cls with
  | none => exact ⟨KeepsBut.refl _ _, PortsQuiet.refl _⟩
  | some c => exact ⟨State.raise_keeps .., State.raise_quiet ..⟩

/-- DARK judged again changes the ports and nothing else, and no receiver. -/
theorem State.darkNoticed_spec (z : Zone) (dark : Bool) (s : State) :
    KeepsBut [.pif] s (s.darkNoticed z dark) ∧ PortsQuiet s (s.darkNoticed z dark) := by
  unfold State.darkNoticed
  split
  · exact ⟨KeepsBut.refl _ _, PortsQuiet.refl _⟩
  · exact ⟨State.raise_keeps .., State.raise_quiet ..⟩

/-- DARK judged as it was raises no notice. -/
@[simp] theorem State.darkNoticed_same (z : Zone) (s : State) : s.darkNoticed z z.dark = s := by
  simp [State.darkNoticed]

end Sys2Proof.Machine
end

