-- ==== Sys2Proof/Laws/Rows.lean ====
section
/-! SUPPORT. What a row of the table that a master sends comes to: the holding, the judgement, the owner. -/

namespace Sys2Proof.Machine

/-- Every command's row is the issue of the command. -/
theorem exec_rowOf (port : Port) (tag : Byte) (c : Command) (s : State) :
    exec (rowOf port tag c) s = .next (s.issue port tag c) := by cases c <;> rfl

/-- A row is judged with its asking port held. -/
theorem State.issue_eq (port : Port) (tag : Byte) (c : Command) (s : State) :
    s.issue port tag c = judgeCommand c.formatted (rowAsked s port tag c) (s.held port (c.content tag)) := by
  unfold State.issue State.held rowAsked
  split <;> rename_i h <;> simp [h]

/-- A row whose tag, format and role are right reaches its owner (R173). -/
theorem State.issue_runs (port : Port) (tag : Byte) (c : Command) (s : State) (ht : tag ≠ 0)
    (hf : c.formatGood = true) (ha : c.allowed port = true) :
    s.issue port tag c = runCommand c (rowAsked s port tag c) (s.held port (c.content tag)) := by
  rw [State.issue_eq]
  simp only [judgeCommand, Command.formatted, hf, rowAsked, ht, ha, if_true, if_false]

/-- The holding touches the ports alone. -/
theorem State.held_keeps (port : Port) (content : List Byte) (s : State) :
    KeepsBut [.pif] s (s.held port content) := by
  unfold State.held
  split
  · exact State.updPort_keeps ..
  · exact .refl _ _

/-- Whatever is done after the holding and leaves the ports alone leaves what a row leaves. -/
theorem PortsAfter.ofQuiet {s t : State} {port : Port} {content : List Byte}
    (h : PortsQuiet (s.held port content) t) : PortsAfter s t port content := by
  have key : ∀ p, ((s.held port content).pif.port p).receiver = (s.pif.port p).receiver
      ∧ ((s.held port content).pif.port p).waiting = (s.pif.port p).waiting
      ∧ (p ≠ port → ((s.held port content).pif.port p).executing = (s.pif.port p).executing) := by
    intro p
    unfold State.held
    split
    · by_cases e : p = port
      · subst e
        simp only [State.updPort, Pif.port_updPort_same]
        exact ⟨trivial, trivial, fun k => absurd rfl k⟩
      · simp only [State.updPort, Pif.port_updPort_other _ e]
        exact ⟨trivial, trivial, fun _ => trivial⟩
    · exact ⟨rfl, rfl, fun _ => rfl⟩
  refine ⟨fun p => (h.1 p).trans (key p).1, fun p => (h.2 p).trans (key p).2.1, ?_,
    fun p e => (h.3 p).trans ((key p).2.2 e), h.4.trans ?_, h.5.trans ?_⟩
  · rw [h.3 port]
    unfold State.held
    split <;> rename_i e
    · simp [State.updPort, e]
    · simp [e]
  · unfold State.held; split
    · exact Pif.updPort_watchT ..
    · rfl
  · unfold State.held; split
    · exact Pif.updPort_watchQ ..
    · rfl

/-- A row whose owner changes the state from the holding on and then answers (R173, R174). -/
theorem RowResult.ofReply {s u : State} {port : Port} {tag : Byte} {c : Command} {ps : List Part} {r : Result}
    {units : List (List Byte)} (k : KeepsBut (.pif :: ps) (s.held port (c.content tag)) u)
    (q : PortsQuiet (s.held port (c.content tag)) u) :
    RowResult ps s port tag c r units (u.reply (rowAsked s port tag c) r units) where
  answers := State.reply_answers ..
  ports := .ofQuiet (q.trans (State.reply_quiet ..))
  keeps := (((State.held_keeps ..).mono (by simp)).trans k).trans ((State.reply_keeps ..).mono (by simp))

/-- A row that its owner answers without any other effect. -/
theorem RowResult.plain (s : State) (port : Port) (tag : Byte) (c : Command) (r : Result)
    (units : List (List Byte)) :
    RowResult [] s port tag c r units
      ((s.held port (c.content tag)).reply (rowAsked s port tag c) r units) :=
  .ofReply (KeepsBut.refl _ _) (.refl _)

/-- The row of a command in a good format, from a port that may issue it, runs the command. -/
theorem exec_runs (port : Port) (tag : Byte) (c : Command) (s : State) (ht : tag ≠ 0)
    (hf : c.formatGood = true) (ha : c.allowed port = true) :
    exec (rowOf port tag c) s =
      .next (runCommand c (rowAsked s port tag c) (s.held port (c.content tag))) := by
  rw [exec_rowOf, State.issue_runs port tag c s ht hf ha]

/-- The row of a command in a good format, from a port that may not issue it, is refused (R173). -/
theorem exec_refusedRole (port : Port) (tag : Byte) (c : Command) (s : State) (ht : tag ≠ 0)
    (hf : c.formatGood = true) (ha : c.allowed port = false) :
    exec (rowOf port tag c) s =
      .next ((s.held port (c.content tag)).reply (rowAsked s port tag c) .refusedRole []) := by
  rw [exec_rowOf, State.issue_eq]
  simp only [judgeCommand, Command.formatted, hf, rowAsked, ht, ha, if_true, if_false, Bool.false_eq_true]

/-- A row with tag 0 or in a wrong format is MALFORMED (R173). -/
theorem exec_malformed (port : Port) (tag : Byte) (c : Command) (s : State)
    (h : tag = 0 ∨ c.formatGood = false) :
    exec (rowOf port tag c) s =
      .next ((s.held port (c.content tag)).reply (rowAsked s port tag c) .malformed []) := by
  rw [exec_rowOf, State.issue_eq]
  by_cases ht : tag = 0
  · simp [judgeCommand, rowAsked, ht]
  · simp only [judgeCommand, Command.formatted, h.resolve_left ht, rowAsked, ht, if_false,
      Bool.false_eq_true]

/-- The holding changes the ports alone. -/
theorem State.held_eq (port : Port) (content : List Byte) (s : State) :
    s.held port content = { s with pif := (s.held port content).pif } := by
  unfold State.held; split <;> rfl

@[simp] theorem State.held_now (port : Port) (content : List Byte) (s : State) :
    (s.held port content).now = s.now := by rw [State.held_eq]
@[simp] theorem State.held_flc (port : Port) (content : List Byte) (s : State) :
    (s.held port content).flc = s.flc := by rw [State.held_eq]
@[simp] theorem State.held_srg (port : Port) (content : List Byte) (s : State) :
    (s.held port content).srg = s.srg := by rw [State.held_eq]
@[simp] theorem State.held_wgt (port : Port) (content : List Byte) (s : State) :
    (s.held port content).wgt = s.wgt := by rw [State.held_eq]
@[simp] theorem State.held_spm (port : Port) (content : List Byte) (s : State) :
    (s.held port content).spm = s.spm := by rw [State.held_eq]
@[simp] theorem State.held_rke (port : Port) (content : List Byte) (s : State) :
    (s.held port content).rke = s.rke := by rw [State.held_eq]
@[simp] theorem State.held_zwc (port : Port) (content : List Byte) (s : State) :
    (s.held port content).zwc = s.zwc := by rw [State.held_eq]
@[simp] theorem State.held_oda (port : Port) (content : List Byte) (s : State) :
    (s.held port content).oda = s.oda := by rw [State.held_eq]
@[simp] theorem State.held_cau (port : Port) (content : List Byte) (s : State) :
    (s.held port content).cau = s.cau := by rw [State.held_eq]
@[simp] theorem State.held_wrl (port : Port) (content : List Byte) (s : State) :
    (s.held port content).wrl = s.wrl := by rw [State.held_eq]

/-- A notice depends on the ports and the clock alone. -/
theorem State.raise_pif_congr {s t : State} (c : NoticeClass) (n : Notice) (hp : s.pif = t.pif)
    (hn : s.now = t.now) : (s.raise c n).pif = (t.raise c n).pif := by
  simp [State.raise, hp, hn]

/-- A response depends on the ports and the clock alone. -/
theorem State.reply_pif_congr {s t : State} (a : Asked) (r : Result) (u : List (List Byte))
    (hp : s.pif = t.pif) (hn : s.now = t.now) : (s.reply a r u).pif = (t.reply a r u).pif := by
  simp [State.reply, State.replySegments, State.updPort, hp, hn]

end Sys2Proof.Machine
end

