-- ==== Sys2Proof/Tests/Slice0.lean ====
section
/-! SUPPORT. Tests of the model's own: ill-formed commands, values worked in the manual's examples, and
for every statement with hypotheses a state and operands that meet them. -/

namespace Sys2Proof.Tests

-- One theorem after another: each kernel evaluation that waits for one before it would hold a thread of its own.
set_option Elab.async false

open Sys2Proof Sys2Proof.Machine

/-! ## Helpers: small states -/

/-- The state after a command; the state itself where the command did not complete. -/
def after (i : Instr) (s : State) : State :=
  match exec i s with
  | .next t => t
  | .fault _ => s
  | .refused _ => s

/-- Zone 2 of section 5.11, with the fall dwell of section 6.7.1. -/
def cfg2 : ZoneCfg :=
  { zone := 2, monitors := [12], tWatch := 250, tWarn := 450, tAlert := 700, hy := 60, dgWatch := 4,
    dgWarn := 2, dgAlert := 1, dwell := 40, fm := 20000, fd := 600, background := 40 }

/-- Zone 2 at a level. -/
def zone2 (l : Level) : Zone := { Zone.created cfg2 with level := l }

/-- The reset state with one zone. -/
def withZone (z : Zone) : State := { State.reset with zwc := { zones := [z] } }

/-- The reset state with one line changed. -/
def withLine (n : Nat) (f : Line → Line) : State := State.reset.updLine n f

/-- A line that drives since time 0. -/
def driving (l : Line) : Line := { l with demand := .on, state := .on, driveStart := some 0 }

/-- Pile 3 of section 5.11. -/
def pile3 : Pile :=
  { Pile.created { pile := 3, size := 24, assigned := 2, fallback := none } with
    dryness := 170, activity := .working }

/-- The reset state with one pile. -/
def withPile (p : Pile) : State := { State.reset with spm := { Spm.afterPower with piles := [p] } }

/-- The mast of slot 2, in a live state. -/
def mast2 (live : LiveState) : Station :=
  { cfg := { slot := 2, identity := 7, kind := .mast, ring := 6 }, live := live, grant := some 0, warm := 0,
    missed := 0, code := none, heardA := none, heardB := none, fresh := false }

/-- The start of a round. -/
def inRound : Progress := { start := 2000000, phaseB := false, slotsEnded := 0, closed := false }

/-- The beacon of a round 0 without grants. -/
def beacon0 : Beacon :=
  { round := 0, mode := .running, epoch := 0, openWindow := true, grants := [], revocations := [] }

/-- The loop in a round. -/
def flcIn (p : Progress) : Flc :=
  { Flc.afterPower with mode := .running, listen := none, progress := some p, beacon := some beacon0 }

/-- A round in progress with one station. -/
def inRoundWith (p : Progress) (x : Station) : State :=
  { State.reset with flc := flcIn p, srg := { Srg.afterPower with stations := [x] } }

/-- The frame of the mast of slot 2. -/
def frame2 (code : Nat) : StationFrame := { identity := 7, code := code, reading := .mast 100 244 }

/-- A round in which side A has taken the frame of slot 2. -/
def heardIn (p : Progress) (code : Nat) (x : Station) : State :=
  { inRoundWith p x with
    flc := { flcIn p with taken := [{ slot := 2, side := .a, frame := frame2 code, ok := true }] } }

/-- A path removal, as an item of a pending set. -/
def item1 : Item := .remove (.path 3 2)

/-- A pending set of the T master. -/
def setOf (st : SetState) (items : List Item) : Cau :=
  { Cau.afterPower with
    state := st, owner := some .t, items := items, number := 255,
    idleExpiry := if st = .opened then some 300 else none,
    proposalExpiry := if st = .proposed then some 120 else none }

/-- The reset state with a pending set. -/
def withSet (c : Cau) : State := { State.reset with cau := c }

/-- A port with held commands. -/
def holding (executing waiting : Option (List Byte)) : State :=
  State.reset.updPort .t (fun p => { p with executing := executing, waiting := waiting })

/-- The bytes between the flags of a STATUS frame with tag 1. -/
def statusBytes : List Byte := [0x01, 0x01, 0x3E, 0x1F]

/-! ## Ill-formed commands -/

theorem test_silence_expiry_of_the_s_port : (Instr.masterSilenceExpiry .s).wellFormed = false := by decide

theorem test_copy_in_slot_0_or_49 :
    (Instr.loopCopy .a (.slot 0) .inWindow []).wellFormed = false
      ∧ (Instr.loopCopy .a (.slot 49) .inWindow []).wellFormed = false := by decide

theorem test_flag_inside_a_copy :
    (Instr.loopCopy .a .admission .inWindow [0x01, 0xC3]).wellFormed = false := by decide

theorem test_slot_end_0_or_49 :
    (Instr.slotEnd 0).wellFormed = false ∧ (Instr.slotEnd 49).wellFormed = false := by decide

theorem test_line_0_or_33 :
    (Instr.short 0).wellFormed = false ∧ (Instr.short 33).wellFormed = false
      ∧ (Instr.retryWaitEnd 0).wellFormed = false ∧ (Instr.retryWaitEnd 33).wellFormed = false := by decide

theorem test_zone_0_or_17 :
    (Instr.floorExpiry 0 .t).wellFormed = false ∧ (Instr.floorExpiry 17 .q).wellFormed = false
      ∧ (Instr.silenceExpiry 0).wellFormed = false ∧ (Instr.silenceExpiry 17).wellFormed = false
      ∧ (Instr.testEnd 0).wellFormed = false ∧ (Instr.testEnd 17).wellFormed = false := by decide

theorem test_floor_of_the_s_port : (Instr.floorExpiry 2 .s).wellFormed = false := by decide

theorem test_flag_inside_a_port_frame :
    (Instr.portFrame .q [0xC3] false).wellFormed = false := by decide

theorem test_item_of_71_bytes :
    (Instr.stage .t 1 (List.replicate 71 0x01)).wellFormed = false := by decide

/-! ## Values of the manual -/

/-- The check value of the CRC of R194 over the ASCII digits 1 to 9, worked from the polynomial. -/
theorem test_crc_check_value :
    crc [0x31, 0x32, 0x33, 0x34, 0x35, 0x36, 0x37, 0x38, 0x39] = 0x29B1#16 := by decide +kernel

/-- R194: 0xC3 is sent as 0xC5 0xD3 and 0xC5 as 0xC5 0xD5. -/
theorem test_stuffing : stuff [0xC3, 0x10, 0xC5] = [0xC5, 0xD3, 0x10, 0xC5, 0xD5] := by decide

/-- R194: an escape before another byte, or last, is invalid. -/
theorem test_bad_stuffing : unstuff [0xC5, 0x10] = none ∧ unstuff [0x10, 0xC5] = none := by decide

/-- 11.2.2: a MAST frame, written out byte by byte. -/
theorem test_station_frame :
    loopFrameOf [0x02, 0x00, 0x00, 0x07, 0x10, 0x00, 0x64, 0x00, 0xF4]
      = some (.station { identity := 7, code := 0, reading := .mast 100 244 }) := by decide

/-- 11.2.2: a DUST frame with code 15, and one byte too many. -/
theorem test_dust_frame :
    loopFrameOf [0x02, 0x00, 0x01, 0x00, 0x2F, 0x01, 0x36]
        = some (.station { identity := 256, code := 15, reading := .dust 310 })
      ∧ loopFrameOf [0x02, 0x00, 0x01, 0x00, 0x2F, 0x01, 0x36, 0x00] = none := by decide

/-- 11.2.1: the beacon of round 65538 with one grant and one revocation. -/
theorem test_beacon_bytes :
    Beacon.content { round := (65538#32).truncate 16, mode := .degraded, epoch := 9, openWindow := true,
                     grants := [(0x010203, 12)], revocations := [48] }
      = [0x01, 0x00, 0x02, 0x02, 0x09, 0x01, 0x11, 0x01, 0x02, 0x03, 0x0C, 0x30] := by decide

/-- 11.3: FLOOR for zone 2, WARN, 240 minutes, with tag 5. -/
theorem test_floor_frame :
    commandOf [0x12, 0x05, 0x02, 0x02, 0x00, 0xF0] = some (.floor 2 2 240) := by decide

/-- 1.4.1: last A position 6 and first B position 7 of the cut ring. -/
theorem test_ring_break :
    lastA [⟨2, true, false⟩, ⟨6, true, false⟩, ⟨7, false, true⟩, ⟨14, false, true⟩] = some 6
      ∧ firstB [⟨2, true, false⟩, ⟨6, true, false⟩, ⟨7, false, true⟩, ⟨14, false, true⟩] = some 7 := by
  decide

/-- 3.1.1: the accumulator over rounds 812 to 816. -/
theorem test_mean :
    accAfter none (some ⟨100, 244⟩) = some 51200 ∧ accAfter (some 51200) (some ⟨140, 247⟩) = some 51240
      ∧ accAfter (some 51240) none = some 51240 ∧ ringEntry (some ⟨100, 361, false⟩) = none
      ∧ accAfter (some 51240) (some ⟨300, 250⟩) = some 51440 := by decide

/-- 3.2: peak, gust direction and latest direction of the ring at round close 5001. -/
theorem test_ring_values :
    let m := { Mast.created 1 with
      ring := [none, some ⟨120, 245⟩, some ⟨138, 250⟩, some ⟨171, 248⟩, none, some ⟨150, 252⟩,
               some ⟨171, 256⟩, some ⟨144, 251⟩, none, some ⟨133, 249⟩, some ⟨128, 247⟩,
               some ⟨140, 250⟩] }.measure
    m.summary.peak = some 171 ∧ m.summary.gustDir = some 256 ∧ m.summary.latestDir = some 250
      ∧ m.summary.present = 9 ∧ m.summary.available = true := by decide

/-- 4.2.1: candidates with T_damp 75, T_parch 35 and hy 5. -/
theorem test_band :
    candidateBand .afterPower .damp 72 = .damp ∧ candidateBand .afterPower .damp 68 = .dry
      ∧ candidateBand .afterPower .damp 71 = .damp ∧ candidateBand .afterPower .dry 79 = .dry
      ∧ candidateBand .afterPower .dry 80 = .damp := by decide

/-- 4.4.1: round closes 9509, 9600 and 9760. -/
theorem test_dryness :
    ((Pile.dry (some 480) { pile3 with dryness := 169, sub := 479 }).dryness,
        (Pile.dry (some 480) { pile3 with dryness := 169, sub := 479 }).sub) = (170, 0)
      ∧ (Pile.dry (dryInterval 480 .parched) { pile3 with sub := 90 }).sub = 91
      ∧ (Pile.dry (dryInterval 480 .wet) { pile3 with sub := 10 }).sub = 10 := by decide

/-- 4.5.1: the advice of piles 3, 7 and 12. -/
theorem test_advice :
    adviceFor ⟨182, 80, 102, 0⟩ 104 50 = .wetNow ∧ adviceFor ⟨104, 150, 0, 0⟩ 104 50 = .wetSoon
      ∧ adviceFor ⟨104, 190, 0, 0⟩ 104 50 = .none := by decide

/-- 5.11.1: lift threshold, excess and emission of pile 3. -/
theorem test_emission : pileValues .afterPower 182 pile3 = ⟨182, 80, 102, 31212⟩ := by decide

/-- 5.11.1 and 5.5: angle, weight and share of the path from pile 3 to zone 2. -/
theorem test_share :
    pathResult { pile := 3, zone := 2, bearing := 62, halfWidth := 20, distance := 800 } 31212 250
      = ⟨8, 614, 11696⟩ ∧ angleBetween 10 350 = 20 := by decide

/-- 5.10.1: the assessment at saturation. -/
theorem test_saturation :
    liftThreshold 90 60 255 = 30 ∧ emissionOf 720 64 .working = 4147200
      ∧ pathShare (alignedEmission 4147200 1024) 100 = 20736000
      ∧ indexOf (min sumClamp 20736000) 16000000 = 1000 := by decide

/-- 5.11.1: the modelled and the measured index of zone 2. -/
theorem test_indices : indexOf 11696 20000 = 584 ∧ indexOf (310 - 40) 600 = 450 := by decide

/-- 5.8.1: the hold at wind-blind counts 239 and 240. -/
theorem test_wind_blind_hold :
    let r := { ZoneResult.created cfg2 with modelled := 584, dominant := some 3, blindCount := 239 }
    (r.holdModelled.modelled, r.holdModelled.blindCount) = (584, 240)
      ∧ (r.holdModelled.holdModelled.modelled, r.holdModelled.holdModelled.dominant) = (0, none) := by
  decide

/-- The delivery of a risk to zone 2. -/
def deliver2 (r : Nat) : Delivery :=
  { zone := 2, round := 4002, risk := r, modelled := r, measured := 0, dominant := none, gust := none,
    blind := false, noModel := false }

/-- 5.11.2: at the second delivery of 584, zone 2 rises from CLEAR to WARN. -/
theorem test_rise :
    let s := (withZone (zone2 .clear)).deliverRisk (deliver2 584)
    (s.zone 2).map (fun z => (z.level, z.riseWatch, z.riseWarn, z.riseAlert)) = some (.clear, 1, 1, 0)
      ∧ ((s.deliverRisk (deliver2 584)).zone 2).map (fun z => (z.level, z.riseWatch, z.riseWarn, z.cause))
          = some (.warn, 0, 0, some .risk) := by decide +kernel

/-- 6.7.1: the 40th delivery of 300 at WARN falls to WATCH, or is held by a floor at WARN. -/
theorem test_fall :
    (((withZone { zone2 .warn with dwell := 39 }).deliverRisk (deliver2 300)).zone 2).map
        (fun z => (z.level, z.dwell)) = some (.watch, 0)
      ∧ (((withZone { zone2 .warn with dwell := 39, tFloor := some ⟨.warn, 900⟩ }).deliverRisk
          (deliver2 300)).zone 2).map (fun z => (z.level, z.dwell)) = some (.warn, 0) := by decide +kernel

/-- 7.4.1: the short at 1000.4 s gives a wait to 1002 s, and the 8th short at 1014 s latches. -/
theorem test_shorts :
    (((withLine 4 driving).reach 1000400000).shortLine 4 |>.line 4).map
        (fun l => (l.state, l.retryEnd, l.short)) = some (.retryWait, some 1002, 1)
      ∧ (((withLine 4 (fun l => { driving l with short := 7 })).reach 1014000000).shortLine 4 |>.line 4).map
        (fun l => (l.state, l.retryEnd, l.short)) = some (.latched, none, 8) := by decide +kernel

/-- A ROUTINE or URGENT notice of the Q-port's queue of section 9.5.1. -/
def notice941 (cls : NoticeClass) (stamp : Nat) (n : Notice) : Queued := ⟨cls, stamp, n⟩

/-- 9.5.1: the rise of zone 2 to WARN replaces its queued notice and keeps stamp 41. -/
theorem test_coalescing :
    let lv : Notice := .level ((zone2 .watch).notice 0 .level .clear .watch)
    let lw : Notice := .level ((zone2 .warn).notice 0 .level .watch .warn)
    let lo : Notice := .loop (Flc.afterPower.notice 0)
    let st : Notice := .stranger { identity := 12, kind := .mast, removed := none }
    let q := { PortState.afterPower with
      notices := [notice941 .urgent 40 lo, notice941 .routine 41 lv, notice941 .routine 42 st]
      nextStamp := 43 }
    (q.queueNotice .urgent lw).notices
      = [notice941 .urgent 40 lo, notice941 .urgent 41 lw, notice941 .routine 42 st]
      ∧ (q.queueNotice .urgent lw).nextStamp = 43 := by decide

/-- 10.3.1: an entry lost unread moves the read point and opens a gap that keeps the first lost number. -/
theorem test_gap :
    let w := { Wrl.afterPower with readPoint := 1046, gap := none }
    ((w.overwritten 1045).readPoint, (w.overwritten 1045).gap) = (1046, none)
      ∧ (((w.overwritten 1046).overwritten 1047).readPoint,
          ((w.overwritten 1046).overwritten 1047).gap) = (1048, some 1046) := by decide

/-! ## Commands on small states -/

/-- R121: FLOOR at WARN for 500 minutes raises zone 2 to WARN, and the floor runs for 240 minutes. -/
theorem test_floor_command :
    ((after (.floor .t 1 2 2 500) (withZone (zone2 .clear))).zone 2).map
      (fun z => (z.level, z.tFloor, z.cause, z.sign)) =
        some (.warn, some ⟨.warn, 14400⟩, some .floorT, .slow) := by decide +kernel

/-- R124: ACK ALERT stops the siren. -/
theorem test_ack_command :
    ((after (.ackAlert .q 1 2)
        (withZone { zone2 .alert with alert := .unacked, siren := .on })).zone 2).map
      (fun z => (z.alert, z.siren)) = some (.acked, .off) := by decide +kernel

/-- R127, R129: TEST shows FAST and ON for 10 s. -/
theorem test_test_command :
    ((after (.test .q 1 2) (withZone (zone2 .watch))).zone 2).map
      (fun z => (z.testEnd, z.sign, z.siren)) = some (some 10, .fast, .on) := by decide +kernel

/-- R33: the 8th missing verdict in a row loses a SUSPECT station. -/
theorem test_station_lost :
    ((after (.slotEnd 2) (inRoundWith inRound { mast2 .suspect with missed := 7 })).station 2).map
      (fun x => (x.live, x.missed)) = some (.lost, 8) := by decide +kernel

/-- R30, R32: the first delivered verdict in the grant window starts the warm-up at 8. -/
theorem test_warm_up :
    ((after (.slotEnd 2) (heardIn inRound 0 (mast2 .heard))).station 2).map
      (fun x => (x.live, x.warm, x.heardA)) = some (.warming, 8, some 0) := by decide +kernel

/-- R15: the last start attempt halts the loop. -/
theorem test_foreign_beacon_halts :
    (after .foreignBeaconHeard { State.reset with flc := { Flc.afterPower with attempts := 1 } }).flc.mode
      = .halted := by decide +kernel

/-- R159: the counterparty's ACCEPT of the right number, and of another number. -/
theorem test_accept :
    (after (.accept .q 1 255) (withSet (setOf .proposed [item1]))).cau.state = .accepted
      ∧ (after (.accept .q 1 254) (withSet (setOf .proposed [item1]))).cau.state = .proposed := by
  decide +kernel

/-- R158: the proposal number goes from 255 to 1. -/
theorem test_proposal_number_wraps :
    (after (.propose .t 1) (withSet (setOf .opened [item1]))).cau.number = 1 := by decide +kernel

/-- R166: an accepted removal of a path that is not configured fails, and a SITE item applies. -/
theorem test_apply :
    (after .roundClose { withSet (setOf .accepted [.site { SiteParams.afterPower with u0 := 300 }]) with
        flc := flcIn { inRound with slotsEnded := 48 } }).cau.site.u0 = 300
      ∧ ({ withSet (setOf .accepted [item1]) with flc := flcIn inRound }).checkSet
          = some (.noTarget, 1) := by decide +kernel

/-- R171, R173: a STATUS frame that a flag has opened is taken, and its response begins at once: DONE, the
first of several segments, for the 32 line records alone pass 68 bytes.  Bytes that no flag has opened are no
frame, and the flag after them opens one. -/
theorem test_status_frame :
    ((after (.portFrame .t statusBytes false)
        (after (.portOpeningFlag .t) State.reset)).pif.t.sending.map
      (fun x => x.frame.content.take 4)) = some [0x01, 0x01, 0x00, 0x01]
      ∧ (after (.portFrame .t statusBytes false) State.reset).pif.t.sending = none
      ∧ (after (.portFrame .t statusBytes false) State.reset).pif.t.receiver = .inside 0 := by
  decide +kernel

/-- R135, R196: READ ZONE before the first delivery gives the 14 bytes of an absent last delivery, all 0. -/
theorem test_absent_last_delivery :
    ((zone2 .clear).liveBytes 0).length = (Zone.liveBytes 0 { zone2 .clear with
        last := some ⟨4002, 584, 584, 0, some 3, none⟩ }).length := by decide

/-- R187: the epoch after a RESTART. -/
theorem test_restart_epoch :
    (after (.restart .q 1) State.reset).wrl.epoch = 1
      ∧ (after (.restart .q 1) State.reset).wrl.entries.length = 2 := by decide +kernel

/-! ## States that meet the hypotheses of the statements

Each theorem names its statement; the clauses of a statement are met one after another, at boundary
values of what they range over. -/

/-- A round whose last slot but 48 has ended; slot 48 is next. -/
def lateRound : Progress := { start := 2000000, phaseB := true, slotsEnded := 47, closed := false }

/-- A round whose round close has taken place. -/
def closedRound : Progress := { start := 2000000, phaseB := true, slotsEnded := 48, closed := true }

/-- StepTakesTheFrontCommand. -/
theorem witness_front_command :
    ({ State.reset with pending := [.power, .idleExpiry] }).pending = .power :: [.idleExpiry] := by decide

/-- EmptyQueueRunsTheClock. -/
theorem witness_empty_queue : State.reset.pending = [] := by decide

/-- RestartKeepsLevelsAndPiles, with a zone that is kept, a latched line and a set that is discarded. -/
theorem witness_restart :
    let s := { withZone (zone2 .alert) with cau := setOf .proposed [item1] }
    (1 : Byte) ≠ 0 ∧ Port.t ≠ .s ∧ Port.q ≠ .s ∧ s.zone 2 = some (zone2 .alert) ∧ s.cau.state ≠ .free
      ∧ (∀ n ∈ [1, 32], ((withLine n (fun l => { l with state := .latched, short := 8 })).line n).map
          (fun l => l.state) = some .latched) := by
  decide

/-- MasterSilenceWithdrawsTheMaster, for both ports, with a set that the T master owns. -/
theorem witness_master_silence :
    let s := { withZone { zone2 .warn with tFloor := some ⟨.warn, 60⟩, testEnd := some 61 } with
      cau := setOf .opened [item1] }
    s.pif.watch .t = some .afterPower ∧ s.pif.watch .q = some .afterPower
      ∧ Watchdog.afterPower.expiry = some 60 ∧ (s.zone 2).isSome ∧ s.cau.state ≠ .free
      ∧ s.cau.owner = some .t ∧ s.cau.owner ≠ some .q := by decide

/-- ListenPeriodsStartOrBackOff: the end of the first listen period. -/
theorem witness_listen_end :
    State.reset.flc.mode = .listen ∧ State.reset.flc.listen = some (.listening 2000000) := by decide

/-- ListenPeriodsStartOrBackOff: the last start attempt, the last but one, and a back-off. -/
theorem witness_foreign_beacon :
    ({ Flc.afterPower with attempts := 1 }).attempts ≤ 1
      ∧ 1 < ({ Flc.afterPower with attempts := 2 }).attempts
      ∧ Flc.afterPower.mode = .listen ∧ Flc.afterPower.listen = some (.listening 2000000)
      ∧ ({ Flc.afterPower with listen := some (.backOff 1000000) }).listen = some (.backOff 1000000) := by
  decide

/-- RoundsStartWithTheirBeacon, with a station that is granted. -/
theorem witness_round_start :
    let s : State := { inRoundWith closedRound (mast2 .heard) with
      srg := { Srg.afterPower with stations := [mast2 .heard], queue := [2], revocations := [3, 2] } }
    s.flc.mode.runs = true ∧ s.flc.progress = some closedRound ∧ closedRound.closed = true
      ∧ s.station 2 = some (mast2 .heard) ∧ 2 ∈ s.srg.queue.take 2 ∧ 3 ∉ s.srg.queue.take 2 := by decide

/-- RoundsStartWithTheirBeacon: phase B-out. -/
theorem witness_phase_b :
    (flcIn inRound).mode.runs = true ∧ (flcIn inRound).progress = some inRound ∧ inRound.phaseB = false
      ∧ inRound.closed = false ∧ inRound.slotsEnded = 0 := by decide

/-- CopiesAreCountedOnce: slot 48 in time, the admission window after the round close, a copy of slot 48 that
completes after its round, before and after the next round close, and the quiet gap before and after its round
start, with copies that are no frame. -/
theorem witness_copies :
    (flcIn lateRound).mode.runs = true ∧ lateRound.receives .a (.slot 48) .inWindow = true
      ∧ lateRound.interval (.slot 48) .inWindow = .running
      ∧ closedRound.receives .b .admission .afterWindow = true
      ∧ closedRound.interval .admission .afterWindow = .last
      ∧ lateRound.interval (.slot 48) .afterRound = .last
      ∧ closedRound.interval (.slot 48) .afterRound = .earlier
      ∧ closedRound.receives .a .quietGap .inWindow = true
      ∧ closedRound.interval .quietGap .inWindow = .running
      ∧ inRound.interval .quietGap .afterRound = .running
      ∧ (statusBytes.drop 2).head? ≠ some 0x01 ∧ parseLoopCopy [] = none := by decide +kernel

/-- Content as a sender frames it. -/
def framed (content : List Byte) : List Byte := stuff (content ++ crcBytes content)

/-- The mast of slot 2 at 18.2 m/s and 250 degrees, the mast's announce, and the beacon of another round. -/
def stationCopy : List Byte := framed [0x02, 0x00, 0x00, 0x07, 0x10, 0x00, 0xB6, 0x00, 0xFA]
def announceCopy (kind : Byte) : List Byte := framed [0x03, 0x00, 0x00, 0x07, kind]
def foreignCopy : List Byte := framed [0x01, 0x00, 0x05, 0x01, 0x00, 0x01, 0x00]

/-- CopiesAreCountedOnce: a foreign beacon; a STATION copy in its own slot, in another one and after a copy
taken; an ANNOUNCE copy in a window that is open, with an identity that is new, one received and one of no
kind, and in one that is closed. -/
theorem witness_copy_frames :
    parseLoopCopy foreignCopy = some (.beacon [0x01, 0x00, 0x05, 0x01, 0x00, 0x01, 0x00])
      ∧ (flcIn inRound).beacon.map Beacon.content ≠ some [0x01, 0x00, 0x05, 0x01, 0x00, 0x01, 0x00]
      ∧ parseLoopCopy stationCopy = some (.station { identity := 7, code := 0, reading := .mast 182 250 })
      ∧ ((inRoundWith inRound (mast2 .active)).station 2).map (fun z => (z.cfg.identity, z.cfg.kind))
          = some (7, .mast)
      ∧ (inRoundWith inRound (mast2 .active)).station 3 = none
      ∧ (heardIn inRound 0 (mast2 .active)).flc.taken.map (fun y => (y.slot, y.side)) = [(2, .a)]
      ∧ (flcIn inRound).taken = []
      ∧ parseLoopCopy (announceCopy 1) = some (.announce 7 1) ∧ kindOfCode (1 : Byte).toNat = some .mast
      ∧ parseLoopCopy (announceCopy 4) = some (.announce 7 4) ∧ kindOfCode (4 : Byte).toNat = none
      ∧ beacon0.openWindow = true ∧ ({ beacon0 with openWindow := false }).openWindow = false
      ∧ (flcIn inRound).announced = [] ∧ inRound.receives .a (.slot 2) .inWindow = true
      ∧ inRound.receives .a .admission .inWindow = true := by decide +kernel

/-- R8: the first copy of slot 2 is taken and valid, the second one is a content error. R10: the same of an
ANNOUNCE copy. -/
theorem test_second_copy :
    let s := after (.loopCopy .a (.slot 2) .inWindow stationCopy) (inRoundWith inRound (mast2 .active))
    let t := after (.loopCopy .a (.slot 2) .inWindow stationCopy) s
    let u := after (.loopCopy .b .admission .inWindow (announceCopy 1)) t
    let v := after (.loopCopy .b .admission .inWindow (announceCopy 2)) u
    (s.flc.running.a.valid, s.flc.running.a.content) = (1, 0)
      ∧ (t.flc.running.a.valid, t.flc.running.a.content) = (1, 1)
      ∧ (v.flc.running.b.valid, v.flc.running.b.content) = (1, 1)
      ∧ v.flc.announces = [{ side := .b, identity := 7, kind := .mast }] := by decide +kernel

/-- R7: a copy of slot 48 that completes after its round is added to the counts of that round, which the round
close has ended, and not to those of the round in progress. -/
theorem test_copy_after_its_round :
    let f := (after (.loopCopy .a (.slot 48) .afterRound []) (inRoundWith inRound (mast2 .active))).flc
    (f.last.a.boundary, f.running.a.boundary) = (1, 0) := by decide +kernel

/-- CopiesAreCountedOnce: a BEACON copy and copies that are none, in a listen period, in a back-off and in
HALTED. -/
theorem witness_uncounted :
    deframe foreignCopy = some (0x01 :: [0x00, 0x05, 0x01, 0x00, 0x01, 0x00])
      ∧ (deframe stationCopy).bind List.head? = some 0x02 ∧ deframe [] = none
      ∧ State.reset.flc.mode = .listen ∧ State.reset.flc.listen = some (.listening 2000000)
      ∧ ({ Flc.afterPower with listen := some (.backOff 0) }).listen = some (.backOff 0)
      ∧ ({ Flc.afterPower with mode := .halted }).mode = .halted := by decide +kernel

/-- R14, R22: a beacon in a listen period takes a start attempt, with a LOOP notice to the masters. -/
theorem test_foreign_copy :
    let s := after (.loopCopy .a .phaseA .inWindow foreignCopy) State.reset
    (s.flc.attempts, s.flc.listen) = (2, some (.backOff 1000000))
      ∧ s.pif.t.sending.map (fun x => x.frame.content.take 7) = some [0x45, 0x00, 0x02, 0x00, 0x00, 0x00, 0x02]
      ∧ after (.loopCopy .a .phaseA .inWindow stationCopy) State.reset = State.reset := by decide +kernel

/-- OwnBeaconIsTheEcho: both phases, the first and the last slot, the admission window, the quiet gap, and a copy
that completes after its round, before and after the next round close. -/
theorem witness_echo :
    (flcIn inRound).mode.runs = true ∧ (flcIn inRound).beacon = some beacon0 ∧ beacon0.mode.runs = true
      ∧ beacon0.grants.length ≤ 2 ∧ beacon0.revocations.length ≤ 2 ∧ inRound.inWindow .phaseA = true
      ∧ ({ inRound with phaseB := true }).inWindow .phaseB = true
      ∧ inRound.receives .a (.slot 1) .inWindow = true ∧ lateRound.receives .b (.slot 48) .inWindow = true
      ∧ lateRound.receives .a .admission .inWindow = true ∧ closedRound.receives .b .quietGap .inWindow = true
      ∧ inRound.receives .b .phaseA .afterRound = true ∧ closedRound.receives .b .phaseA .afterRound = true := by
  decide

/-- R11: the own beacon in the quiet gap is a boundary violation of the interval that runs, and not foreign. -/
theorem test_own_beacon_in_the_gap :
    let f := (after (.loopCopy .a .quietGap .inWindow (framed beacon0.content))
      (inRoundWith closedRound (mast2 .active))).flc
    (f.running.a.boundary, f.last.a.boundary, f.foreignHeard) = (1, 0, false) := by decide +kernel

/-- A round in which the sides have taken different frames of slot 2. -/
def clashIn (p : Progress) (x : Station) : State :=
  { inRoundWith p x with
    flc := { flcIn p with
      taken := [{ slot := 2, side := .a, frame := frame2 0, ok := true },
                { slot := 2, side := .b, frame := frame2 2, ok := true }] } }

/-- MissedSlotsLoseTheStation: every live state, at the 7th and the 8th miss and at the 3rd and the 4th, with
no valid copy and with two that differ. -/
theorem witness_missed_slot :
    (∀ x ∈ [mast2 .warming, mast2 .active, { mast2 .suspect with missed := 6 },
        { mast2 .suspect with missed := 7 }, { mast2 .quieting with missed := 2 },
        { mast2 .quieting with missed := 3 }, mast2 .silent, mast2 .heard, mast2 .lost, mast2 .returned],
      let s := inRoundWith inRound x
      let c := clashIn inRound x
      s.flc.mode.runs = true ∧ s.flc.progress = some inRound ∧ s.station 2 = some x
        ∧ s.flc.validCopy 2 .a = none ∧ s.flc.validCopy 2 .b = none
        ∧ c.flc.mode.runs = true ∧ c.flc.progress = some inRound ∧ c.station 2 = some x
        ∧ c.flc.validCopy 2 .a = some (frame2 0) ∧ c.flc.validCopy 2 .b = some (frame2 2)
        ∧ frame2 0 ≠ frame2 2)
      ∧ inRound.inWindow (.slot 2) = true ∧ lateRound.inWindow (.slot 48) = true ∧ 48 ≤ 48
      ∧ (inRoundWith inRound (mast2 .active)).station 1 = none
      ∧ (inRoundWith lateRound (mast2 .active)).station 48 = none
      ∧ 6 + 1 < 8 ∧ 8 ≤ 7 + 1 ∧ 2 + 1 < 4 ∧ 4 ≤ 3 + 1 := by decide

/-- DeliveredSlotsMoveTheStation: every live state, the warm-up at 2 and at 1 in WARMING and in SUSPECT, codes
15 and 0, and the first and the last round of a grant and the round after it. -/
theorem witness_delivered_slot :
    (∀ x ∈ [{ mast2 .warming with warm := 2 }, { mast2 .warming with warm := 1 }, mast2 .active,
        { mast2 .suspect with warm := 2 }, { mast2 .suspect with warm := 1 }, mast2 .quieting, mast2 .heard,
        mast2 .silent, mast2 .lost, mast2 .returned],
      ∀ code ∈ [0, 15],
      let s := heardIn inRound code x
      s.flc.mode.runs = true ∧ s.flc.progress = some inRound ∧ s.station 2 = some x
        ∧ mergeCopies (s.flc.validCopy 2 .a) (s.flc.validCopy 2 .b) = .delivered (frame2 code) true false)
      ∧ inRound.inWindow (.slot 2) = true ∧ (mast2 .heard).inGrantWindow 0 = true
      ∧ (mast2 .heard).inGrantWindow 3 = true ∧ (mast2 .heard).inGrantWindow 4 = false
      ∧ (mast2 .active).holdsGrant = true ∧ (mast2 .silent).holdsGrant = false := by decide

/-- An announce of the mast of slot 2. -/
def announce2 : Announce := { identity := 7, kind := .mast, heardA := true, heardB := false }

/-- Strangers with identities from 100 on. -/
def strangers (n : Nat) : List Stranger :=
  (List.range n).map (fun i =>
    { identity := BitVec.ofNat 24 (100 + i), kind := .dust, firstEpoch := 0, firstRound := 0, last := 0,
      count := 1 })

/-- A round with one mast, its record and a stranger list. -/
def mastIn (p : Progress) (x : Station) (k : Nat) : State :=
  { inRoundWith p x with
    srg := { Srg.afterPower with stations := [x], strangers := strangers k }
    wgt := { Wgt.afterPower with masts := [Mast.created 2] } }

theorem mastIn_tablesOk (p : Progress) (x : Station) (k : Nat) (h : x.cfg = (mast2 .active).cfg) :
    (mastIn p x k).TablesOk := by
  constructor <;> simp [mastIn, inRoundWith, State.reset, State.slotsOf, Spm.afterPower, Zwc.afterPower,
    Rke.afterPower, Mast.created, h, mast2]

/-- Announce copies: identity 7 on both sides as MAST, 9 on both sides with differing kinds, and 8 on side B. -/
def copies : List AnnounceCopy :=
  [{ side := .b, identity := 9, kind := .dust }, { side := .a, identity := 7, kind := .mast },
   { side := .b, identity := 8, kind := .gauge }, { side := .a, identity := 9, kind := .mast },
   { side := .b, identity := 7, kind := .mast }]

/-- AnnouncesReachTheRegistry, RoundCloseDecidesTheMode: copies that stand once for each side and identity. -/
theorem witness_announce_copies : CopiesDistinct copies ∧ CopiesDistinct [] := by
  simp only [CopiesDistinct]
  decide

/-- R10: the merge is ordered by the first copies and leaves out the identity of two kinds. -/
theorem test_merged_announces :
    mergedAnnounces copies =
      [{ identity := 7, kind := .mast, heardA := true, heardB := true },
       { identity := 8, kind := .gauge, heardA := false, heardB := true }] := by decide

/-- AnnouncesReachTheRegistry: an identity that no entry has, with a stranger of that identity, with 7 and with
8 others; the one entry of an identity, of the announced kind and of another one, in each state, with 7 and
with 8 in the queue; and the close of a round whose grant lies 2 and 3 rounds back. -/
theorem witness_announces :
    (∀ y ∈ (mastIn lateRound (mast2 .silent) 8).srg.stations, y.cfg.identity ≠ 100)
      ∧ (strangers 8).any (fun r => r.identity == 100) = true
      ∧ (∀ k ∈ [7, 8], ∀ r ∈ (mastIn lateRound (mast2 .silent) k).srg.strangers, r.identity ≠ 99)
      ∧ (strangers 7).length < 8 ∧ 8 ≤ (strangers 8).length
      ∧ (mast2 .silent).cfg.identity = announce2.identity ∧ (mast2 .silent).cfg.kind = announce2.kind
      ∧ (mast2 .silent).cfg.kind ≠ .dust
      ∧ (∀ l ∈ [LiveState.silent, .lost, .active],
          mast2 l ∈ (mastIn lateRound (mast2 l) 0).srg.stations
          ∧ ∀ y ∈ (mastIn lateRound (mast2 l) 0).srg.stations, y = mast2 l)
      ∧ (flcIn lateRound).mode.runs = true ∧ lateRound.closed = false
      ∧ (((mastIn lateRound (mast2 .heard) 0).closing lateRound).takeAnnounces
          (mergedAnnounces (flcIn lateRound).announces)).station 2 = some (mast2 .heard)
      ∧ (3 - 0 : Round).toNat = 3 ∧ (2 - 0 : Round).toNat < 3 := by decide +kernel

/-- RoundCloseDecidesTheMode: a RUNNING round with a missing echo and one without a condition, a DEGRADED one at
its 39th and at its 40th clean round and one that is not clean, and one at its second foreign round. -/
theorem witness_round_close :
    (flcIn lateRound).mode.runs = true ∧ (flcIn lateRound).progress = some lateRound
      ∧ lateRound.closed = false
      ∧ (after .roundClose { State.reset with flc := { flcIn lateRound with missAB := 2 } }).flc.mode
          = .degraded
      ∧ (after .roundClose { State.reset with
          flc := { flcIn lateRound with
            mode := .degraded, reasons := { Reasons.empty with ringOpen := true }, echoAB := true,
            echoBA := true, recovery := 39 } }).flc.mode = .running
      ∧ (after .roundClose { State.reset with flc := flcIn lateRound }).flc.mode = .running
      ∧ (∀ x ∈ [(true, 39), (false, 0)],
          let f := (after .roundClose { State.reset with
            flc := { flcIn lateRound with
              mode := .degraded, reasons := { Reasons.empty with ringOpen := true }, echoAB := true,
              echoBA := x.1, recovery := 38 } }).flc
          (f.mode, f.recovery) = (.degraded, x.2))
      ∧ (after .roundClose { State.reset with flc := { flcIn lateRound with
            announces := copies, running := { a := { Counts.zero with valid := 2 }
                                              b := { Counts.zero with valid := 3, boundary := 1 } } } }).flc.last
          = { a := { Counts.zero with valid := 1, content := 1 }
              b := { Counts.zero with valid := 2, content := 1, boundary := 1 } }
      ∧ (after .roundClose { State.reset with
          flc := { flcIn lateRound with foreignHeard := true, foreignCount := 1 } }).flc.mode
          = .halted := by decide +kernel

/-- A round in which side A has taken this frame of slot 2, with a mast, a monitor and a gauge record. -/
def readIn (x : Station) (f : StationFrame) : State :=
  { inRoundWith inRound x with
    flc := { flcIn inRound with taken := [{ slot := 2, side := .a, frame := f, ok := true }] }
    wgt := { Wgt.afterPower with masts := [Mast.created 2] }
    spm := { Spm.afterPower with monitors := [Monitor.created 2], gauges := [Gauge.created 2] } }

/-- ReadingsAreHandedOn: an ACTIVE station and one that a verdict brings to ACTIVE, with and without the fresh
mark, a reading of each kind, with a code that hands it on and one that does not. -/
theorem witness_readings :
    (∀ x ∈ [mast2 .active, { mast2 .active with fresh := true }, { mast2 .warming with warm := 1 },
        { mast2 .suspect with warm := 1 }, { mast2 .suspect with warm := 0 }, mast2 .quieting],
      ∀ r ∈ [Reading.mast 100 244, .dust 310, .gauge 72 true], ∀ code ∈ [0, 4, 5],
      let f : StationFrame := { identity := 7, code := code, reading := r }
      let s := readIn x f
      s.flc.mode.runs = true ∧ s.flc.progress = some inRound ∧ s.station 2 = some x
        ∧ mergeCopies (s.flc.validCopy 2 .a) (s.flc.validCopy 2 .b) = .delivered f true false
        ∧ (s.mast 2).isSome ∧ (s.monitor 2).isSome ∧ (s.gauge 2).isSome)
      ∧ inRound.inWindow (.slot 2) = true := by decide +kernel

/-- R37, R46: the reading that brings a mast to ACTIVE clears its ring; RANGE_HIGH reads 750. -/
theorem test_fresh_reading :
    ((after (.slotEnd 2) (readIn { mast2 .warming with warm := 1 } (frame2 4))).mast 2).map
      (fun m => (m.reading.map (fun r => r.speed), m.ring)) = some (some 750, List.replicate 12 none) := by
  decide +kernel

/-- A round late in which the mast of slot 2 has a reading, with some ring and accumulator. -/
def ringIn (r : Option MastReading) (ring : List (Option Sample)) (acc : Option Nat) : State :=
  { mastIn lateRound (mast2 .active) 0 with
    wgt := { Wgt.afterPower with
      masts := [{ Mast.created 2 with reading := r, ring := ring, acc := acc }] } }

/-- RoundCloseShiftsTheRings: no reading, one of 359 and one of 360 degrees, with and without an accumulator. -/
theorem witness_rings :
    (∀ r ∈ ([none, some ⟨750, 359, false⟩, some ⟨750, 360, true⟩] : List (Option MastReading)),
      ∀ a ∈ [none, some 384000],
      let m := { Mast.created 2 with reading := r, acc := a }
      (ringIn r m.ring a).flc.mode.runs = true ∧ (ringIn r m.ring a).flc.progress = some lateRound
        ∧ ((ringIn r m.ring a).closing lateRound).mast 2 = some m)
      ∧ ((ringIn none (Mast.created 2).ring none).closing lateRound).mast 3 = none := by decide +kernel

/-- A ring of four samples of a mast that blows at 18.2 and 10.4 m/s. -/
def gustyRing : List (Option Sample) :=
  List.replicate 9 none ++ [some ⟨104, 250⟩, some ⟨182, 250⟩, some ⟨104, 251⟩]

/-- RoundCloseJudgesTheWind, GustsAreJoinedOpenedAndMerged: a round close with a lead mast that gusts, and one
without. -/
theorem witness_wind :
    let s := ringIn (some ⟨120, 250, false⟩) gustyRing (some 53248)
    s.flc.mode.runs = true ∧ s.flc.progress = some lateRound ∧ lateRound.closed = false
      ∧ (after .roundClose s).wgt.site.lead = some 2
      ∧ ((after .roundClose s).mast 2).map (fun m => (m.summary.gusting, m.summary.counted))
          = some (true, some 1)
      ∧ (after .roundClose (ringIn none [] none)).wgt.site.lead = none := by decide +kernel

theorem witness_wind_tables (r : Option MastReading) (ring : List (Option Sample)) (acc : Option Nat) :
    (ringIn r ring acc).TablesOk ∧ (ringIn r ring acc).GustsOk := by
  constructor
  · have h := mastIn_tablesOk lateRound (mast2 .active) 0 rfl
    exact ⟨h.stations, h.piles, h.zones, h.paths, h.results, h.winds, h.masts, h.gauges, h.monitors⟩
  · constructor <;> simp [ringIn, Wgt.afterPower]

/-- A gust record of the mast of slot `n`. -/
def gustOf (st : GustState) (id n dir : Nat) : Gust :=
  { id := id, state := st, openEpoch := 0, openRound := 0, origin := n, direction := dir, peak := 182,
    members := [n], lastActive := 0, closedRound := if st = .closed then some 0 else none, merged := false }

/-- The reset state with a gust list. -/
def withGusts (l : List Gust) : State := { State.reset with wgt := { Wgt.afterPower with gusts := l } }

/-- 16 records that no mast can join. -/
def fullList (first : GustState) : List Gust :=
  gustOf first 1 1 0 :: (List.range 15).map (fun i => gustOf .confirmed (i + 2) (i + 2) (i + 1))

/-- GustsAreJoinedOpenedAndMerged: a member, a record that it may join and one too far to join, a list of 16
with a CLOSED record and one without. -/
theorem witness_gust_members :
    (gustOf .opened 1 2 250).state ≠ .closed ∧ 2 ∈ (gustOf .opened 1 2 250).members
      ∧ (∀ g ∈ (withGusts [gustOf .opened 1 2 250]).wgt.gusts, 3 ∉ g.members)
      ∧ (gustOf .opened 1 2 250).joinable 0 280 = true ∧ (gustOf .opened 1 2 250).joinable 0 340 = false
      ∧ (∀ st ∈ [GustState.closed, .opened], (fullList st).length = 16
          ∧ ∀ g ∈ fullList st, 40 ∉ g.members ∧ g.joinable 0 180 = false)
      ∧ (gustOf .closed 1 1 0).state = .closed
      ∧ (∀ x ∈ fullList .opened, x.state ≠ .closed)
      ∧ (∀ x ∈ (fullList .opened).take 15, angleBetween 15 180 < angleBetween x.direction 180) := by
  decide +kernel

/-- GustsAreJoinedOpenedAndMerged: those lists are gust lists. -/
theorem witness_gust_lists : (withGusts (fullList .closed)).GustsOk ∧ (withGusts (fullList .opened)).GustsOk
    ∧ (withGusts [gustOf .opened 1 2 250]).GustsOk := by
  refine ⟨?_, ?_, ?_⟩ <;> constructor <;> decide +kernel

/-- The states whose tables hold one zone with its result record. -/
def zoneInRound (c : Cau) : State :=
  { withZone (zone2 .clear) with
    flc := flcIn lateRound, cau := c, rke := { Rke.afterPower with zones := [ZoneResult.created cfg2] } }

theorem zoneInRound_tablesOk (c : Cau) : (zoneInRound c).TablesOk := by
  constructor <;> simp [zoneInRound, withZone, State.reset, Srg.afterPower, Spm.afterPower,
    Rke.afterPower, Wgt.afterPower, State.slotsOf, ZoneResult.created, zone2, Zone.created]

/-- The round of zone 2 with its monitor, whose reading of a round is current, old or absent. -/
def monitored (value : Option (Nat × Round)) : State :=
  { zoneInRound .afterPower with
    spm := { Spm.afterPower with monitors := [{ Monitor.created 12 with value := value }] }
    srg := { Srg.afterPower with stations :=
      [{ mast2 .active with cfg := { slot := 12, identity := 12, kind := .dust, ring := 6 } }] }
    flc := { flcIn lateRound with round := 9 } }

theorem monitored_tablesOk (value : Option (Nat × Round)) : (monitored value).TablesOk := by
  constructor <;> simp [monitored, zoneInRound, withZone, State.reset, Spm.afterPower, Rke.afterPower,
    Wgt.afterPower, State.slotsOf, ZoneResult.created, zone2, Zone.created, Monitor.created, mast2]

/-- RoundCloseDeliversEveryZone: the monitor of section 5.11 at 310, one at the background, one past the scale,
one of 9 rounds before, and none: the measured index and BLIND. -/
theorem witness_monitors :
    ([some (310, 9), some (40, 1), some (20000, 5), some (310, 0), none] : List (Option (Nat × Round))).map
        (fun v => ((after .roundClose (monitored v)).zoneResult 2).map (fun r => (r.measured, r.blind)))
      = [some (450, false), some (0, false), some (1000, false), some (0, true), some (0, true)]
      ∧ (∀ v ∈ ([some (310, 9), none] : List (Option (Nat × Round))),
          (monitored v).flc.mode.runs = true ∧ (monitored v).flc.progress = some lateRound) := by
  decide +kernel

/-- RoundCloseDeliversEveryZone. -/
theorem witness_deliveries :
    (zoneInRound .afterPower).flc.mode.runs = true
      ∧ (zoneInRound .afterPower).flc.progress = some lateRound ∧ lateRound.closed = false
      ∧ (zoneInRound .afterPower).cau.state ≠ .accepted ∧ (zoneInRound .afterPower).TablesOk :=
  ⟨by decide, by decide, by decide, by decide, zoneInRound_tablesOk _⟩

/-- RoundCloseEvaluatesTheSite: the parameters in force, no current gauge, and one with each band of a
candidate. -/
theorem witness_site :
    (zoneInRound .afterPower).flc.mode.runs = true
      ∧ ((zoneInRound .afterPower).closing lateRound).cau.site.tParch
          < ((zoneInRound .afterPower).closing lateRound).cau.site.tDamp
      ∧ (after .roundClose (zoneInRound .afterPower)).spm.gaugesAtClose = 0
      ∧ (∀ x ∈ ([(80, false, .damp), (40, false, .dry), (20, false, .parched), (80, true, .wet)]
            : List (Nat × Bool × Band)),
          let s := { zoneInRound .afterPower with
            spm := { Spm.afterPower with
              gauges := [{ Gauge.created 3 with reading := some ⟨x.1, x.2.1, false, 0⟩ }]
              pendingBand := some x.2.2, persistence := 239 } }
          (after .roundClose s).spm.lowestRh = some x.1 ∧ (after .roundClose s).spm.band = x.2.2) := by
  decide +kernel

/-- RoundCloseAssessesPilesAndPaths: the pile, the path and the zone of section 5.11 with a lead mast. -/
def assessed : State :=
  { ringIn (some ⟨120, 250, false⟩) gustyRing (some 53248) with
    spm := { Spm.afterPower with piles := [pile3] }
    zwc := { zones := [zone2 .clear] }
    rke := { paths := [⟨{ pile := 3, zone := 2, bearing := 62, halfWidth := 20, distance := 800 }, none⟩]
             zones := [ZoneResult.created cfg2], winds := [⟨3, none⟩] } }

theorem witness_assessment_tables : assessed.TablesOk := by constructor <;> decide +kernel

theorem witness_assessment :
    assessed.flc.mode.runs = true ∧ assessed.flc.progress = some lateRound
      ∧ (after .roundClose assessed).wgt.windBlind = false
      ∧ ((after .roundClose assessed).zoneResult 2).map (fun r => (r.sum, r.modelled, r.dominant))
          = some (11696, 584, some 3)
      ∧ (after .roundClose { assessed with
          wgt := { Wgt.afterPower with masts := [Mast.created 2] } }).wgt.windBlind = true := by decide +kernel

/-- ApplyIsAllOrNothing: a set that passes its checks and one that does not. -/
theorem witness_apply :
    (zoneInRound (setOf .accepted [.site .afterPower])).cau.state = .accepted
      ∧ (zoneInRound (setOf .accepted [.site .afterPower])).TablesOk
      ∧ (zoneInRound (setOf .accepted [.site .afterPower])).checkSet = none
      ∧ (zoneInRound (setOf .accepted [item1])).cau.state = .accepted
      ∧ (zoneInRound (setOf .accepted [item1])).TablesOk
      ∧ (zoneInRound (setOf .accepted [item1])).checkSet ≠ none :=
  ⟨by decide, zoneInRound_tablesOk _, by decide, by decide, zoneInRound_tablesOk _, by decide⟩

/-- A set that re-identifies the mast of slot 2, gives zone 2 another fall dwell, and creates zone 3. -/
def changes : List Item :=
  [.station { slot := 2, identity := 9, kind := .mast, ring := 6 }, .zone { cfg2 with monitors := [], dwell := 41 },
   .zone { cfg2 with zone := 3, monitors := [] }]

/-- A late round that applies them, with the mast ACTIVE and in the queue, and a port that sends. -/
def changing : State :=
  { mastIn lateRound (mast2 .active) 0 with
    cau := setOf .accepted changes
    srg := { Srg.afterPower with stations := [mast2 .active], queue := [2, 5] }
    zwc := { zones := [{ zone2 .watch with dwell := 7, riseWarn := 1 }] }
    rke := { Rke.afterPower with zones := [ZoneResult.created cfg2] }
    pif := { State.reset.pif with t := { PortState.afterPower with
      sending := some { frame := { content := [0x45], releases := false, busy := false }, ends := 0 } } } }

theorem changing_tablesOk : changing.TablesOk := by constructor <;> decide +kernel

/-- ApplyIsAllOrNothing: a set of different keys that passes its checks, and a port that sends. -/
theorem witness_apply_parts :
    changing.cau.state = .accepted ∧ changing.checkSet = none
      ∧ changing.cau.items.Pairwise (fun x y => x.key ≠ y.key)
      ∧ (∀ x ∈ changing.cau.items, ∀ m n, x.key = .path m n → n ≤ 16)
      ∧ (changing.pif.port .t).sending ≠ none ∧ changing.flc.mode.runs = true
      ∧ changing.flc.progress = some lateRound
      ∧ changing.occupant 2 ≠ (changing.closing lateRound).occupant 2
      ∧ (zoneInRound (setOf .accepted [item1])).checkSet = some (.noTarget, 1) := by
  refine ⟨by decide, by decide +kernel, by decide +kernel, ?_, by decide, by decide, by decide, by decide +kernel,
    by decide +kernel⟩
  intro x hx m n h
  simp only [changing, setOf, changes, List.mem_cons, List.not_mem_nil, or_false] at hx
  rcases hx with rfl | rfl | rfl <;> simp [Item.key] at h

/-- R40, R132: the station is SILENT, out of the queue and revoked; the zone keeps its level and starts its
counters anew; the new zone stands at CLEAR. -/
theorem test_apply_parts :
    let u := changing.closing lateRound
    (u.station 2).map (fun x => (x.live, x.grant)) = some (.silent, none) ∧ u.srg.queue = [5]
      ∧ u.srg.revocations = [2]
      ∧ (u.zone 2).map (fun z => (z.level, z.dwell, z.riseWarn)) = some (.watch, 0, 0)
      ∧ (u.zone 3).map (fun z => z.level) = some .clear := by decide +kernel

/-- ShortsRetryThenLatch: the 7th and the 8th short on line 32, a zone that owns it, and a line that is OFF. -/
theorem witness_short :
    (∀ k ∈ [6, 7],
      ((withLine 32 (fun l => { driving l with short := k })).line 32).map (fun l => (l.state, l.short))
        = some (.on, k))
      ∧ (State.reset.line 1).map (fun l => l.state) = some .off
      ∧ ({ State.reset with
          zwc := { zones := [Zone.created { cfg2 with zone := 16 }] } }).zone (zoneOfLine 32)
          = some (Zone.created { cfg2 with zone := 16 }) := by decide

/-- ShortsRetryThenLatch: the end of a wait, for a demand that calls for driving and one that does not. -/
theorem witness_retry :
    ((withLine 1 (fun l => { driving l with state := .retryWait, retryEnd := some 2 })).line 1).map
        (fun l => (l.state, l.retryEnd)) = some (.retryWait, some 2)
      ∧ State.reset.oda.calls .on = true ∧ State.reset.oda.calls .off = false := by decide

/-- PhasesAndCleanSecondsReachTheLines: a line that flashes, one in RETRY_WAIT and one that is steady. -/
theorem witness_phase_change :
    generatorDemand .slow = .slow
      ∧ ((withLine 1 (fun l => { driving l with demand := .slow })).line 1).map (fun l => (l.state, l.demand))
          = some (.on, .slow)
      ∧ ((withLine 1 (fun l => { l with state := .retryWait })).line 1).map (fun l => l.state)
          = some .retryWait
      ∧ Demand.steady ≠ generatorDemand .fast := by decide

/-- PhasesAndCleanSecondsReachTheLines: the counts 8 and 9 of an engaged line, and a line that is not engaged. -/
theorem witness_clean_tick :
    (∀ k ∈ [8, 9],
      ((withLine 1 (fun l => { driving l with clean := k })).line 1).map (fun l => (l.engaged, l.clean))
        = some (true, k))
      ∧ (State.reset.line 1).map Line.engaged = some false := by decide

/-- ThreeChecksMoveTheOpenFlag: a line that has driven for 100 ms and one that has driven for less, on
lines 1 and 32, with and without current. -/
theorem witness_line_check :
    (∀ n ∈ [1, 32], ((withLine n driving).line n).map (fun l => (l.checkCounts 100000, l.checkCounts 99999))
        = some (true, false))
      ∧ (1#32).getLsbD (1 - 1) = true ∧ (1#32).getLsbD (32 - 1) = false := by decide

/-- ClearLineReleasesALatch: lines 1 and 32 latched, a line that is not, and the numbers 0 and 33. -/
theorem witness_clear_line :
    (∀ n ∈ ([1, 32] : List Byte), 1 ≤ n.toNat ∧ n.toNat ≤ 32
        ∧ ((withLine n.toNat (fun l => { l with state := .latched, short := 8 })).line n.toNat).map
            (fun l => l.state) = some .latched
        ∧ (State.reset.line n.toNat).map (fun l => l.state) = some .off)
      ∧ (0 : Byte).toNat = 0 ∧ 32 < (33 : Byte).toNat := by decide

/-- Zone 2 with its sign line latched and its siren line OPEN or not. -/
def faultyZone (openFlag : Bool) : State :=
  (({ withZone { zone2 .warn with dark := true } with now := 200000 }).updLine 3 (fun l =>
    { l with state := .latched, short := 8 })).updLine 4 (fun l =>
      { driving l with openFlag := openFlag, openMiss := 2, openPresent := 2 })

/-- ClearLineReleasesALatch: line 3 of zone 2, its OPEN flag clear; DARK ends with it. -/
theorem witness_clear_dark :
    ((faultyZone true).line (3 : Byte).toNat).map (fun l => (l.state, l.openFlag)) = some (.latched, false)
      ∧ ((faultyZone true).zone (zoneOfLine 3)).map (fun z => z.dark) = some true
      ∧ ((after (.clearLine .q 1 3) (faultyZone true)).zone 2).map (fun z => z.dark) = some false := by
  decide +kernel

/-- ThreeChecksMoveTheOpenFlag: the third check in a row that finds no current, and the third that finds some,
on the other line of a zone with a latched line: OPEN, with DARK kept, and OPEN_CLEARED, with DARK ended. -/
theorem witness_open_flag :
    (∀ f ∈ [true, false], ((faultyZone f).line 4).map (Line.checkCounts (faultyZone f).now) = some true
        ∧ ((faultyZone f).zone (zoneOfLine 4)).map (fun z => z.dark) = some true)
      ∧ (((faultyZone false).checkLine 0 4).line 4).map (fun l => l.openFlag) = some true
      ∧ (((faultyZone false).checkLine 0 4).zone 2).map (fun z => z.dark) = some true
      ∧ (((faultyZone true).checkLine 8 4).line 4).map (fun l => l.openFlag) = some false
      ∧ (((faultyZone true).checkLine 8 4).zone 2).map (fun z => z.dark) = some false
      ∧ State.reset.zone (zoneOfLine 4) = none := by decide +kernel

/-- FloorsRaiseTheirZoneAndEndWithoutAFall: below, at and above the level of the floor, the role Q at ALERT, a
zone without a floor, the zones 0 and 17, the levels 3 and 4, and a zone that is not configured. -/
theorem witness_floor :
    (∀ l ∈ [Level.clear, .warn, .alert], (withZone (zone2 l)).zone (2 : Byte).toNat = some (zone2 l)
        ∧ (zone2 l).floorOf .t = none)
      ∧ levelOfCode (2 : Byte).toNat = some .warn ∧ levelOfCode (3 : Byte).toNat = some .alert
      ∧ ¬(Port.t = .t ∧ Level.warn = .alert) ∧ ¬(Port.q = .t ∧ Level.alert = .alert)
      ∧ 1 = min 240 (max 1 (0 : BitVec 16).toNat) ∧ 240 = min 240 (max 1 (65535 : BitVec 16).toNat)
      ∧ (0 : Byte).toNat = 0 ∧ 16 < (17 : Byte).toNat ∧ 4 ≤ (4 : Byte).toNat ∧ (3 : Byte).toNat ≤ 3
      ∧ State.reset.zone (1 : Byte).toNat = none ∧ State.reset.zone (16 : Byte).toNat = none := by
  decide

/-- FloorsRaiseTheirZoneAndEndWithoutAFall: the ends, for both roles. -/
theorem witness_floor_end :
    let z := { zone2 .warn with tFloor := some ⟨.warn, 60⟩, qFloor := some ⟨.watch, 120⟩ }
    (withZone z).zone (2 : Byte).toNat = some z ∧ z.floorOf .t = some ⟨.warn, 60⟩
      ∧ z.floorOf .q = some ⟨.watch, 120⟩ := by decide

/-- AckStopsTheSiren: an alert that is not acknowledged, one that is, and a level below ALERT. -/
theorem witness_ack :
    (withZone { zone2 .alert with alert := .unacked }).zone (2 : Byte).toNat
        = some { zone2 .alert with alert := .unacked }
      ∧ ({ zone2 .alert with alert := .acked }).alert ≠ .unacked ∧ (zone2 .warn).level ≠ .alert := by decide

/-- SilenceRunsToItsExpiry: 0, 30 and 65535 minutes, and a silence in force. -/
theorem witness_silence :
    (withZone { zone2 .alert with silence := some 60 }).zone (2 : Byte).toNat
        = some { zone2 .alert with silence := some 60 }
      ∧ 0 = min 30 (0 : BitVec 16).toNat ∧ 30 = min 30 (30 : BitVec 16).toNat
      ∧ 30 = min 30 (65535 : BitVec 16).toNat := by decide

/-- ServiceTakesTheSignsOut: both states, from each, and two that are neither. -/
theorem witness_service :
    (withZone (zone2 .warn)).zone (2 : Byte).toNat = some (zone2 .warn)
      ∧ serviceOfCode (1 : Byte).toNat = some .inService
      ∧ serviceOfCode (2 : Byte).toNat = some .outOfService ∧ (zone2 .warn).service = .inService
      ∧ (zone2 .warn).service ≠ .outOfService ∧ (0 : Byte).toNat ≠ 1 ∧ (3 : Byte).toNat ≠ 2 := by decide

/-- TestsRunTenSeconds: zones 1 and 16 at CLEAR and at WATCH, at WARN, at ALERT and during a test. -/
theorem witness_test :
    (∀ n ∈ ([1, 16] : List Byte), 1 ≤ n.toNat ∧ n.toNat ≤ 16
        ∧ (withZone (Zone.created { cfg2 with zone := n.toNat })).zone n.toNat
            = some (Zone.created { cfg2 with zone := n.toNat }))
      ∧ (zone2 .watch).level = .watch ∧ (zone2 .watch).testEnd = none ∧ (zone2 .warn).level = .warn
      ∧ (zone2 .alert).level = .alert
      ∧ (withZone { zone2 .watch with testEnd := some 10 }).zone 2
          = some { zone2 .watch with testEnd := some 10 } := by decide

/-- ZoneCommandsNeedTheirZone: the numbers 0 and 17, and the zones 1 and 16 without an entry. -/
theorem witness_zone_number :
    (0 : Byte).toNat = 0 ∧ 16 < (17 : Byte).toNat ∧ State.reset.zone (1 : Byte).toNat = none
      ∧ State.reset.zone (16 : Byte).toNat = none ∧ (serviceOfCode (2 : Byte).toNat).isSome := by decide

/-- AckLossReadmitsTheStation: LOST, RETURNED with 7 and with 8 in the queue, another state, no station,
the numbers 0 and 49. -/
theorem witness_ack_loss :
    (∀ x ∈ [mast2 .lost, mast2 .returned, mast2 .active],
      (inRoundWith inRound x).station (2 : Byte).toNat = some x)
      ∧ (List.range 7).length < 8 ∧ 8 ≤ (List.range 8).length
      ∧ ({ Srg.afterPower with stations := [mast2 .returned], queue := List.range 8 }).queue.length = 8
      ∧ State.reset.station (1 : Byte).toNat = none ∧ State.reset.station (48 : Byte).toNat = none
      ∧ (0 : Byte).toNat = 0 ∧ 48 < (49 : Byte).toNat := by decide

/-- ReportsReachOnePile: piles 1 and 24, and a pile that is not configured. -/
theorem witness_reports :
    (∀ n ∈ ([1, 24] : List Byte), 1 ≤ n.toNat ∧ n.toNat ≤ 24
        ∧ (withPile { pile3 with cfg := { pile3.cfg with pile := n.toNat } }).pile n.toNat
            = some { pile3 with cfg := { pile3.cfg with pile := n.toNat } }
        ∧ State.reset.pile n.toNat = none)
      ∧ reportedActivity (1 : Byte).toNat = some .idle ∧ reportedActivity (2 : Byte).toNat = some .working := by
  decide

/-- A staged removal of the path from pile 3 to zone 2, and one of item kind 6. -/
def removal : List Byte := [0x06, 0x04, 0x03, 0x02]
def badRemoval : List Byte := [0x06, 0x06, 0x00, 0x00]

/-- StageFillsTheSet: a good and a bad item, on a FREE set, on the owner's OPEN set (the same key, a new
key with 63 and with 64 items), on the owner's PROPOSED set, on an ACCEPTED one, and from the other side. -/
theorem witness_stage :
    itemFormat removal = true ∧ checkItem removal = .good item1 ∧ itemFormat badRemoval = true
      ∧ checkItem badRemoval = .bad 1 ∧ State.reset.cau.state = .free
      ∧ (setOf .opened [item1]).state = .opened ∧ (setOf .opened [item1]).owner = some .t
      ∧ (setOf .opened [item1]).owner ≠ some .q
      ∧ stagedIndex item1.key 1 [.site .afterPower, item1] = some 2
      ∧ stagedIndex item1.key 1 (List.replicate 64 (Item.site .afterPower)) = none
      ∧ (List.replicate 63 (Item.site .afterPower)).length < 64
      ∧ 64 ≤ (List.replicate 64 (Item.site .afterPower)).length
      ∧ (setOf .proposed [item1]).state = .proposed ∧ (setOf .accepted [item1]).state = .accepted := by
  decide +kernel

/-- DiscardAndProposeAreTheOwners and AcceptAndRefuseAreTheCounterpartys: the four
states of the set, its owner and its counterparty, the right number, another one and 0. -/
theorem witness_agreement :
    (∀ st ∈ [SetState.opened, .proposed, .accepted],
      (setOf st [item1]).state = st ∧ st ≠ .free ∧ (setOf st [item1]).owner = some .t
        ∧ (setOf st [item1]).owner ≠ some .q ∧ (255 : Byte).toNat = (setOf st [item1]).number
        ∧ (1 : Byte).toNat ≠ (setOf st [item1]).number)
      ∧ State.reset.cau.state = .free ∧ (255 : Byte) ≠ 0 ∧ (1 : Byte) ≠ 0 := by decide

/-- ExpiriesFreeTheSet. -/
theorem witness_set_expiries :
    (setOf .opened [item1]).idleExpiry = some 300 ∧ (setOf .proposed [item1]).proposalExpiry = some 120
      ∧ State.reset.cau.state ≠ .opened ∧ State.reset.cau.state ≠ .proposed := by decide

/-- CommandsAreJudgedInOrder: tag 0, a wrong format, a role without the authority, and a good command. -/
theorem witness_judgement :
    (Command.stage []).formatGood = false ∧ (Command.stage removal).formatGood = true
      ∧ (Command.stage removal).allowed .s = false ∧ (Command.stage removal).allowed .t = true := by
  decide +kernel

/-- FramesAreHeldOrRefused: a flag that opens a frame (the receiver hunts, no byte, 75 bytes, one moment past
the limit), a frame of 74 bytes at the limit, one that is not well-formed, a well-formed one with nothing held,
with one command held and with two, and a master that is SILENT. -/
theorem witness_frame :
    State.reset.pif.t.receiver = .hunting
      ∧ ((State.reset.setReceiver .t (.inside 0)).pif.port .t).receiver = .inside 0
      ∧ overLong (List.replicate 75 0x01) = true ∧ overLong (List.replicate 74 0x01) = false
      ∧ (Receiver.inside 0).opensFrame 100000 statusBytes = false
      ∧ (Receiver.inside 0).opensFrame 100001 statusBytes = true
      ∧ overLong statusBytes = false ∧ statusBytes ≠ []
      ∧ wellFormedContent (List.replicate 74 0x01) false = none ∧ wellFormedContent statusBytes true = none
      ∧ wellFormedContent statusBytes false = some [0x01, 0x01]
      ∧ ((holding none none).pif.port .t).executing = none
      ∧ ((holding (some [1, 1]) none).pif.port .t).waiting = none
      ∧ ((holding (some [1, 1]) (some [1, 2])).pif.port .t).waiting = some [1, 2]
      ∧ (State.reset.pif.watch .t).map (fun w => w.master) ≠ some .silent
      ∧ ((after (.masterSilenceExpiry .t) State.reset).pif.watch .t).map (fun w => w.master)
          = some .silent := by decide +kernel

/-- FramesAreHeldOrRefused: a receiver inside a frame at its time limit. -/
theorem witness_receiver :
    ((State.reset.setReceiver .q (.inside 5)).pif.port .q).receiver = .inside 5 := by decide

/-- A port that sends a frame. -/
def sending (releases : Bool) (waiting : Option (List Byte)) (responses : List TxFrame)
    (notices : List Queued) : State :=
  State.reset.updPort .t (fun p =>
    { p with
      executing := some [1, 1], waiting := waiting, responses := responses, notices := notices,
      sending := some { frame := { content := [1, 1, 0, 129], releases := releases, busy := false },
                        ends := 1000 } })

/-- TransmitterSendsResponsesFirst: a response, a notice or nothing to send next, and a waiting command. -/
theorem witness_transmitter :
    let f : TxFrame := { content := [2, 1, 0, 129], releases := true, busy := false }
    let n : Queued := ⟨.routine, 0, .loop (Flc.afterPower.notice 0)⟩
    ((sending false none [f] []).pif.port .t).responses = f :: []
      ∧ ((sending true none [] [n]).pif.port .t).notices = n :: []
      ∧ ((sending true none [] []).pif.port .t).notices = []
      ∧ ((sending true (some [1, 2]) [] []).pif.port .t).waiting = some [1, 2]
      ∧ (∀ b ∈ [false, true], ((sending b none [] []).pif.port .t).sending.map (fun x => x.frame.releases)
          = some b) := by decide

/-- ReadsAnswerAndChangeNothing: a tag, and zones 1 and 16. -/
theorem witness_reads :
    (1 : Byte) ≠ 0 ∧ (255 : Byte) ≠ 0
      ∧ (∀ n ∈ ([1, 16] : List Byte),
          (withZone (Zone.created { cfg2 with zone := n.toNat })).zone n.toNat
            = some (Zone.created { cfg2 with zone := n.toNat })) := by decide

/-- ConfigItemsAreRead: index 0, an index with and without an item, 64 and 65, a kind and a first key byte that
are not 0, a key that is configured, one that is not, one out of range, the kinds 0 and 6, and the sources 0
and 3. -/
theorem witness_config_item :
    let s := { withZone (zone2 .clear) with cau := setOf .opened [item1] }
    s.cau.items[(1 : Byte).toNat - 1]? = some item1 ∧ s.cau.items[(64 : Byte).toNat - 1]? = none
      ∧ 64 < (65 : Byte).toNat ∧ (1 : Byte) ≠ 0 ∧ keyOf 3 2 0 = some (.zone 2)
      ∧ (s.inForceBytes (.zone 2)).isSome ∧ keyOf 3 16 0 = some (.zone 16)
      ∧ s.inForceBytes (.zone 16) = none ∧ keyOf 3 17 0 = none ∧ keyOf 3 2 1 = none
      ∧ (0 : Byte).toNat = 0 ∧ 5 < (6 : Byte).toNat ∧ (0 : Byte) ≠ 1 ∧ (3 : Byte) ≠ 2 := by decide +kernel

/-- LogIsReadForward and LogIsReadAtANumber: the newest entry, and the number above it. -/
theorem witness_log :
    State.reset.wrl.entries.find? (fun e => e.seq == 1)
        = some { seq := 1, epoch := 0, round := 0, time := 0, body := .powerUp }
      ∧ (∀ e ∈ State.reset.wrl.entries, e.seq ≠ 2) := by decide

/-- A record that is full from number 1 on, its read point at a given number. -/
def fullRecord (readPoint : Seq) : State :=
  { State.reset with
    wrl := { Wrl.afterPower with
      entries := (List.range 256).map (fun i =>
        { seq := BitVec.ofNat 32 (i + 1), epoch := 0, round := 0, time := 0, body := .powerUp })
      nextSeq := 257, readPoint := readPoint } }

/-- RecordWritesAppendAndOverwrite: a record with a place left; a full one, the read point at the entry that is
lost, and past it. -/
theorem witness_overwrite :
    (fullRecord 1).wrl.entries
        = { seq := 1, epoch := 0, round := 0, time := 0, body := .powerUp }
            :: (fullRecord 1).wrl.entries.drop 1
      ∧ State.reset.wrl.entries.length < 256 ∧ 256 ≤ (fullRecord 1).wrl.entries.length
      ∧ (fullRecord 2).wrl.readPoint ≠ 1 := by decide +kernel

/-- CommandRoundTrip: a STAGE of a whole item. -/
theorem witness_round_trip :
    (1 : Byte) ≠ 0 ∧ (Command.stage removal).formatGood = true := by decide +kernel

/-- A state with something in every part that an invariant speaks of. -/
def busy : State :=
  { withZone { zone2 .warn with tFloor := some ⟨.warn, 60⟩ } with
    flc := { flcIn lateRound with
      announced := copies.map (fun x => (x.side, x.identity)), announces := copies }
    cau := setOf .opened [item1]
    spm := { Spm.afterPower with piles := [pile3] }
    srg := { Srg.afterPower with stations := [mast2 .active] }
    rke := { paths := [⟨{ pile := 3, zone := 2, bearing := 62, halfWidth := 20, distance := 800 }, none⟩]
             zones := [ZoneResult.created cfg2], winds := [⟨3, none⟩] }
    wgt := { Wgt.afterPower with
      nextId := 65535
      masts := [Mast.created 2]
      gusts := [{ id := 65535, state := .opened, openEpoch := 0, openRound := 0, origin := 2,
                  direction := 250, peak := 182, members := [2], lastActive := 0, closedRound := none,
                  merged := false }] } }

/-- StepKeepsTheNoticeQueues, with a notice in a queue. -/
theorem witness_queues :
    let p : PortState :=
      { PortState.afterPower with notices := [⟨.routine, 0, .loop (Flc.afterPower.notice 0)⟩], nextStamp := 1 }
    p.QueueOk ∧ State.reset.QueuesOk := by
  simp only [State.QueuesOk, PortState.QueueOk]
  decide

/-- StepKeepsLevelsAboveFloors. -/
theorem witness_floors : busy.FloorsOk := by
  simp only [State.FloorsOk, Zone.FloorOk]
  decide

/-- StepKeepsTheRecord. -/
theorem witness_record : State.reset.wrl.RecordOk := by
  simp only [Wrl.RecordOk]
  exact ⟨by decide, by decide, by decide, trivial⟩

/-- StepKeepsThePendingSet. -/
theorem witness_set : busy.cau.SetOk :=
  ⟨by decide, by decide, by simp only [busy, setOf, Cau.StateOk, Cau.Held]; decide⟩

/-- StepKeepsTheLines, with a latched line and one in RETRY_WAIT. -/
theorem witness_lines :
    ((withLine 1 (fun l => { l with state := .latched, short := 8 })).updLine 2 (fun l =>
      { l with state := .retryWait, retryEnd := some 2, short := 7 })).LinesOk := by
  simp only [State.LinesOk, Line.LineOk]
  decide +kernel

/-- StepKeepsTheLoop, with announce copies of both sides, and with a SITE item of 7 attempts staged. -/
theorem witness_loop :
    busy.LoopOk ∧ State.reset.LoopOk ∧ (Item.site { SiteParams.afterPower with attempts := 7 }).attemptsOk
      ∧ busy.flc.announces = copies := by
  refine ⟨⟨?_, ?_, by decide, by decide, ?_⟩, ⟨?_, ?_, by decide, by decide, ?_⟩, ?_, rfl⟩
  · simp only [Flc.LoopOk]
    decide
  · simp only [Flc.AnnouncesOk, CopiesDistinct]
    decide
  · simp [busy, setOf, item1, Item.attemptsOk]
  · simp only [Flc.LoopOk]
    decide
  · simp only [Flc.AnnouncesOk, CopiesDistinct]
    decide
  · simp [State.reset, Cau.afterPower]
  · simp [Item.attemptsOk]

/-- StepKeepsTheTables. -/
theorem witness_tables : busy.TablesOk := by constructor <;> decide

/-- StepKeepsTheGustList. -/
theorem witness_gusts : busy.GustsOk := by constructor <;> decide

/-- That state has a next one by a step: its first line check. -/
theorem witness_steps : step busy = .next (after (.lineCheck (Config.senseInput 0)) busy) := rfl

/-- OnlyRisksAndFloorsMoveLevels: a command that is none of those named. -/
theorem witness_other_command :
    exec .cleanCountTick busy = .next (after .cleanCountTick busy)
      ∧ (Instr.cleanCountTick ≠ .power) ∧ (Instr.cleanCountTick ≠ .roundClose) := by
  refine ⟨rfl, by decide, by decide⟩

/-- LevelsFallOneStepAtATime: at CLEAR, at the fall limit of WARN, below it with the dwell at 38 and at 39, and
with a floor that blocks the fall: the level and the dwell after the delivery. -/
theorem witness_dwell :
    [({ zone2 .clear with dwell := 5 }, 0), ({ zone2 .warn with dwell := 39 }, 390),
      ({ zone2 .warn with dwell := 38 }, 389), ({ zone2 .warn with dwell := 39 }, 389),
      ({ zone2 .warn with dwell := 39, tFloor := some ⟨.warn, 60⟩ }, 389)].map
        (fun x => (((withZone x.1).deliverRisk (deliver2 x.2)).zone 2).map (fun z => (z.level, z.dwell)))
      = [some (.clear, 0), some (.warn, 0), some (.warn, 39), some (.watch, 0), some (.warn, 0)]
      ∧ (withZone (zone2 .warn)).zone (deliver2 390).zone = some (zone2 .warn) ∧ 1 ≤ cfg2.dwell := by
  decide +kernel

/-- LevelsFallOneStepAtATime: the fall of section 6.7.1, with a fall dwell of 40 and one of 1. -/
theorem witness_fall :
    (∀ z ∈ [{ zone2 .warn with dwell := 39 }, { zone2 .warn with cfg := { cfg2 with dwell := 1 } }],
      (withZone z).zone (deliver2 389).zone = some z ∧ 1 ≤ z.cfg.dwell
        ∧ (((withZone z).deliverRisk (deliver2 389)).zone 2).map (fun z' => z'.level.rank) = some 1
        ∧ 1 < z.level.rank) := by decide +kernel

/-- RisesCountTheirDeliveries: zone 2 at each level, with the counters at their deglitch counts less one, and a
risk at each threshold and one below it. -/
theorem witness_rise :
    (∀ l ∈ [Level.clear, .watch, .warn, .alert], ∀ r ∈ [249, 250, 449, 450, 699, 700],
      (withZone { zone2 l with riseWatch := 3, riseWarn := 1 }).zone (deliver2 r).zone
        = some { zone2 l with riseWatch := 3, riseWarn := 1 })
      ∧ cfg2.dgAlert ≤ min 16 (0 + 1) ∧ cfg2.dgWarn ≤ min 16 (1 + 1) ∧ cfg2.dgWatch ≤ min 16 (3 + 1) := by
  decide

/-- The T-port's queue with `n` notices of strangers, the first of a class of its own. -/
def strangerQueue (first : NoticeClass) (n : Nat) : PortState :=
  { PortState.afterPower with
    notices := (List.range n).map (fun i =>
      { cls := if i = 0 then first else .routine, stamp := i,
        notice := .stranger { identity := BitVec.ofNat 24 i, kind := .mast, removed := none } })
    nextStamp := n }

/-- NoticesEnterAQueue: a queued notice of the same subject, one without, queues of 31 and of 32, and the
notice that is displaced: the oldest ROUTINE one, after an URGENT one or first. -/
theorem witness_notice_queue :
    let lv : Notice := .level ((zone2 .watch).notice 0 .level .clear .watch)
    let lw : Notice := .level ((zone2 .warn).notice 0 .level .watch .warn)
    lw.subject ≠ none ∧ lv.subject = lw.subject
      ∧ (Notice.stranger { identity := 5, kind := .mast, removed := none }).subject = none
      ∧ (∀ x ∈ (strangerQueue .urgent 32).notices, x.notice.subject ≠ lw.subject)
      ∧ (strangerQueue .routine 31).notices.length < 32 ∧ 32 ≤ (strangerQueue .urgent 32).notices.length
      ∧ ((strangerQueue .urgent 32).queueNotice .urgent lw).notices.map (fun x => x.stamp)
          = 0 :: 32 :: (List.range 30).map (fun i => i + 2)
      ∧ lw.routed .t = true ∧ (Notice.site (.masterSilent .t)).routed .t = false
      ∧ State.reset.pif.t.sending = none ∧ State.reset.pif.t.responses = [] := by decide +kernel

/-- NoticesEnterAQueue: those queues are notice queues. -/
theorem witness_notice_queue_ok :
    (∀ n ∈ [31, 32], (strangerQueue .urgent n).QueueOk) ∧ (strangerQueue .routine 32).QueueOk := by
  simp only [PortState.QueueOk]
  decide +kernel

end Sys2Proof.Tests
end

/-! # The field loop: what its operations do -/

namespace Sys2Proof.Machine

/-! ## The start of a round (R1, R4, R28) -/

/-- The revocations that stand after the grants of a new round are taken out of their list (R28). -/
def State.revocationsLeft (s : State) : List Nat :=
  s.srg.revocations.filter (fun n => decide (n ∉ s.grantsReady))

/-- The station of a slot after a grant (R28). -/
theorem State.station_grantSlot (round : Round) (slot n : Nat) (s : State) :
    (s.grantSlot round slot).station n =
      if n = slot then (s.station n).map (fun x => { x with grant := some round }) else s.station n :=
  s.station_updStation slot n (fun x => { x with grant := some round }) (fun _ => rfl)

/-- Grants handed one after the other: each slot among them carries the round, and its revocation goes. -/
theorem foldl_grantSlot_spec (round : Round) : ∀ (l : List Nat) (s : State),
    (l.foldl (fun s slot => s.grantSlot round slot) s).srg.queue = s.srg.queue
    ∧ (l.foldl (fun s slot => s.grantSlot round slot) s).srg.strangers = s.srg.strangers
    ∧ (l.foldl (fun s slot => s.grantSlot round slot) s).srg.revocations
        = s.srg.revocations.filter (fun n => decide (n ∉ l))
    ∧ ∀ n, (l.foldl (fun s slot => s.grantSlot round slot) s).station n =
        if n ∈ l then (s.station n).map (fun x => { x with grant := some round }) else s.station n
  | [], s => by simp
  | slot :: l, s => by
    obtain ⟨hq, hs, hr, hn⟩ := foldl_grantSlot_spec round l (s.grantSlot round slot)
    refine ⟨hq, hs, ?_, fun n => ?_⟩
    · rw [List.foldl_cons, hr]
      change (s.srg.revocations.filter (fun n => n != slot)).filter _ = _
      rw [List.filter_filter]
      refine List.filter_congr fun n _ => ?_
      by_cases h : n = slot <;> simp [h]
    · rw [List.foldl_cons, hn, State.station_grantSlot]
      by_cases h : n = slot
      · subst h
        by_cases m : n ∈ l <;> cases s.station n <;> simp [m]
      · simp [h]

/-- Step 1 of R28: up to two slots leave the queue, carry the round, and lose their revocation. -/
theorem State.handGrants_spec (round : Round) (s : State) :
    (s.handGrants round).srg.queue = s.srg.queue.drop 2
    ∧ (s.handGrants round).srg.strangers = s.srg.strangers
    ∧ (s.handGrants round).srg.revocations = s.revocationsLeft
    ∧ ∀ n, (s.handGrants round).station n =
        if n ∈ s.grantsReady then (s.station n).map (fun x => { x with grant := some round })
        else s.station n :=
  foldl_grantSlot_spec round s.grantsReady { s with srg.queue := s.srg.queue.drop 2 }

/-- The beacon of a round that starts (R4). -/
def State.beaconFor (round : Round) (s : State) : Beacon :=
  { round := round.truncate 16
    mode := s.flc.mode
    epoch := s.wrl.epoch
    openWindow := windowOpen (s.srg.queue.drop 2)
    grants := s.beaconGrants
    revocations := s.revocationsLeft.take 2 }

/-- The FLC at the start of a round (R1, R4). -/
theorem State.beginRound_flc (round : Round) (start : Time) (s : State) :
    (s.beginRound round start).flc = s.flc.begin round start (s.beaconFor round) := by
  obtain ⟨hq, -, hr, -⟩ := s.handGrants_spec round
  have hf : (s.handGrants round).flc = s.flc := (State.handGrants_keeps ..).flc (by decide)
  have hw : (s.handGrants round).wrl = s.wrl := (State.handGrants_keeps ..).wrl (by decide)
  simp only [State.beginRound, State.handRevocations, State.beaconFor, hq, hr, hf, hw]

/-- The SRG at the start of a round (R28). -/
theorem State.beginRound_srg (round : Round) (start : Time) (s : State) :
    (s.beginRound round start).srg.queue = s.srg.queue.drop 2
    ∧ (s.beginRound round start).srg.strangers = s.srg.strangers
    ∧ (s.beginRound round start).srg.revocations = s.revocationsLeft.drop 2
    ∧ ∀ n, (s.beginRound round start).station n =
        if n ∈ s.grantsReady then (s.station n).map (fun x => { x with grant := some round })
        else s.station n := by
  obtain ⟨hq, hs, hr, hn⟩ := s.handGrants_spec round
  exact ⟨hq, hs, congrArg (List.drop 2) hr, hn⟩

/-! ## The moments of the loop's timed events -/

/-- The end of a listen period (R16). -/
theorem State.endListen_listening {s : State} {e : Time} (hm : s.flc.mode = .listen)
    (hl : s.flc.listen = some (.listening e)) :
    s.endListen =
      ((({ s with now := max s.now e, flc := { s.flc with mode := .running, listen := none } } :
        State).beginRound 0 e).raiseLoop .routine 0) := by
  simp [State.endListen, State.reach, hm, hl]

/-- The end of a back-off (R15). -/
theorem State.endBackOff_backOff {s : State} {e : Time} (hm : s.flc.mode = .listen)
    (hl : s.flc.listen = some (.backOff e)) :
    s.endBackOff =
      { s with now := max s.now e, flc := { s.flc with listen := some (.listening (e + 2000000)) } } := by
  simp [State.endBackOff, State.reach, listenTime, hm, hl]

/-- A foreign beacon in a listen period takes the last start attempt (R15). -/
theorem State.hearForeign_last {s : State} {e : Time} (hm : s.flc.mode = .listen)
    (hl : s.flc.listen = some (.listening e)) (ha : s.flc.attempts ≤ 1) :
    s.hearForeign =
      ({ s with flc := { s.flc with
          attempts := 0, mode := .halted, listen := none, halt := some .foreignBeacon } } :
        State).raiseLoop .urgent 0 := by
  have : s.flc.attempts - 1 = 0 := by omega
  simp [State.hearForeign, hm, hl, this]

/-- A foreign beacon in a listen period takes a start attempt that is not the last (R15). -/
theorem State.hearForeign_more {s : State} {e : Time} (hm : s.flc.mode = .listen)
    (hl : s.flc.listen = some (.listening e)) (ha : 1 < s.flc.attempts) :
    s.hearForeign =
      ({ s with flc := { s.flc with
          attempts := s.flc.attempts - 1, listen := some (.backOff (s.now + 1000000)) } } :
        State).raiseLoop .routine 0 := by
  have : ¬ s.flc.attempts - 1 = 0 := by omega
  simp [State.hearForeign, backOffTime, hm, hl, this]

/-- No foreign beacon is heard outside a listen period (R15). -/
theorem State.hearForeign_of_not_listening {s : State}
    (h : ∀ e, s.flc.mode = .listen → s.flc.listen ≠ some (.listening e)) : s.hearForeign = s := by
  unfold State.hearForeign
  split
  · rename_i hm hl; exact absurd hl (h _ hm)
  · rfl

/-- The start of the next round (R1, R2). -/
theorem State.startRound_closed {s : State} {p : Progress} (hr : s.flc.mode.runs = true)
    (hp : s.flc.progress = some p) (hc : p.closed = true) :
    s.startRound =
      ({ s with now := max s.now (p.start + 250000) } : State).beginRound (s.flc.round + 1)
        (p.start + 250000) := by
  simp [State.startRound, State.reach, roundTime, hr, hp, hc]

/-- Phase B-out begins (R5). -/
theorem State.startPhaseB_phaseA {s : State} {p : Progress} (hr : s.flc.mode.runs = true)
    (hp : s.flc.progress = some p) (hb : p.phaseB = false) (hc : p.closed = false)
    (hn : p.slotsEnded = 0) :
    s.startPhaseB =
      { s with
        now := max s.now (p.start + 2500)
        flc := { s.flc with progress := some { p with phaseB := true } } } := by
  simp [State.startPhaseB, State.reach, phaseBTime, hr, hp, hb, hc, hn]

end Sys2Proof.Machine

/-! # POWER, the listen period and the start of a round -/

namespace Sys2Proof.Machine

/-- Settles O3: POWER puts every block at its reset value. -/
theorem powerEmptiesTheCoordinator : Obligations.PowerEmptiesTheCoordinator := by
  intro s
  have numbers : Oda.afterPower.lines.map (fun l => l.line) = (List.range 32).map (fun i => i + 1) := by
    decide
  have lines : ∀ l ∈ Oda.afterPower.lines, l = Line.afterPower l.line := by decide
  refine ⟨{ State.reset with pending := s.pending }, rfl, rfl, rfl, rfl, rfl, rfl, rfl, rfl, rfl, rfl, rfl,
    rfl, rfl, rfl, rfl, rfl, rfl, rfl, rfl, rfl, rfl, rfl, rfl, rfl, rfl, rfl, numbers, lines, rfl, rfl,
    rfl, ?_, rfl, rfl, rfl, rfl, rfl, rfl, rfl⟩
  intro p
  cases p <;> rfl

/-- The slots of the grants are those at the head of the queue. -/
theorem State.beaconGrants_slots (s : State) :
    s.beaconGrants.map (fun g => g.2) = s.srg.queue.take 2 := by
  simp only [State.beaconGrants, State.grantsReady, List.map_map]
  exact List.map_id' _

/-- Settles O7: the end of a listen period, a foreign beacon in it, and the back-off after one. -/
theorem listenPeriodsStartOrBackOff : Obligations.ListenPeriodsStartOrBackOff := by
  refine ⟨fun s e hm hl => ?_, fun s e hm hl => ?_, fun s e hm hl => ?_⟩
  · have begun := fun u : State => State.beginRound_keeps 0 e u
    refine ⟨s.endListen, rfl, State.endListen_keeps s, State.endListen_quiet s, ?_⟩
    rw [State.endListen_listening hm hl, State.raiseLoop, State.raise_flc, State.raise_now, State.raise_srg,
      State.beginRound_flc, (begun _).now (by decide), (State.beginRound_srg ..).1]
    exact ⟨rfl, rfl, rfl, rfl, rfl, rfl, rfl,
      State.raise_pif_congr _ _ ((begun _).pif (by decide)) ((begun _).now (by decide)),
      ⟨_, rfl, rfl, rfl, rfl, State.beaconGrants_slots _⟩, rfl⟩
  · refine ⟨s.hearForeign, rfl, State.hearForeign_keeps s, State.hearForeign_quiet s, ?_⟩
    rcases Nat.lt_or_ge 1 s.flc.attempts with ha | ha
    · rw [State.hearForeign_more hm hl ha]
      refine ⟨rfl, rfl, rfl, rfl, fun h => absurd ha (Nat.not_lt.mpr h), fun _ => ⟨hm, rfl, rfl, ?_⟩⟩
      simp only [State.raiseLoop, Flc.notice, hm]
      rfl
    · rw [State.hearForeign_last hm hl ha]
      exact ⟨(Nat.sub_eq_zero_of_le ha).symm, rfl, rfl, rfl, fun _ => ⟨rfl, rfl, rfl, rfl⟩,
        fun h => absurd h (Nat.not_lt.mpr ha)⟩
  · have deaf : s.hearForeign = s :=
      State.hearForeign_of_not_listening fun e' _ h => by simp [hl] at h
    have ended := State.endBackOff_backOff hm hl
    exact ⟨congrArg Host.Outcome.next deaf,
      s.endBackOff, rfl, State.endBackOff_keeps s, by rw [ended], by rw [ended]⟩

/-- Settles O8: the start of a round, and phase B-out with the side that receives from then on. -/
theorem roundsStartWithTheirBeacon : Obligations.RoundsStartWithTheirBeacon := by
  refine ⟨fun s p hr hp hc => ?_, fun s p hr hp hb hc hn => ?_⟩
  · refine ⟨s.startRound, rfl, State.startRound_keeps s, ?_⟩
    rw [State.startRound_closed hr hp hc]
    obtain ⟨hq, hs, hrev, hst⟩ := State.beginRound_srg (s.flc.round + 1) (p.start + 250000)
      { s with now := max s.now (p.start + 250000) }
    rw [State.beginRound_flc, (State.beginRound_keeps ..).now (by decide)]
    refine ⟨rfl, rfl, rfl, rfl, rfl, rfl, rfl, rfl, rfl, hq, hs, fun n x hx hm => ?_, fun n hm => ?_,
      ⟨_, rfl, rfl, rfl, rfl, rfl, rfl, rfl, hrev⟩⟩
    · exact (hst n).trans ((if_pos hm).trans (congrArg (Option.map _) hx))
    · exact (hst n).trans (if_neg hm)
  · have ht := State.startPhaseB_phaseA hr hp hb hc hn
    refine ⟨s.startPhaseB, rfl, State.startPhaseB_keeps s, by rw [ht], by rw [ht], fun q hq => ?_⟩
    obtain rfl : { p with phaseB := true } = q := by simpa [ht] using hq
    simp [Progress.receives, sideReceives, Progress.inWindow, hc, hn]

end Sys2Proof.Machine

/-! # The copies of a round (R5 to R12) -/

namespace Sys2Proof.Machine

/-! ## Framing and the layout of a beacon (R194, R195) -/

/-- A byte that is no escape stands for itself. -/
theorem unstuff_cons {b : Byte} (hb : b ≠ escapeByte) (l : List Byte) :
    unstuff (b :: l) = (unstuff l).map (fun x => b :: x) := by
  cases l <;> simp [unstuff, hb]

/-- Removing the stuffing undoes the stuffing. -/
theorem unstuff_stuff : ∀ l : List Byte, unstuff (stuff l) = some l
  | [] => rfl
  | b :: l => by
    have ih := unstuff_stuff l
    by_cases hf : b = flagByte
    · subst hf
      simp [stuff, unstuff, ih]
    · by_cases he : b = escapeByte
      · subst he
        simp [stuff, unstuff, ih, hf]
      · simp [stuff, hf, he, unstuff_cons he, ih]

/-- A content that is framed passes framing and CRC. -/
theorem deframe_stuff (content : List Byte) :
    deframe (stuff (content ++ crcBytes content)) = some content := by
  simp [deframe, unstuff_stuff, crcBytes, bytes2]

/-- Stuffing leaves a leading BEACON code in its place. -/
theorem stuff_head_beaconCode (l : List Byte) : (stuff (beaconCode :: l)).head? = some beaconCode := by
  simp [stuff, beaconCode, flagByte, escapeByte]

/-- A beacon of a round has the layout of one (R195). -/
theorem Beacon.layout {b : Beacon} (hm : b.mode.runs = true) (hg : b.grants.length ≤ 2)
    (hr : b.revocations.length ≤ 2) : beaconLayout b.content = true := by
  have mode : (BitVec.ofNat 8 b.mode.code == 0x01#8 || BitVec.ofNat 8 b.mode.code == 0x02#8) = true := by
    cases h : b.mode <;> simp [h, LoopMode.runs, LoopMode.code] at hm ⊢
  have window : (BitVec.ofNat 8 (if b.openWindow then 1 else 0) == 0x00#8
      || BitVec.ofNat 8 (if b.openWindow then 1 else 0) == 0x01#8) = true := by
    cases b.openWindow <;> decide
  have counts : (BitVec.ofNat 8 (b.grants.length * 16 + b.revocations.length)).toNat
      = b.grants.length * 16 + b.revocations.length := by simp; omega
  have grants : (b.grants.length * 16 + b.revocations.length) / 16 = b.grants.length := by omega
  have revocations : (b.grants.length * 16 + b.revocations.length) % 16 = b.revocations.length := by omega
  simp only [beaconLayout, Beacon.content, bytes1, bytes2, List.cons_append, List.nil_append]
  rw [mode, window, counts, grants, revocations]
  simp [hg, hr, grantBytes, bytes3, bytes1, Nat.mul_comm]

/-- A beacon of a round passes framing, CRC and layout (R7). -/
theorem Beacon.parse_wire {b : Beacon} (hm : b.mode.runs = true) (hg : b.grants.length ≤ 2)
    (hr : b.revocations.length ≤ 2) :
    parseLoopCopy (stuff (b.content ++ crcBytes b.content)) = some (.beacon b.content) := by
  have kind : loopFrameOf b.content
      = if beaconLayout b.content then some (.beacon b.content) else none := rfl
  rw [parseLoopCopy, deframe_stuff]
  exact kind.trans (if_pos (Beacon.layout hm hg hr))

/-- A beacon's copy begins with the BEACON code. -/
theorem Beacon.wire_head (b : Beacon) :
    (stuff (b.content ++ crcBytes b.content)).head? = some beaconCode := stuff_head_beaconCode _

/-! ## The judgement of a copy (R7, R8, R10, R11) -/

section
variable {s : State} {side : Side} {w : Window} {e : CopyEnd} {bytes : List Byte}

/-- A copy that does not complete in its window fails the boundary check. -/
theorem boundaryCopy_late (he : e ≠ .inWindow) : boundaryCopy w e bytes = true := by
  simp [boundaryCopy, he]

/-- A copy in the quiet gap without the BEACON code fails the boundary check. -/
theorem boundaryCopy_quietGap (hb : bytes.head? ≠ some beaconCode) :
    boundaryCopy .quietGap e bytes = true := by
  simp [boundaryCopy, hb]

/-- Any other copy passes it. -/
theorem boundaryCopy_inWindow (h : w ≠ .quietGap ∨ bytes.head? = some beaconCode) :
    boundaryCopy w .inWindow bytes = false := by
  rcases h with h | h <;> simp [boundaryCopy, h]

theorem State.judgeCopy_boundary (h : boundaryCopy w e bytes = true) :
    s.judgeCopy side w e bytes = (.boundaryViolation, s.flc) := by simp [State.judgeCopy, h]

theorem State.judgeCopy_unparsed (h : boundaryCopy w e bytes = false) (hp : parseLoopCopy bytes = none) :
    s.judgeCopy side w e bytes = (.syntaxError, s.flc) := by simp [State.judgeCopy, h, hp]

theorem State.judgeCopy_beacon {content : List Byte} (h : boundaryCopy w e bytes = false)
    (hp : parseLoopCopy bytes = some (.beacon content)) :
    s.judgeCopy side w e bytes = s.flc.judgeBeacon side w content := by simp [State.judgeCopy, h, hp]

theorem State.judgeCopy_station {x : StationFrame} {n : Nat} (h : boundaryCopy (.slot n) e bytes = false)
    (hp : parseLoopCopy bytes = some (.station x)) :
    s.judgeCopy side (.slot n) e bytes
      = s.flc.judgeStation side n ((s.station n).map (fun y => y.cfg)) x := by
  simp [State.judgeCopy, h, hp]

theorem State.judgeCopy_stray_station {x : StationFrame} (h : boundaryCopy w e bytes = false)
    (hp : parseLoopCopy bytes = some (.station x)) (hw : ∀ n, w ≠ .slot n) :
    s.judgeCopy side w e bytes = (.contentError, s.flc) := by
  cases w with
  | slot n => exact absurd rfl (hw n)
  | _ => simp [State.judgeCopy, h, hp]

theorem State.judgeCopy_announce {i : Identity} {k : Byte} (h : boundaryCopy .admission e bytes = false)
    (hp : parseLoopCopy bytes = some (.announce i k)) :
    s.judgeCopy side .admission e bytes = s.flc.judgeAnnounce side i k := by
  simp [State.judgeCopy, h, hp]

theorem State.judgeCopy_stray_announce {i : Identity} {k : Byte} (h : boundaryCopy w e bytes = false)
    (hp : parseLoopCopy bytes = some (.announce i k)) (hw : w ≠ .admission) :
    s.judgeCopy side w e bytes = (.contentError, s.flc) := by
  cases w with
  | admission => exact absurd rfl hw
  | _ => simp [State.judgeCopy, h, hp]

end

/-- A beacon that is not the one sent is foreign (R11). -/
theorem Flc.judgeBeacon_foreign {f : Flc} (side : Side) (w : Window) {content : List Byte}
    (h : f.beacon.map Beacon.content ≠ some content) :
    f.judgeBeacon side w content = (.valid, { f with foreignHeard := true }) := by
  simp [Flc.judgeBeacon, h]

/-- The beacon sent, outside its own phases (R6, R11). -/
theorem Flc.judgeBeacon_own {f : Flc} (side : Side) {w : Window} {content : List Byte}
    (h : f.beacon.map Beacon.content = some content) (ha : w ≠ .phaseA) (hb : w ≠ .phaseB) :
    f.judgeBeacon side w content = (.boundaryViolation, f) := by
  cases w with
  | phaseA => exact absurd rfl ha
  | phaseB => exact absurd rfl hb
  | _ => simp [Flc.judgeBeacon, h]

/-- A STATION copy where one of its side and slot has been taken (R8). -/
theorem Flc.judgeStation_further {f : Flc} {side : Side} {n : Nat} (cfg : Option StationCfg)
    (x : StationFrame) (h : ∃ y ∈ f.taken, y.slot = n ∧ y.side = side) :
    f.judgeStation side n cfg x = (.contentError, f) := by
  have taken : f.taken.any (fun t => t.slot == n && t.side == side) = true := by simpa using h
  simp [Flc.judgeStation, taken]

/-- The first STATION copy of its side in its slot (R8). -/
theorem Flc.judgeStation_first {f : Flc} {side : Side} {n : Nat} (cfg : Option StationCfg)
    (x : StationFrame) (h : ∀ y ∈ f.taken, y.slot ≠ n ∨ y.side ≠ side) :
    f.judgeStation side n cfg x =
      (if stationMatches cfg x then .valid else .contentError,
       { f with taken := f.taken ++
          [{ slot := n, side := side, frame := x, ok := stationMatches cfg x }] }) := by
  have taken : f.taken.any (fun t => t.slot == n && t.side == side) = false := by
    rw [List.any_eq_false]
    intro y hy
    rcases h y hy with h | h <;> simp [h]
  simp [Flc.judgeStation, taken]

/-- The content checks of a slot (R8). -/
theorem stationMatches_iff (s : State) (n : Nat) (x : StationFrame) :
    stationMatches ((s.station n).map (fun y => y.cfg)) x = true ↔
      ∃ z, s.station n = some z ∧ z.cfg.identity = x.identity ∧ z.cfg.kind = x.reading.kind := by
  cases s.station n with
  | none => simp [stationMatches]
  | some z => simp [stationMatches, eq_comm (a := x.identity), eq_comm (a := x.reading.kind)]

/-- An ANNOUNCE copy that fails R10. -/
theorem Flc.judgeAnnounce_bad {f : Flc} {side : Side} {i : Identity} {k : Byte}
    (h : (∀ b, f.beacon = some b → b.openWindow = false) ∨ (side, i) ∈ f.announced ∨ i = 0
      ∨ kindOfCode k.toNat = none) :
    (f.judgeAnnounce side i k).1 = .contentError
      ∧ (f.judgeAnnounce side i k).2.announces = f.announces := by
  have window : (∀ b, f.beacon = some b → b.openWindow = false) → f.admits = false := by
    intro h
    cases hb : f.beacon with
    | none => simp [Flc.admits, hb]
    | some b => simp [Flc.admits, hb, h b hb]
  unfold Flc.judgeAnnounce
  split
  · exact ⟨rfl, rfl⟩
  · rename_i ha
    split
    · exact ⟨rfl, rfl⟩
    · rename_i hc
      split
      · exact ⟨rfl, rfl⟩
      · rename_i hi
        split
        · exact ⟨rfl, rfl⟩
        · rename_i kind hk
          rcases h with h | h | h | h
          · simp [window h] at ha
          · simp [h] at hc
          · exact absurd h hi
          · simp [h] at hk

/-- An ANNOUNCE copy that passes R10. -/
theorem Flc.judgeAnnounce_good {f : Flc} {side : Side} {i : Identity} {k : Byte} {b : Beacon} {kind : Kind}
    (hb : f.beacon = some b) (ho : b.openWindow = true) (hn : (side, i) ∉ f.announced) (hi : i ≠ 0)
    (hk : kindOfCode k.toNat = some kind) :
    f.judgeAnnounce side i k =
      (.valid, { f with announced := f.announced ++ [(side, i)],
                        announces := f.announces ++ [{ side := side, identity := i, kind := kind }] }) := by
  have admits : f.admits = true := by simp [Flc.admits, hb, ho]
  have received : ¬ i = 0#24 := hi
  simp [Flc.judgeAnnounce, admits, hn, received, hk]

/-! ## What a judgement leaves alone -/

/-- `g` agrees with `f` but for the counts, the echoes, the foreign flag and the copies of the round. -/
structure Flc.SameButCopies (f g : Flc) : Prop where
  mode : g.mode = f.mode
  listen : g.listen = f.listen
  attempts : g.attempts = f.attempts
  reasons : g.reasons = f.reasons
  halt : g.halt = f.halt
  round : g.round = f.round
  progress : g.progress = f.progress
  beacon : g.beacon = f.beacon
  missAB : g.missAB = f.missAB
  missBA : g.missBA = f.missBA
  noisy : g.noisy = f.noisy
  foreignCount : g.foreignCount = f.foreignCount
  recovery : g.recovery = f.recovery
  verdicts : g.verdicts = f.verdicts

/-- A judgement leaves the counts as well. -/
structure Flc.Judged (f g : Flc) : Prop extends Flc.SameButCopies f g where
  running : g.running = f.running
  last : g.last = f.last

theorem Flc.Judged.refl (f : Flc) : f.Judged f := ⟨by constructor <;> rfl, rfl, rfl⟩

theorem Flc.judgeBeacon_judged (side : Side) (w : Window) (content : List Byte) (f : Flc) :
    f.Judged (f.judgeBeacon side w content).2 := by
  unfold Flc.judgeBeacon
  split
  · split <;> exact ⟨by constructor <;> rfl, rfl, rfl⟩
  · exact ⟨by constructor <;> rfl, rfl, rfl⟩

theorem Flc.judgeStation_judged (side : Side) (n : Nat) (cfg : Option StationCfg) (x : StationFrame)
    (f : Flc) : f.Judged (f.judgeStation side n cfg x).2 := by
  unfold Flc.judgeStation
  split <;> exact ⟨by constructor <;> rfl, rfl, rfl⟩

theorem Flc.judgeAnnounce_judged (side : Side) (i : Identity) (k : Byte) (f : Flc) :
    f.Judged (f.judgeAnnounce side i k).2 := by
  unfold Flc.judgeAnnounce
  split
  · exact .refl f
  · split
    · exact .refl f
    · split
      · exact ⟨by constructor <;> rfl, rfl, rfl⟩
      · split <;> exact ⟨by constructor <;> rfl, rfl, rfl⟩

theorem State.judgeCopy_judged (side : Side) (w : Window) (e : CopyEnd) (bytes : List Byte) (s : State) :
    s.flc.Judged (s.judgeCopy side w e bytes).2 := by
  unfold State.judgeCopy
  split
  · exact .refl _
  · split
    · exact .refl _
    · exact Flc.judgeBeacon_judged ..
    · split
      · exact Flc.judgeStation_judged ..
      · exact .refl _
    · split
      · exact Flc.judgeAnnounce_judged ..
      · exact .refl _

/-! ## The counting of a copy (R7, R12) -/

/-- Where a copy counts, by the number of round closes since its interval. -/
theorem Flc.countCopy_counts {f : Flc} {p : Progress} (side : Side) (w : Window) (e : CopyEnd)
    (c : CopyClass) {back : Nat} (hp : f.progress = some p)
    (hb : back = (if p.closed then 1 else 0) + (if e = .afterRound then 1 else 0)
      - (if w = .quietGap then 1 else 0)) :
    (back = 0 → (f.countCopy side w e c).running = f.running.upd (Counts.add c) side
      ∧ (f.countCopy side w e c).last = f.last)
    ∧ (back = 1 → (f.countCopy side w e c).last = f.last.upd (Counts.add c) side
      ∧ (f.countCopy side w e c).running = f.running)
    ∧ (2 ≤ back → (f.countCopy side w e c).running = f.running ∧ (f.countCopy side w e c).last = f.last) := by
  obtain ⟨-, hrun, hlast, hearlier⟩ := Flc.countCopy_spec side w e c f
  have hi : p.interval w e = intervalBack back := by rw [hb]; rfl
  refine ⟨fun h => hrun p hp (by rw [hi, h]; rfl), fun h => hlast p hp (by rw [hi, h]; rfl), fun h => ?_⟩
  obtain ⟨n, rfl⟩ := Nat.exists_eq_add_of_le' h
  rw [hearlier p hp hi]
  exact ⟨rfl, rfl⟩

/-- The FLC after a copy that is received while rounds run (R7, R12). -/
def State.copied (side : Side) (w : Window) (e : CopyEnd) (bytes : List Byte) (s : State) : Flc :=
  (s.judgeCopy side w e bytes).2.countCopy side w e (s.judgeCopy side w e bytes).1

/-- A copy that a side receives while rounds run is judged and counted (R7). -/
theorem State.takeCopy_received {s : State} {side : Side} {w : Window} {e : CopyEnd} (bytes : List Byte)
    {p : Progress} (hr : s.flc.mode.runs = true) (hp : s.flc.progress = some p)
    (hw : p.receives side w e = true) :
    s.takeCopy side w e bytes = { s with flc := s.copied side w e bytes } := by
  have round : s.takeCopy side w e bytes = s.roundCopy side w e bytes := by
    unfold State.takeCopy
    cases hm : s.flc.mode <;> simp [hm, LoopMode.runs] at hr ⊢
  rw [round]
  simp [State.roundCopy, State.copied, hp, hw]

section
variable (side : Side) (w : Window) (e : CopyEnd) (bytes : List Byte) (s : State)

/-- The counting after the judgement changes the counts alone. -/
theorem State.copied_eq :
    s.copied side w e bytes =
      { (s.judgeCopy side w e bytes).2 with
        running := (s.copied side w e bytes).running
        last := (s.copied side w e bytes).last } :=
  (Flc.countCopy_spec side w e (s.judgeCopy side w e bytes).1 (s.judgeCopy side w e bytes).2).1

@[simp] theorem State.copied_echoAB :
    (s.copied side w e bytes).echoAB = (s.judgeCopy side w e bytes).2.echoAB := by rw [State.copied_eq]
@[simp] theorem State.copied_echoBA :
    (s.copied side w e bytes).echoBA = (s.judgeCopy side w e bytes).2.echoBA := by rw [State.copied_eq]
@[simp] theorem State.copied_foreignHeard :
    (s.copied side w e bytes).foreignHeard = (s.judgeCopy side w e bytes).2.foreignHeard := by
  rw [State.copied_eq]
@[simp] theorem State.copied_taken :
    (s.copied side w e bytes).taken = (s.judgeCopy side w e bytes).2.taken := by rw [State.copied_eq]
@[simp] theorem State.copied_announced :
    (s.copied side w e bytes).announced = (s.judgeCopy side w e bytes).2.announced := by
  rw [State.copied_eq]
@[simp] theorem State.copied_announces :
    (s.copied side w e bytes).announces = (s.judgeCopy side w e bytes).2.announces := by
  rw [State.copied_eq]

/-- What a received copy leaves of the FLC. -/
theorem State.copied_same : s.flc.SameButCopies (s.copied side w e bytes) := by
  rw [State.copied_eq]
  obtain ⟨judged, -, -⟩ := s.judgeCopy_judged side w e bytes
  exact ⟨judged.mode, judged.listen, judged.attempts, judged.reasons, judged.halt, judged.round,
    judged.progress, judged.beacon, judged.missAB, judged.missBA, judged.noisy, judged.foreignCount,
    judged.recovery, judged.verdicts⟩

/-- The counts after a received copy. -/
theorem State.copied_counts {p : Progress} {back : Nat} (hp : s.flc.progress = some p)
    (hb : back = (if p.closed then 1 else 0) + (if e = .afterRound then 1 else 0)
      - (if w = .quietGap then 1 else 0)) :
    (back = 0 → (s.copied side w e bytes).running
        = s.flc.running.upd (Counts.add (s.judgeCopy side w e bytes).1) side
      ∧ (s.copied side w e bytes).last = s.flc.last)
    ∧ (back = 1 → (s.copied side w e bytes).last
        = s.flc.last.upd (Counts.add (s.judgeCopy side w e bytes).1) side
      ∧ (s.copied side w e bytes).running = s.flc.running)
    ∧ (2 ≤ back → (s.copied side w e bytes).running = s.flc.running
      ∧ (s.copied side w e bytes).last = s.flc.last) := by
  have judged := s.judgeCopy_judged side w e bytes
  rw [← judged.running, ← judged.last]
  exact Flc.countCopy_counts side w e _ (judged.progress.trans hp) hb

end

end Sys2Proof.Machine

/-! # Copies counted once, and the coordinator's own beacon -/

namespace Sys2Proof.Machine

/-- No copy is taken in HALTED or in a back-off (R15, R20). -/
theorem State.takeCopy_deaf {s : State} (side : Side) (w : Window) (e : CopyEnd) (bytes : List Byte)
    (h : s.flc.mode = .halted ∨ ∃ x, s.flc.mode = .listen ∧ s.flc.listen = some (.backOff x)) :
    s.takeCopy side w e bytes = s := by
  rcases h with hm | ⟨x, hm, hl⟩
  · simp [State.takeCopy, hm]
  · have deaf : s.hearForeign = s := State.hearForeign_of_not_listening fun e' _ h => by simp [hl] at h
    simp only [State.takeCopy, hm, State.listenCopy]
    split
    · rw [deaf, ite_self]
    · rfl

/-- In LISTEN a copy is a BEACON or changes nothing (R14). -/
theorem State.takeCopy_listen {s : State} (side : Side) (w : Window) (e : CopyEnd) (bytes : List Byte)
    (hm : s.flc.mode = .listen) :
    (∀ rest, deframe bytes = some (beaconCode :: rest) → s.takeCopy side w e bytes = s.hearForeign)
    ∧ ((∀ rest, deframe bytes ≠ some (beaconCode :: rest)) → s.takeCopy side w e bytes = s) := by
  refine ⟨fun rest h => by simp [State.takeCopy, hm, State.listenCopy, h], fun h => ?_⟩
  simp only [State.takeCopy, hm, State.listenCopy]
  split
  · rename_i k rest hk
    exact if_neg (by rintro rfl; exact h rest hk)
  · rfl

/-- Settles O9: by the judgement of the copy, in the order of its checks. -/
theorem copiesAreCountedOnce : Obligations.CopiesAreCountedOnce := by
  refine ⟨fun s side w e bytes p back hr hp hw hb => ?_,
    fun s side w e bytes => ⟨fun h => ?_, fun x hm _ => ?_⟩⟩
  · obtain ⟨h0, h1, h2⟩ := s.copied_counts side w e bytes hp hb
    have same := s.copied_same side w e bytes
    refine ⟨{ s with flc := s.copied side w e bytes }, (s.judgeCopy side w e bytes).1,
      congrArg Host.Outcome.next (State.takeCopy_received bytes hr hp hw),
      KeepsBut.putFlc _ (by decide) (.refl _ s), h0, h1, h2, ?_, ?_, ?_, ?_, ?_, ?_,
      same.mode, same.round, same.progress, same.beacon, same.missAB, same.missBA, same.noisy,
      same.recovery, same.foreignCount, same.verdicts⟩
    · intro he
      rw [State.judgeCopy_boundary (boundaryCopy_late he)]
    · rintro - rfl hhead
      rw [State.judgeCopy_boundary (boundaryCopy_quietGap hhead)]
    · rintro rfl hwin hparse
      rw [State.judgeCopy_unparsed (boundaryCopy_inWindow hwin) hparse]
    · rintro content rfl hwin hparse hforeign
      have judged : s.judgeCopy side w .inWindow bytes = _ :=
        (State.judgeCopy_beacon (boundaryCopy_inWindow hwin) hparse).trans
          (Flc.judgeBeacon_foreign side w hforeign)
      simp [judged]
    · rintro x rfl hgap hparse
      have inside : boundaryCopy w .inWindow bytes = false := boundaryCopy_inWindow (.inl hgap)
      refine ⟨fun hstray => ?_, ?_, ?_⟩
      · simp [State.judgeCopy_stray_station (s := s) (side := side) inside hparse hstray]
      · rintro n rfl htaken
        have judged : s.judgeCopy side (.slot n) .inWindow bytes = _ :=
          (State.judgeCopy_station inside hparse).trans (Flc.judgeStation_further _ x htaken)
        simp [judged]
      · rintro n ok rfl hfirst hok
        have judged : s.judgeCopy side (.slot n) .inWindow bytes = _ :=
          (State.judgeCopy_station inside hparse).trans (Flc.judgeStation_first _ x hfirst)
        have matched : stationMatches ((s.station n).map (fun y => y.cfg)) x = ok :=
          Bool.eq_iff_iff.mpr ((stationMatches_iff s n x).trans hok.symm)
        simp [judged, matched]
    · rintro i k rfl hgap hparse
      have inside : boundaryCopy w .inWindow bytes = false := boundaryCopy_inWindow (.inl hgap)
      refine ⟨fun hbad => ?_, ?_⟩
      · by_cases hwin : w = .admission
        · subst hwin
          rw [State.copied_announces, State.judgeCopy_announce inside hparse]
          exact Flc.judgeAnnounce_bad (hbad.resolve_left (fun h => h rfl))
        · simp [State.judgeCopy_stray_announce (s := s) (side := side) inside hparse hwin]
      · rintro b kind rfl hbeacon hopen hnew hid hkind
        have judged : s.judgeCopy side .admission .inWindow bytes = _ :=
          (State.judgeCopy_announce inside hparse).trans
            (Flc.judgeAnnounce_good hbeacon hopen hnew hid hkind)
        simp [judged]
  · exact congrArg Host.Outcome.next (State.takeCopy_deaf side w e bytes h)
  · obtain ⟨hbeacon, hother⟩ := State.takeCopy_listen side w e bytes hm
    exact ⟨fun rest h => congrArg Host.Outcome.next (hbeacon rest h),
      fun h => congrArg Host.Outcome.next (hother h)⟩

/-- A window of the beacon that runs, and the copy that the far side receives in it (R5). -/
theorem Progress.receives_echo {p : Progress} :
    (p.inWindow .phaseA = true → p.receives .b .phaseA .inWindow = true ∧ p.closed = false)
    ∧ (p.inWindow .phaseB = true → p.receives .a .phaseB .inWindow = true ∧ p.closed = false) := by
  constructor <;> intro h <;> refine ⟨by simp [Progress.receives, sideReceives, h], ?_⟩
  · simp only [Progress.inWindow, Bool.and_eq_true, Bool.not_eq_true'] at h
    obtain ⟨⟨-, hopen⟩, -⟩ := h
    exact hopen
  · simp only [Progress.inWindow, Bool.and_eq_true, Bool.not_eq_true'] at h
    obtain ⟨⟨-, hopen⟩, -⟩ := h
    exact hopen

/-- Settles O10: the own beacon passes framing, CRC and layout, and is judged against the beacon sent. -/
theorem ownBeaconIsTheEcho : Obligations.OwnBeaconIsTheEcho := by
  intro s p b hr hp hbeacon hm hg hrev
  have parsed := Beacon.parse_wire hm hg hrev
  have own : s.flc.beacon.map Beacon.content = some b.content := by rw [hbeacon]; rfl
  have inside : ∀ w, boundaryCopy w .inWindow (stuff (b.content ++ crcBytes b.content)) = false :=
    fun _ => boundaryCopy_inWindow (.inr b.wire_head)
  refine ⟨fun hw => ?_, fun hw => ?_, fun side w e back hw hlate hb => ?_⟩
  · obtain ⟨received, hopen⟩ := Progress.receives_echo.1 hw
    have judged : s.judgeCopy .b .phaseA .inWindow _ = (.valid, { s.flc with echoAB := true }) :=
      (State.judgeCopy_beacon (inside _) parsed).trans (by simp [Flc.judgeBeacon, own])
    obtain ⟨counted, -⟩ := (s.copied_counts .b .phaseA .inWindow _ hp rfl).1 (by simp [hopen])
    refine ⟨_, congrArg Host.Outcome.next (State.takeCopy_received _ hr hp received),
      KeepsBut.putFlc _ (by decide) (.refl _ s), ?_⟩
    rw [judged] at counted
    simp [judged, counted, Sides.upd]
  · obtain ⟨received, hopen⟩ := Progress.receives_echo.2 hw
    have judged : s.judgeCopy .a .phaseB .inWindow _ = (.valid, { s.flc with echoBA := true }) :=
      (State.judgeCopy_beacon (inside _) parsed).trans (by simp [Flc.judgeBeacon, own])
    obtain ⟨counted, -⟩ := (s.copied_counts .a .phaseB .inWindow _ hp rfl).1 (by simp [hopen])
    refine ⟨_, congrArg Host.Outcome.next (State.takeCopy_received _ hr hp received),
      KeepsBut.putFlc _ (by decide) (.refl _ s), ?_⟩
    rw [judged] at counted
    simp [judged, counted, Sides.upd]
  · have judged : s.judgeCopy side w e (stuff (b.content ++ crcBytes b.content))
        = (.boundaryViolation, s.flc) := by
      by_cases he : e = .inWindow
      · subst he
        obtain ⟨ha, hphase⟩ := hlate.resolve_left (fun h => h rfl)
        exact (State.judgeCopy_beacon (inside w) parsed).trans
          (Flc.judgeBeacon_own side own ha hphase)
      · exact State.judgeCopy_boundary (boundaryCopy_late he)
    have counts := s.copied_counts side w e (stuff (b.content ++ crcBytes b.content)) hp hb
    rw [judged] at counts
    refine ⟨_, congrArg Host.Outcome.next (State.takeCopy_received _ hr hp hw),
      KeepsBut.putFlc _ (by decide) (.refl _ s), ?_, ?_, ?_, ?_, counts⟩ <;> simp [judged]

end Sys2Proof.Machine

/-! # The end of a slot (R9, R33, R35, R36) -/

namespace Sys2Proof.Machine

/-- The state at the end of a slot, before any verdict (R1, R9). -/
def State.atSlotEnd (n : Nat) (p : Progress) (s : State) : State :=
  { s with
    now := max s.now (p.start + 5000 + 4000 * n)
    flc := { s.flc with progress := some { p with slotsEnded := n } } }

section
variable {s : State} {p : Progress} {n : Nat}

/-- The end of a slot that is not configured (R9). -/
theorem State.endSlot_empty (hr : s.flc.mode.runs = true) (hp : s.flc.progress = some p)
    (hw : p.inWindow (.slot n) = true) (hn : n ≤ 48) (hx : s.station n = none) :
    s.endSlot n = s.atSlotEnd n p := by
  have absent : (s.atSlotEnd n p).station n = none := hx
  simp only [State.atSlotEnd, Nat.add_assoc] at absent ⊢
  simp [State.endSlot, State.reach, slotEndTime, hr, hp, hw, hn, absent]

/-- The end of a configured slot passes the verdict of its two sides (R9). -/
theorem State.endSlot_configured {x : Station} (hr : s.flc.mode.runs = true) (hp : s.flc.progress = some p)
    (hw : p.inWindow (.slot n) = true) (hn : n ≤ 48) (hx : s.station n = some x) :
    s.endSlot n = (s.atSlotEnd n p).passVerdict n x.cfg.ring
      (mergeCopies (s.flc.validCopy n .a) (s.flc.validCopy n .b)) := by
  have configured : (s.atSlotEnd n p).station n = some x := hx
  simp only [State.atSlotEnd, Nat.add_assoc] at configured ⊢
  simp [State.endSlot, State.reach, slotEndTime, hr, hp, hw, hn, configured]
  rfl

end

/-- A STATION notice of a configured slot (R41). -/
theorem State.raiseStation_configured {s : State} {n : Nat} {x : Station} (cls : NoticeClass)
    (cause : StationCause) (hx : s.station n = some x) :
    s.raiseStation cls cause n =
      s.raise cls (.station { slot := n, identity := x.cfg.identity, kind := x.cfg.kind, cause := cause,
                              live := x.live, missed := x.missed, code := x.code, round := s.flc.round }) := by
  simp [State.raiseStation, hx]

/-- A station that leaves the loop: its entry changes, a revocation arises, and its notice is raised (R29,
R35, R36). -/
def State.leave (n : Nat) (f : Station → Station) (cls : NoticeClass) (cause : StationCause) (s : State) :
    State :=
  ((s.updStation n f).revoke n).raiseStation cls cause n

theorem State.loseStation_eq (n : Nat) (s : State) :
    s.loseStation n =
      s.leave n (fun x => { x with live := .lost, grant := none, warm := 0, missed := 8 }) .urgent .lost := rfl

theorem State.quietStation_eq (n : Nat) (s : State) :
    s.quietStation n =
      s.leave n (fun x => { x with live := .silent, grant := none, warm := 0, missed := 0 }) .routine .quiet :=
  rfl

section
variable {s u : State} {n : Nat} {x : Station} {f : Station → Station}

/-- The station of a slot depends on the SRG alone. -/
theorem State.station_congr (h : u.srg = s.srg) (m : Nat) : u.station m = s.station m := by
  rw [State.station, h, State.station]

/-- The slot of a station that changes, and every other one. -/
theorem State.updStation_at (hf : ∀ z, (f z).cfg.slot = z.cfg.slot) (hx : s.station n = some x) :
    (s.updStation n f).station n = some (f x)
      ∧ ∀ m, m ≠ n → (s.updStation n f).station m = s.station m := by
  refine ⟨?_, fun m h => ?_⟩
  · rw [State.station_updStation _ _ _ _ hf, if_pos rfl, hx]
    rfl
  · rw [State.station_updStation _ _ _ _ hf, if_neg h]

/-- What a station that leaves the loop leaves of the SRG and the ports. -/
theorem State.leave_spec (hf : ∀ z, (f z).cfg.slot = z.cfg.slot) (cls : NoticeClass) (cause : StationCause)
    (hx : s.station n = some x) :
    (s.leave n f cls cause).station n = some (f x)
    ∧ (∀ m, m ≠ n → (s.leave n f cls cause).station m = s.station m)
    ∧ (s.leave n f cls cause).srg.queue = s.srg.queue
    ∧ (s.leave n f cls cause).srg.strangers = s.srg.strangers
    ∧ (s.leave n f cls cause).srg.revocations = appendNew n s.srg.revocations
    ∧ (s.leave n f cls cause).now = s.now
    ∧ (s.leave n f cls cause).pif =
        (s.raise cls (.station { slot := n, identity := (f x).cfg.identity, kind := (f x).cfg.kind,
                                 cause := cause, live := (f x).live, missed := (f x).missed,
                                 code := (f x).code, round := s.flc.round })).pif := by
  obtain ⟨hn, ho⟩ := State.updStation_at hf hx
  have configured : ((s.updStation n f).revoke n).station n = some (f x) := hn
  rw [State.leave, State.raiseStation_configured cls cause configured]
  exact ⟨hn, ho, rfl, rfl, rfl, rfl, rfl⟩

/-- A missing verdict that only changes the entry leaves the other entries, the lists and the ports. -/
theorem State.updStation_missed (hsrg : u.srg = s.srg) (hpif : u.pif = s.pif)
    (hf : ∀ z, (f z).cfg.slot = z.cfg.slot) (hx : s.station n = some x) :
    (u.updStation n f).station n = some (f x)
    ∧ (∀ m, m ≠ n → (u.updStation n f).station m = s.station m)
    ∧ ((u.updStation n f).srg.queue = s.srg.queue ∧ (u.updStation n f).srg.strangers = s.srg.strangers)
    ∧ (u.updStation n f).srg.revocations = s.srg.revocations ∧ (u.updStation n f).pif = s.pif := by
  have same := State.station_congr hsrg
  obtain ⟨hn, ho⟩ := State.updStation_at hf ((same n).trans hx)
  exact ⟨hn, fun m h => (ho m h).trans (same m), by rw [← hsrg]; exact ⟨rfl, rfl⟩,
    by rw [← hsrg]; rfl, hpif⟩

/-- A missing verdict on a station that is not expected to be heard moves nothing (R33). -/
theorem slotMissed_unmoved (hsrg : u.srg = s.srg) (hpif : u.pif = s.pif) (hx : s.station n = some x)
    (hl : x.live = .silent ∨ x.live = .heard ∨ x.live = .lost ∨ x.live = .returned) :
    SlotMissed s (u.missed n) n x x := by
  have same := State.station_congr hsrg
  have moved : u.missed n = u := by
    rcases hl with hl | hl | hl | hl <;> simp [State.missed, same, hx, hl]
  rw [moved]
  constructor
  case station => rw [same, hx]
  case others => exact fun m _ => same m
  case kept => exact ⟨rfl, rfl, rfl, rfl, rfl⟩
  case lists => rw [hsrg]; exact ⟨rfl, rfl⟩
  case held => rw [hsrg]; exact fun _ => ⟨rfl, hpif⟩
  case revoked => exact fun h => absurd rfl h
  case absent => exact fun _ => rfl
  all_goals rcases hl with hl | hl | hl | hl <;> simp [hl]

/-- The first missing verdict of a WARMING or ACTIVE station (R33). -/
theorem slotMissed_suspected (hsrg : u.srg = s.srg) (hpif : u.pif = s.pif) (hx : s.station n = some x)
    (hl : x.live = .warming ∨ x.live = .active) :
    SlotMissed s (u.missed n) n x { x with live := .suspect, missed := 1 } := by
  have moved : u.missed n = u.updStation n (fun z => { z with live := .suspect, missed := 1 }) := by
    rcases hl with hl | hl <;> simp [State.missed, State.station_congr hsrg, hx, hl]
  obtain ⟨hn, ho, hlists, hrev, hp⟩ := State.updStation_missed
    (f := fun z => { z with live := .suspect, missed := 1 }) hsrg hpif (fun _ => rfl) hx
  rw [moved]
  constructor
  case station => exact hn
  case others => exact ho
  case kept => exact ⟨rfl, rfl, rfl, rfl, rfl⟩
  case lists => exact hlists
  case first => exact fun _ => ⟨rfl, rfl, rfl, rfl⟩
  case held => exact fun _ => ⟨hrev, hp⟩
  case revoked => exact fun _ h => absurd rfl h
  all_goals rcases hl with hl | hl <;> simp [hl]

/-- A further missing verdict of a SUSPECT or QUIETING station, short of the last (R35, R36). -/
theorem slotMissed_counted (hsrg : u.srg = s.srg) (hpif : u.pif = s.pif) (hx : s.station n = some x)
    (hl : (x.live = .suspect ∧ x.missed + 1 < 8) ∨ (x.live = .quieting ∧ x.missed + 1 < 4)) :
    SlotMissed s (u.missed n) n x { x with missed := x.missed + 1 } := by
  have moved : u.missed n = u.updStation n (fun z => { z with missed := z.missed + 1 }) := by
    rcases hl with ⟨hl, hm⟩ | ⟨hl, hm⟩ <;>
      simp [State.missed, State.station_congr hsrg, hx, hl, Nat.not_le.mpr hm]
  obtain ⟨hn, ho, hlists, hrev, hp⟩ := State.updStation_missed
    (f := fun z => { z with missed := z.missed + 1 }) hsrg hpif (fun _ => rfl) hx
  rw [moved]
  constructor
  case station => exact hn
  case others => exact ho
  case kept => exact ⟨rfl, rfl, rfl, rfl, rfl⟩
  case lists => exact hlists
  case again => exact fun _ _ => rfl
  case quieting => exact fun _ _ => rfl
  case held => exact fun _ => ⟨hrev, hp⟩
  case revoked => exact fun h => absurd rfl h
  all_goals rcases hl with ⟨hl, hm⟩ | ⟨hl, hm⟩ <;> simp [hl] <;> omega

/-- The last missing verdict of a SUSPECT station, or of a QUIETING one (R35, R36). -/
theorem slotMissed_left {cls : NoticeClass} {cause : StationCause} {live : LiveState} {missed : Nat}
    (hsrg : u.srg = s.srg) (hpif : u.pif = s.pif) (hround : u.flc.round = s.flc.round)
    (hx : s.station n = some x)
    (hl : (x.live = .suspect ∧ 8 ≤ x.missed + 1 ∧ live = .lost ∧ missed = 8 ∧ cls = .urgent ∧ cause = .lost)
      ∨ (x.live = .quieting ∧ 4 ≤ x.missed + 1 ∧ live = .silent ∧ missed = 0 ∧ cls = .routine
          ∧ cause = .quiet)) :
    SlotMissed s (u.missed n) n x { x with live := live, grant := none, warm := 0, missed := missed } := by
  have same := State.station_congr hsrg
  have moved : u.missed n =
      u.leave n (fun z => { z with live := live, grant := none, warm := 0, missed := missed }) cls cause := by
    rcases hl with ⟨hl, hm, rfl, rfl, rfl, rfl⟩ | ⟨hl, hm, rfl, rfl, rfl, rfl⟩ <;>
      simp [State.missed, same, hx, hl, hm, State.loseStation_eq, State.quietStation_eq]
  obtain ⟨hn, ho, hq, hs, hrev, hnow, hp⟩ := State.leave_spec
    (f := fun z => { z with live := live, grant := none, warm := 0, missed := missed }) (fun _ => rfl) cls
    cause ((same n).trans hx)
  rw [State.raise_pif_congr (t := { s with now := u.now }) _ _ hpif rfl, hround, ← hnow] at hp
  rw [hsrg] at hq hs hrev
  rw [moved]
  constructor
  case station => exact hn
  case others => exact fun m h => (ho m h).trans (same m)
  case kept => exact ⟨rfl, rfl, rfl, rfl, rfl⟩
  case lists => exact ⟨hq, hs⟩
  case revoked => exact fun _ _ => hrev
  all_goals
    rcases hl with ⟨hl, hm, rfl, rfl, rfl, rfl⟩ | ⟨hl, hm, rfl, rfl, rfl, rfl⟩ <;>
      simp [hl, hp] <;> omega

/-- A missing verdict (R33, R35, R36), on a state with the SRG, the ports and the round number of `s`. -/
theorem State.missed_slotMissed (hsrg : u.srg = s.srg) (hpif : u.pif = s.pif)
    (hround : u.flc.round = s.flc.round) (hx : s.station n = some x) :
    ∃ y, SlotMissed s (u.missed n) n x y := by
  cases hl : x.live with
  | silent => exact ⟨_, slotMissed_unmoved hsrg hpif hx (.inl hl)⟩
  | heard => exact ⟨_, slotMissed_unmoved hsrg hpif hx (.inr (.inl hl))⟩
  | lost => exact ⟨_, slotMissed_unmoved hsrg hpif hx (.inr (.inr (.inl hl)))⟩
  | returned => exact ⟨_, slotMissed_unmoved hsrg hpif hx (.inr (.inr (.inr hl)))⟩
  | warming => exact ⟨_, slotMissed_suspected hsrg hpif hx (.inl hl)⟩
  | active => exact ⟨_, slotMissed_suspected hsrg hpif hx (.inr hl)⟩
  | suspect =>
    rcases Nat.lt_or_ge (x.missed + 1) 8 with hm | hm
    · exact ⟨_, slotMissed_counted hsrg hpif hx (.inl ⟨hl, hm⟩)⟩
    · exact ⟨_, slotMissed_left hsrg hpif hround hx (.inl ⟨hl, hm, rfl, rfl, rfl, rfl⟩)⟩
  | quieting =>
    rcases Nat.lt_or_ge (x.missed + 1) 4 with hm | hm
    · exact ⟨_, slotMissed_counted hsrg hpif hx (.inr ⟨hl, hm⟩)⟩
    · exact ⟨_, slotMissed_left hsrg hpif hround hx (.inr ⟨hl, hm, rfl, rfl, rfl, rfl⟩)⟩

/-- A missing verdict at the end of a slot, with whatever the FLC makes of its counts (R9). -/
theorem State.missed_atSlotEnd {p : Progress} {g : Flc} (hu : u = { s.atSlotEnd n p with flc := g })
    (hround : g.round = s.flc.round) (hx : s.station n = some x) :
    ∃ y, KeepsBut [.now, .flc, .srg, .pif] s (u.missed n) ∧ PortsQuiet s (u.missed n)
      ∧ (u.missed n).now = max s.now (p.start + 5000 + 4000 * n) ∧ (u.missed n).flc = g
      ∧ SlotMissed s (u.missed n) n x y := by
  subst hu
  have keeps := State.missed_keeps n { s.atSlotEnd n p with flc := g }
  have ended : KeepsBut [.now, .flc, .srg, .pif] s { s.atSlotEnd n p with flc := g } := by
    constructor <;> intro h <;> first | rfl | exact absurd (by decide) h
  obtain ⟨y, hy⟩ := State.missed_slotMissed (s := s) (u := { s.atSlotEnd n p with flc := g }) rfl rfl
    hround hx
  exact ⟨y, keeps.andThen (by decide) ended, (State.missed_quiet ..).andThen (.ofPif rfl),
    keeps.now (by decide), keeps.flc (by decide), hy⟩

end

/-- Settles O11: the two verdicts that are missing, and the slot without a station. -/
theorem missedSlotsLoseTheStation : Obligations.MissedSlotsLoseTheStation := by
  refine ⟨fun s p n x hr hp hw hn hx => ⟨fun ha hb => ?_, fun f g ha hb hne => ?_⟩,
    fun s p n hr hp hw hn hx => congrArg Host.Outcome.next (State.endSlot_empty hr hp hw hn hx)⟩
  · have ended : s.endSlot n = (s.atSlotEnd n p).missed n := by
      rw [State.endSlot_configured hr hp hw hn hx, ha, hb]; rfl
    obtain ⟨y, hy⟩ := State.missed_atSlotEnd (u := s.atSlotEnd n p) rfl rfl hx
    exact ⟨_, y, congrArg Host.Outcome.next ended, hy⟩
  · have clash : mergeCopies (some f) (some g) = .clash := by simp [mergeCopies, hne]
    have ended : s.endSlot n =
        ({ s.atSlotEnd n p with flc := (s.atSlotEnd n p).flc.reclassBoth 1 } : State).missed n := by
      rw [State.endSlot_configured hr hp hw hn hx, ha, hb, clash]; rfl
    obtain ⟨y, hy⟩ := State.missed_atSlotEnd
      (u := { s.atSlotEnd n p with flc := (s.atSlotEnd n p).flc.reclassBoth 1 }) rfl rfl hx
    exact ⟨_, y, congrArg Host.Outcome.next ended, hy⟩

end Sys2Proof.Machine

/-! # The round close of the loop (R3, R10, R12, R13, R17 to R19, R22) -/

namespace Sys2Proof.Machine

/-! ## The announces whose kinds differ (R10) -/

/-- The copies that come first for their identity stand among the copies. -/
theorem mem_of_mem_firstCopies {x : AnnounceCopy} : ∀ {l : List AnnounceCopy} {seen : List Identity},
    x ∈ firstCopies l seen → x ∈ l ∧ x.identity ∉ seen
  | [], _, h => by simp [firstCopies] at h
  | y :: l, seen, h => by
    by_cases hy : y.identity ∈ seen
    · rw [firstCopies, if_pos hy] at h
      obtain ⟨hm, hs⟩ := mem_of_mem_firstCopies h
      exact ⟨List.mem_cons_of_mem _ hm, hs⟩
    · rw [firstCopies, if_neg hy] at h
      rcases List.mem_cons.mp h with rfl | h
      · exact ⟨List.mem_cons_self .., hy⟩
      · obtain ⟨hm, hs⟩ := mem_of_mem_firstCopies h
        exact ⟨List.mem_cons_of_mem _ hm, fun hc => hs (List.mem_cons_of_mem _ hc)⟩

/-- Every identity that is not seen yet has a first copy. -/
theorem exists_firstCopy {x : AnnounceCopy} : ∀ {l : List AnnounceCopy} {seen : List Identity},
    x ∈ l → x.identity ∉ seen → ∃ y ∈ firstCopies l seen, y.identity = x.identity
  | [], _, h, _ => by simp at h
  | y :: l, seen, h, hs => by
    by_cases hy : y.identity ∈ seen
    · rw [firstCopies, if_pos hy]
      rcases List.mem_cons.mp h with rfl | h
      · exact absurd hy hs
      · exact exists_firstCopy h hs
    · rw [firstCopies, if_neg hy]
      by_cases he : x.identity = y.identity
      · exact ⟨y, List.mem_cons_self .., he.symm⟩
      · obtain ⟨z, hz, hi⟩ := exists_firstCopy (seen := y.identity :: seen)
          ((List.mem_cons.mp h).resolve_left (fun e => he (congrArg _ e))) (by simp [he, hs])
        exact ⟨z, List.mem_cons_of_mem _ hz, hi⟩

/-- No identity has two first copies. -/
theorem firstCopies_nodup : ∀ (l : List AnnounceCopy) (seen : List Identity),
    ((firstCopies l seen).map (fun x => x.identity)).Nodup
  | [], _ => by simp [firstCopies]
  | y :: l, seen => by
    by_cases hy : y.identity ∈ seen
    · rw [firstCopies, if_pos hy]
      exact firstCopies_nodup l seen
    · rw [firstCopies, if_neg hy, List.map_cons, List.nodup_cons]
      refine ⟨fun h => ?_, firstCopies_nodup l _⟩
      obtain ⟨z, hz, hi⟩ := List.mem_map.mp h
      exact (mem_of_mem_firstCopies hz).2 (by simp [hi])

/-- Two copies of one identity, one for each side, whose kinds differ (R10). -/
def KindsDiffer (l : List AnnounceCopy) (i : Identity) : Prop :=
  ∃ x ∈ l, ∃ y ∈ l, x.side = .a ∧ y.side = .b ∧ x.identity = i ∧ y.identity = i ∧ y.kind ≠ x.kind

section
variable {l : List AnnounceCopy}

/-- Among copies that stand once for each side and identity, side and identity tell the copy. -/
theorem eq_of_copiesDistinct (h : CopiesDistinct l) {x y : AnnounceCopy} (hx : x ∈ l) (hy : y ∈ l)
    (hs : x.side = y.side) (hi : x.identity = y.identity) : x = y := by
  by_contra hne
  have symm : Std.Symm (fun x y : AnnounceCopy => x.side ≠ y.side ∨ x.identity ≠ y.identity) :=
    ⟨fun _ _ => Or.imp Ne.symm Ne.symm⟩
  rcases List.Pairwise.forall h hx hy hne with hd | hd
  · exact hd hs
  · exact hd hi

/-- The other side's copy is one of the identity on the other side. -/
theorem otherCopy_some {x y : AnnounceCopy} (h : otherCopy l x = some y) :
    y ∈ l ∧ y.identity = x.identity ∧ y.side ≠ x.side := by
  have found := List.find?_some h
  simp only [Bool.and_eq_true, beq_iff_eq, bne_iff_ne] at found
  exact ⟨List.mem_of_find?_eq_some h, found.1, found.2⟩

/-- Among distinct copies, a copy on the other side is found. -/
theorem otherCopy_eq (h : CopiesDistinct l) {x y : AnnounceCopy} (hy : y ∈ l)
    (hi : y.identity = x.identity) (hs : y.side ≠ x.side) : otherCopy l x = some y := by
  cases ho : otherCopy l x with
  | none => simpa [hi, hs] using List.find?_eq_none.mp ho y hy
  | some z =>
    obtain ⟨hz, hzi, hzs⟩ := otherCopy_some ho
    have side : z.side = y.side := by
      revert hzs hs
      cases z.side <;> cases y.side <;> cases x.side <;> simp
    rw [eq_of_copiesDistinct h hz hy side (hzi.trans hi.symm)]

/-- A copy gives no announce where the kinds of its identity differ (R10). -/
theorem announceOf_isNone_iff (h : CopiesDistinct l) {x : AnnounceCopy} (hx : x ∈ l) :
    (announceOf l x).isNone = true ↔ KindsDiffer l x.identity := by
  have clash : (announceOf l x).isNone = true ↔ ∃ y, otherCopy l x = some y ∧ y.kind ≠ x.kind := by
    unfold announceOf
    cases otherCopy l x with
    | none => simp
    | some y => by_cases hk : y.kind = x.kind <;> simp [hk]
  rw [clash]
  constructor
  · rintro ⟨y, ho, hk⟩
    obtain ⟨hy, hi, hs⟩ := otherCopy_some ho
    cases hside : x.side with
    | a => exact ⟨x, hx, y, hy, hside, by cases hy' : y.side <;> simp_all, rfl, hi, hk⟩
    | b => exact ⟨y, hy, x, hx, by cases hy' : y.side <;> simp_all, hside, hi, rfl, hk.symm⟩
  · rintro ⟨u, hu, v, hv, hua, hvb, hui, hvi, hk⟩
    cases hside : x.side with
    | a =>
      obtain rfl := eq_of_copiesDistinct h hx hu (hside.trans hua.symm) hui.symm
      exact ⟨v, otherCopy_eq h hv hvi (by simp [hua, hvb]), hk⟩
    | b =>
      obtain rfl := eq_of_copiesDistinct h hx hv (hside.trans hvb.symm) hvi.symm
      exact ⟨u, otherCopy_eq h hu hui (by simp [hua, hvb]), hk.symm⟩

/-- The identities whose kinds differ are as many as the side A copies with a B copy of another kind. -/
theorem announceClashes_eq (h : CopiesDistinct l) :
    announceClashes l = (l.filter (fun x => decide (x.side = .a
      ∧ ∃ y ∈ l, y.side = .b ∧ y.identity = x.identity ∧ y.kind ≠ x.kind))).length := by
  rw [announceClashes, ← List.length_map (fun x : AnnounceCopy => x.identity),
    ← List.length_map (as := l.filter _) (fun x : AnnounceCopy => x.identity)]
  refine List.Perm.length_eq ((List.perm_ext_iff_of_nodup ?_ ?_).mpr fun i => ?_)
  · exact (firstCopies_nodup l []).sublist (List.filter_sublist.map _)
  · refine List.Nodup.map_on (fun x hx y hy hi => ?_) (List.Nodup.filter _ (h.imp fun hd he => ?_))
    · simp only [List.mem_filter, decide_eq_true_eq] at hx hy
      exact eq_of_copiesDistinct h hx.1 hy.1 (hx.2.1.trans hy.2.1.symm) hi
    · subst he
      exact hd.elim (fun hs => hs rfl) (fun hi => hi rfl)
  · have left : i ∈ ((firstCopies l []).filter (fun x => (announceOf l x).isNone)).map
        (fun x => x.identity) ↔ KindsDiffer l i := by
      simp only [List.mem_map, List.mem_filter]
      constructor
      · rintro ⟨x, ⟨hx, hn⟩, rfl⟩
        exact (announceOf_isNone_iff h (mem_of_mem_firstCopies hx).1).mp hn
      · intro hd
        have ⟨u, hu, _, _, _, _, hui, _⟩ := hd
        obtain ⟨x, hx, hxi⟩ := exists_firstCopy (seen := []) hu (by simp)
        have hi : x.identity = i := hxi.trans hui
        exact ⟨x, ⟨hx, (announceOf_isNone_iff h (mem_of_mem_firstCopies hx).1).mpr (hi ▸ hd)⟩, hi⟩
    have right : i ∈ (l.filter (fun x => decide (x.side = .a
        ∧ ∃ y ∈ l, y.side = .b ∧ y.identity = x.identity ∧ y.kind ≠ x.kind))).map
        (fun x => x.identity) ↔ KindsDiffer l i := by
      simp only [List.mem_map, List.mem_filter, decide_eq_true_eq]
      constructor
      · rintro ⟨x, ⟨hx, hs, y, hy, hys, hyi, hk⟩, rfl⟩
        exact ⟨x, hx, y, hy, hs, hys, rfl, hyi, hk⟩
      · rintro ⟨x, hx, y, hy, hs, hys, rfl, hyi, hk⟩
        exact ⟨x, ⟨hx, hs, y, hy, hys, hyi, hk⟩, rfl⟩
    rw [left, right]

end

end Sys2Proof.Machine

namespace Sys2Proof.Machine

/-! ## The registry's work does not look at the FLC but for its round number -/

/-- The state with another FLC. -/
def State.withFlc (f : Flc) (s : State) : State := { s with flc := f }

@[simp] theorem State.withFlc_flc (f : Flc) (s : State) : (s.withFlc f).flc = f := rfl

@[simp] theorem State.withFlc_withFlc (f g : Flc) (s : State) :
    (s.withFlc f).withFlc g = s.withFlc g := rfl

/-- A LOOP notice does not look at the FLC. -/
theorem State.loopNoticed_withFlc (cls : Option NoticeClass) (n : LoopNotice) (f : Flc) (s : State) :
    (s.withFlc f).loopNoticed cls n = (s.loopNoticed cls n).withFlc f := by
  cases cls <;> rfl

section
variable {f : Flc} {s : State}

theorem State.raiseStation_withFlc (hf : f.round = s.flc.round) (cls : NoticeClass) (cause : StationCause)
    (n : Nat) : (s.withFlc f).raiseStation cls cause n = (s.raiseStation cls cause n).withFlc f := by
  have same : (s.withFlc f).station n = s.station n := rfl
  unfold State.raiseStation
  rw [same]
  cases s.station n with
  | none => rfl
  | some x => simp only [State.withFlc, hf]; rfl

theorem State.strangerAnnounce_withFlc (hf : f.round = s.flc.round) (a : Announce) :
    (s.withFlc f).strangerAnnounce a = (s.strangerAnnounce a).withFlc f := by
  unfold State.strangerAnnounce
  by_cases h : s.srg.strangers.any (fun x => x.identity == a.identity) = true
  · have h' : (s.withFlc f).srg.strangers.any (fun x => x.identity == a.identity) = true := h
    rw [if_pos h, if_pos h']
    simp only [State.withFlc, hf]
  · have h' : ¬ (s.withFlc f).srg.strangers.any (fun x => x.identity == a.identity) = true := h
    rw [if_neg h, if_neg h']
    simp only [State.withFlc, hf]
    rfl

theorem State.takeAnnounce_withFlc (hf : f.round = s.flc.round) (a : Announce) :
    (s.withFlc f).takeAnnounce a = (s.takeAnnounce a).withFlc f := by
  have same : (s.withFlc f).stationWith a.identity = s.stationWith a.identity := rfl
  have round : (s.withFlc f).flc.round = s.flc.round := hf
  have queue : (s.withFlc f).srg = s.srg := rfl
  unfold State.takeAnnounce
  rw [same]
  cases s.stationWith a.identity with
  | none => exact State.strangerAnnounce_withFlc hf a
  | some x =>
    by_cases hk : x.cfg.kind = a.kind
    · simp only [hk, ne_eq, not_true, if_false, round, queue]
      cases hl : x.live with
      | silent => by_cases hq : s.srg.queue.length < 8 <;> simp only [hq, if_true, if_false] <;> rfl
      | lost => exact State.raiseStation_withFlc (s := (s.updStation _ _).updStation _ _) hf ..
      | _ => rfl
    · simp only [ne_eq, hk, not_false_eq_true, if_true]
      exact State.raiseStation_withFlc hf ..

theorem State.lapseSlot_withFlc (hf : f.round = s.flc.round) (n : Nat) :
    (s.withFlc f).lapseSlot n = (s.lapseSlot n).withFlc f := by
  have same : (s.withFlc f).station n = s.station n := rfl
  have round : (s.withFlc f).flc.round = s.flc.round := hf
  unfold State.lapseSlot
  rw [same]
  cases s.station n with
  | none => rfl
  | some x =>
    simp only [round]
    by_cases hl : x.lapses s.flc.round = true
    · simp only [hl, if_true]
      exact State.raiseStation_withFlc (s := (s.updStation _ _).revoke _) hf ..
    · simp only [hl]
      rfl

end

/-- A sequence of operations that look at no more of the FLC than its round number. -/
theorem foldl_withFlc {α : Type} {g : State → α → State} {f : Flc}
    (hg : ∀ s a, f.round = s.flc.round → g (s.withFlc f) a = (g s a).withFlc f)
    (hk : ∀ s a, (g s a).flc = s.flc) : ∀ (l : List α) (s : State), f.round = s.flc.round →
      l.foldl g (s.withFlc f) = (l.foldl g s).withFlc f
  | [], _, _ => rfl
  | a :: l, s, hf => by
    rw [List.foldl_cons, hg s a hf, List.foldl_cons]
    exact foldl_withFlc hg hk l (g s a) (by rw [hk]; exact hf)

/-- The announces and the lapses of a round close (R27, R31), on any FLC of the round. -/
theorem State.registry_withFlc {f : Flc} {s : State} (hf : f.round = s.flc.round) (l : List Announce) :
    ((s.withFlc f).takeAnnounces l).lapseGrants = ((s.takeAnnounces l).lapseGrants).withFlc f := by
  have taken : (s.withFlc f).takeAnnounces l = (s.takeAnnounces l).withFlc f :=
    foldl_withFlc (fun _ a h => State.takeAnnounce_withFlc h a)
      (fun _ _ => (State.takeAnnounce_keeps ..).flc (by decide)) l s hf
  have round : f.round = (s.takeAnnounces l).flc.round := by
    rw [(State.takeAnnounces_keeps ..).flc (by decide), hf]
  rw [taken]
  exact foldl_withFlc (fun _ n h => State.lapseSlot_withFlc h n)
    (fun _ _ => (State.lapseSlot_keeps ..).flc (by decide)) _ _ round

/-! ## The work of the FLC at a round close -/

/-- The FLC when the counts of the round are ended, the estimate made and the counters updated (steps 1, 2, 4
and 5 of R3). -/
def Flc.tallied (f : Flc) : Flc := f.endCounts.estimate.updateCounters

/-- The counting leaves the mode, the start attempts and the announces. -/
theorem Flc.tallied_kept (f : Flc) : f.tallied.mode = f.mode ∧ f.tallied.attempts = f.attempts
    ∧ f.tallied.announced = f.announced ∧ f.tallied.announces = f.announces := by
  simp only [Flc.tallied, Flc.updateCounters, Flc.estimate, Flc.endCounts, Flc.reclassBoth, and_self]

/-- The FLC after the mode decision, and the class of its LOOP notice (R17 to R19, R22). -/
def Flc.settled (f : Flc) : Flc × Option NoticeClass :=
  if 2 ≤ f.foreignCount then (f.decide.1.haltLoop, some .urgent) else f.decide

/-- The mode decision raises the notice of what it settles (R22). -/
theorem State.decideMode_eq (s : State) :
    s.decideMode =
      (s.loopNoticed s.flc.settled.2 (s.flc.settled.1.notice s.flc.round)).withFlc s.flc.settled.1 := by
  unfold State.decideMode Flc.settled
  split
  · rfl
  · obtain ⟨f, cls⟩ := s.flc.decide
    cases cls <;> rfl

/-- The registry at a round close: the announces, then the lapses (R27, R31). -/
def State.registryClose (s : State) : State :=
  (s.takeAnnounces (mergedAnnounces s.flc.announces)).lapseGrants

/-- The round close of the loop: the registry's work, the notice and the FLC (R3). -/
theorem State.closeLoop_eq (s : State) :
    s.closeLoop =
      (s.registryClose.loopNoticed s.flc.tallied.settled.2
        (s.flc.tallied.settled.1.notice s.flc.round)).withFlc s.flc.tallied.settled.1 := by
  have ended : ((s.withFlc s.flc.endCounts).takeAnnounces (mergedAnnounces s.flc.announces)).lapseGrants
      = s.registryClose.withFlc s.flc.endCounts := State.registry_withFlc (f := s.flc.endCounts) rfl _
  have unfolded : ∀ u : State,
      ((s.withFlc s.flc.endCounts).takeAnnounces (mergedAnnounces s.flc.announces)).lapseGrants = u →
      s.closeLoop = (u.withFlc u.flc.estimate.updateCounters).decideMode := by rintro _ rfl; rfl
  rw [unfolded _ ended, State.withFlc_flc, State.withFlc_withFlc, State.decideMode_eq, State.withFlc_flc,
    State.loopNoticed_withFlc, State.withFlc_withFlc]
  rfl

/-- The other blocks leave the FLC. -/
theorem State.closeOthers_flc (s : State) : s.closeWind.closeSite.assess.flc = s.flc :=
  ((State.assess_keeps _).flc (by decide)).trans
    (((State.closeSite_keeps _).flc (by decide)).trans ((State.closeWind_keeps _).flc (by decide)))

/-- The FLC right after the apply of a round close. -/
theorem State.closing_flc (s : State) (p : Progress) :
    (s.closing p).flc = { s.flc with progress := some { p with closed := true } } :=
  (State.applySet_keeps _).flc (by decide)

/-- A round close: the apply, the loop, and the other blocks (R3). -/
theorem State.closeRound_open {s : State} {p : Progress} (hr : s.flc.mode.runs = true)
    (hp : s.flc.progress = some p) (hc : p.closed = false) :
    s.closeRound = (s.closing p).closeLoop.closeWind.closeSite.assess := by
  simp [State.closeRound, State.closeBlocks, State.closing, State.atClose, closeTime, hr, hp, hc]

end Sys2Proof.Machine

/-! # The mode decision (R17 to R19), and the round close of the loop -/

namespace Sys2Proof.Machine

/-! ## What the mode decision leaves alone -/

/-- `g` agrees with `f` but for the mode, its reasons, the recovery count and the round in progress. -/
structure Flc.SameTally (f g : Flc) : Prop where
  listen : g.listen = f.listen
  attempts : g.attempts = f.attempts
  round : g.round = f.round
  missAB : g.missAB = f.missAB
  missBA : g.missBA = f.missBA
  noisy : g.noisy = f.noisy
  foreignHeard : g.foreignHeard = f.foreignHeard
  foreignCount : g.foreignCount = f.foreignCount
  running : g.running = f.running
  last : g.last = f.last
  announced : g.announced = f.announced
  announces : g.announces = f.announces
  breakA : g.breakA = f.breakA
  breakB : g.breakB = f.breakB

theorem Flc.SameTally.conditions {f g : Flc} (h : f.SameTally g) : g.conditions = f.conditions := by
  rw [Flc.conditions, h.missAB, h.missBA, h.noisy, Flc.conditions]

theorem Flc.decide_tally (f : Flc) : f.SameTally f.decide.1 := by
  unfold Flc.decide
  split
  · unfold Flc.decideRunning
    split <;> constructor <;> rfl
  · unfold Flc.decideDegraded
    dsimp only
    split <;> constructor <;> rfl
  · constructor <;> rfl
  · constructor <;> rfl

theorem Flc.settled_tally (f : Flc) : f.SameTally f.settled.1 := by
  unfold Flc.settled
  split
  · obtain ⟨⟩ := f.decide_tally
    constructor <;> assumption
  · exact f.decide_tally

/-! ## What it decides -/

section
variable {f : Flc}

/-- The second foreign round halts the loop, whatever R17 and R18 decide (R19). -/
theorem Flc.settled_halted (hf : 2 ≤ f.foreignCount) :
    f.settled = (f.decide.1.haltLoop, some .urgent) := if_pos hf

/-- In RUNNING a counter at 3 brings DEGRADED (R17). -/
theorem Flc.settled_running (hf : f.foreignCount < 2) (hm : f.mode = .running) :
    f.settled =
      if f.conditions.any then
        ({ f with mode := .degraded, reasons := f.conditions, recovery := 0 }, some .urgent)
      else (f, none) := by
  have decided : f.decide = f.decideRunning := by simp [Flc.decide, hm]
  rw [Flc.settled, if_neg (Nat.not_le.mpr hf), decided]
  rfl

/-- In DEGRADED 40 clean rounds in a row bring RUNNING, and any other round its reasons (R18). -/
theorem Flc.settled_degraded (hf : f.foreignCount < 2) (hm : f.mode = .degraded) :
    f.settled =
      if 40 ≤ f.recoveryAfter then
        ({ f with mode := .running, reasons := .empty, recovery := 0 }, some .routine)
      else
        ({ f with reasons := f.reasons.union f.conditions, recovery := f.recoveryAfter },
         if f.reasons.union f.conditions = f.reasons then none else some .urgent) := by
  have decided : f.decide = f.decideDegraded := by simp [Flc.decide, hm]
  rw [Flc.settled, if_neg (Nat.not_le.mpr hf), decided]
  rfl

/-- The class of the LOOP notice of a round close, read off the mode and the reasons (R22). -/
theorem Flc.settled_class (hr : f.mode.runs = true) :
    f.settled.2 =
      if 2 ≤ f.foreignCount then some .urgent
      else if f.mode = .running then (if f.settled.1.mode = .degraded then some .urgent else none)
      else if f.settled.1.mode = .running then some .routine
      else if f.settled.1.reasons = f.reasons then none
      else some .urgent := by
  rcases Nat.lt_or_ge f.foreignCount 2 with hf | hf
  · rw [if_neg (Nat.not_le.mpr hf)]
    cases hm : f.mode with
    | running =>
      rw [Flc.settled_running hf hm]
      split <;> simp [hm]
    | degraded =>
      rw [Flc.settled_degraded hf hm]
      split <;> simp [hm]
    | listen => simp [hm, LoopMode.runs] at hr
    | halted => simp [hm, LoopMode.runs] at hr
  · rw [Flc.settled_halted hf, if_pos hf]

/-- A clean round (R18). -/
theorem Flc.clean_iff : f.clean = true ↔
    f.echoAB = true ∧ f.echoBA = true ∧ f.last.a.syntaxErrors < 8 ∧ f.last.b.syntaxErrors < 8 := by
  simp [Flc.clean, Counts.noisy, and_assoc]

/-- The recovery count after a round (R18). -/
theorem Flc.recoveryAfter_eq : f.recoveryAfter =
    if f.echoAB = true ∧ f.echoBA = true ∧ f.last.a.syntaxErrors < 8 ∧ f.last.b.syntaxErrors < 8
    then f.recovery + 1 else 0 := by
  rw [Flc.recoveryAfter]
  exact if_congr Flc.clean_iff rfl rfl

end

/-- A consecutive-noisy counter at a round close (R12). -/
theorem noisyAfter_eq (k : Counts) (n : Nat) :
    noisyAfter k n = if 8 ≤ k.syntaxErrors then min 3 (n + 1) else 0 := by
  simp [noisyAfter, Counts.noisy, countTo]

/-- A decision that is not a halt leaves the round in progress (R17, R18). -/
theorem Flc.decide_progress (f : Flc) : f.decide.1.progress = f.progress := by
  unfold Flc.decide
  split
  · unfold Flc.decideRunning; split <;> rfl
  · unfold Flc.decideDegraded; dsimp only; split <;> rfl
  · rfl
  · rfl

section
variable {f : Flc}

theorem Flc.settled_progress (hf : f.foreignCount < 2) : f.settled.1.progress = f.progress := by
  rw [Flc.settled, if_neg (Nat.not_le.mpr hf), Flc.decide_progress]

/-- The mode, the reasons and the recovery count after a round close in RUNNING (R17). -/
theorem Flc.settled_running_spec (hf : f.foreignCount < 2) (hm : f.mode = .running) :
    f.settled.1.mode = (if f.conditions.any then .degraded else .running)
    ∧ (f.conditions.any = true → f.settled.1.reasons = f.conditions ∧ f.settled.1.recovery = 0)
    ∧ (f.conditions.any = false →
        f.settled.1.reasons = f.reasons ∧ f.settled.1.recovery = f.recovery) := by
  rw [Flc.settled_running hf hm]
  cases h : f.conditions.any <;> simp [hm]

/-- The mode, the reasons and the recovery count after a round close in DEGRADED (R18). -/
theorem Flc.settled_degraded_spec (hf : f.foreignCount < 2) (hm : f.mode = .degraded) :
    (f.settled.1.mode = .running ↔ 40 ≤ f.recoveryAfter)
    ∧ (f.settled.1.mode = .running → f.settled.1.reasons = .empty ∧ f.settled.1.recovery = 0)
    ∧ (f.settled.1.mode ≠ .running → f.settled.1.mode = .degraded
        ∧ f.settled.1.reasons = f.reasons.union f.conditions ∧ f.settled.1.recovery = f.recoveryAfter) := by
  rw [Flc.settled_degraded hf hm]
  by_cases h : 40 ≤ f.recoveryAfter <;> simp [h, hm]

/-- 40 clean rounds in a row (R18). -/
theorem Flc.forty_clean_iff : 40 ≤ f.recoveryAfter ↔
    f.echoAB = true ∧ f.echoBA = true ∧ f.last.a.syntaxErrors < 8 ∧ f.last.b.syntaxErrors < 8
      ∧ 40 ≤ f.recovery + 1 := by
  rw [Flc.recoveryAfter_eq]
  split
  · rename_i h; simp [h]
  · rename_i h; simp only [← and_assoc] at h ⊢; simp [h]

end

/-- The work after the loop's at a round close (R3). -/
theorem State.closeRound_eq {s : State} {p : Progress} (hr : s.flc.mode.runs = true)
    (hp : s.flc.progress = some p) (hc : p.closed = false) {f : Flc} (hf : f = (s.closing p).flc.tallied) :
    s.closeRound =
      (((s.closing p).registryClose.loopNoticed f.settled.2
        (f.settled.1.notice s.flc.round)).withFlc f.settled.1).closeWind.closeSite.assess := by
  subst hf
  rw [State.closeRound_open hr hp hc, State.closeLoop_eq, State.closing_flc]

/-- Settles O14: the FLC's work on its own state, then its decision, then the frame of the other blocks. -/
theorem roundCloseDecidesTheMode : Obligations.RoundCloseDecidesTheMode := by
  intro s p hr hp hc
  have before := s.closing_flc p
  have closed := State.closeRound_eq hr hp hc rfl
  rw [before] at closed
  have settled := congrArg State.flc closed
  rw [State.closeOthers_flc, State.withFlc_flc] at settled
  have now : s.closeRound.now = max s.now (p.start + 229000) := by
    rw [State.closeRound_open hr hp hc]
    exact (State.closeBlocks_keeps (s.atClose p)).now (by decide)
  have tally := ({ s.flc with progress := some { p with closed := true } } : Flc).tallied.settled_tally
  have conditions := tally.conditions
  refine ⟨s.closeRound, rfl, State.closeRound_keeps s, State.closeRound_quiet s, now, ?_⟩
  rw [settled]
  refine ⟨tally.round, tally.running, tally.missAB, tally.missBA, ?_, ?_, tally.foreignCount,
    tally.foreignHeard, congrArg (fun k => k.a.syntaxErrors) tally.last,
    congrArg (fun k => k.b.syntaxErrors) tally.last,
    congrArg (fun k => k.a.boundary) tally.last, congrArg (fun k => k.b.boundary) tally.last,
    ?_, tally.breakA, tally.breakB, ?_, ?_, ?_, ?_, ?_⟩
  · rw [tally.noisy]; exact noisyAfter_eq ..
  · rw [tally.noisy]; exact noisyAfter_eq ..
  · rintro k hd rfl
    rw [tally.last, ← announceClashes_eq hd]
    exact ⟨rfl, rfl, rfl, rfl⟩
  · intro hf
    rw [tally.foreignCount] at hf
    rw [Flc.settled_halted hf]
    exact ⟨rfl, rfl, rfl, rfl⟩
  · intro hf
    rw [tally.foreignCount] at hf
    exact Flc.settled_progress hf
  · intro hf hm
    rw [tally.foreignCount] at hf
    rw [conditions]
    exact Flc.settled_running_spec hf hm
  · intro hf hm
    rw [tally.foreignCount] at hf
    rw [conditions]
    obtain ⟨hiff, hrun, hstay⟩ := Flc.settled_degraded_spec hf hm
    refine ⟨hiff.trans Flc.forty_clean_iff, hrun, fun h => ?_⟩
    obtain ⟨hmode, hreasons, hrecovery⟩ := hstay h
    exact ⟨hmode, hreasons, hrecovery.trans Flc.recoveryAfter_eq⟩
  · intro u cls hu hcls
    have cls_eq := Flc.settled_class
      (f := ({ s.flc with progress := some { p with closed := true } } : Flc).tallied) hr
    rw [← tally.foreignCount] at cls_eq
    have registry : (s.closing p).registryClose = u := by rw [State.registryClose, before, hu]
    have notice : ∀ f : Flc, f.attempts = s.flc.attempts → f.breakA = lastA s.flc.verdicts →
        f.breakB = firstB s.flc.verdicts → f.notice s.flc.round =
          { mode := f.mode, reasons := f.reasons, halt := f.halt, attempts := s.flc.attempts,
            round := s.flc.round, breakA := lastA s.flc.verdicts, breakB := firstB s.flc.verdicts } := by
      intro f ha hA hB
      rw [Flc.notice, ha, hA, hB]
    rw [closed, registry, notice _ tally.attempts tally.breakA tally.breakB, cls_eq, hcls]
    rfl

end Sys2Proof.Machine

/-! # The loop's invariant (sections 1.2, 1.3 and 1.5, R10, R152) -/

namespace Sys2Proof.Machine

/-- The invariant's part of the FLC. -/
def Flc.StateOk (f : Flc) : Prop := f.LoopOk ∧ f.AnnouncesOk ∧ f.attempts ≤ 7

/-- The invariant's part of the CAU: the start attempts in force, and those that are staged (R152). -/
def Cau.AttemptsOk (c : Cau) : Prop := c.site.attempts ≤ 7 ∧ ∀ x ∈ c.items, x.attemptsOk

/-- The invariant is one of the FLC and one of the CAU. -/
theorem State.loopOk_iff {s : State} : s.LoopOk ↔ s.flc.StateOk ∧ s.cau.AttemptsOk := by
  simp only [State.LoopOk, Flc.StateOk, Cau.AttemptsOk, and_assoc]

/-- An operation that leaves the FLC and the CAU keeps the invariant. -/
theorem State.LoopOk.ofKeeps {ps : List Part} {s t : State} (h : s.LoopOk) (k : KeepsBut ps s t)
    (hf : Part.flc ∉ ps := by decide) (hc : Part.cau ∉ ps := by decide) : t.LoopOk := by
  rw [State.loopOk_iff, k.flc hf, k.cau hc, ← State.loopOk_iff]
  exact h

/-- An operation that leaves the FLC keeps the invariant where the CAU's part holds. -/
theorem State.LoopOk.ofCau {ps : List Part} {s t : State} (h : s.LoopOk) (k : KeepsBut ps s t)
    (hc : t.cau.AttemptsOk) (hf : Part.flc ∉ ps := by decide) : t.LoopOk := by
  rw [State.loopOk_iff, k.flc hf]
  exact ⟨(State.loopOk_iff.mp h).1, hc⟩

/-- An operation that leaves the CAU keeps the invariant where the FLC's part holds. -/
theorem State.LoopOk.ofFlc {ps : List Part} {s t : State} (h : s.LoopOk) (k : KeepsBut ps s t)
    (hf : t.flc.StateOk) (hc : Part.cau ∉ ps := by decide) : t.LoopOk := by
  rw [State.loopOk_iff, k.cau hc]
  exact ⟨hf, (State.loopOk_iff.mp h).2⟩

/-! ## The FLC's operations -/

/-- The FLC after a RESTART (R21). -/
theorem Flc.restarted_stateOk (now : Time) {attempts : Nat} (h : attempts ≤ 7) :
    (Flc.restarted now attempts).StateOk := by
  refine ⟨?_, ⟨List.Pairwise.nil, fun _ hx => absurd hx List.not_mem_nil⟩, h⟩
  simp [Flc.LoopOk, Flc.restarted, Flc.afterPower, LoopMode.runs]

section
variable {f g : Flc}

/-- A foreign beacon that takes the last start attempt (R15). -/
theorem Flc.LoopOk.halted (h : f.LoopOk) (hm : f.mode = .listen) :
    ({ f with attempts := 0, mode := .halted, listen := none, halt := some .foreignBeacon } : Flc).LoopOk := by
  obtain ⟨hprogress, -, -, hab, hba, hna, hnb, hfc, hrec, hreasons, -⟩ := h
  refine ⟨?_, by simp, by simp, hab, hba, hna, hnb, hfc, hrec, fun _ => hreasons (by simp [hm]),
    fun hd => by simp at hd⟩
  rw [hprogress, hm]
  rfl

/-- A listen phase in place of another one (R14, R15). -/
theorem Flc.LoopOk.listening (h : f.LoopOk) (hm : f.mode = .listen) (a : Nat) (l : ListenPhase) :
    ({ f with attempts := a, listen := some l } : Flc).LoopOk := by
  obtain ⟨hprogress, -, hrest⟩ := h
  exact ⟨hprogress, by simp [hm], hrest⟩

/-- A round that starts while rounds run (R1). -/
theorem Flc.LoopOk.begin (h : f.LoopOk) (hr : f.mode.runs = true) (round : Round) (start : Time)
    (b : Beacon) : (f.begin round start b).LoopOk := by
  obtain ⟨-, hrest⟩ := h
  exact ⟨by simp [Flc.begin, hr], hrest⟩

/-- Round 0 starts at the end of a listen period (R16). -/
theorem Flc.LoopOk.beginFirst (h : f.LoopOk) (hm : f.mode = .listen) (start : Time) (b : Beacon) :
    (({ f with mode := .running, listen := none } : Flc).begin 0 start b).LoopOk := by
  obtain ⟨-, -, hhalt, hab, hba, hna, hnb, hfc, hrec, hreasons, -⟩ := h
  refine ⟨by simp [Flc.begin, LoopMode.runs], by simp [Flc.begin], ?_, hab, hba, hna, hnb, hfc, hrec,
    fun _ => hreasons (by simp [hm]), fun hd => by simp [Flc.begin] at hd⟩
  simpa [Flc.begin, hm] using hhalt

/-- A round starts without any announce copy (R10). -/
theorem Flc.begin_announcesOk (round : Round) (start : Time) (b : Beacon) :
    (f.begin round start b).AnnouncesOk :=
  ⟨List.Pairwise.nil, fun _ hx => absurd hx List.not_mem_nil⟩

/-- The round in progress moves on. -/
theorem Flc.StateOk.progress (h : f.StateOk) (hr : f.mode.runs = true) (p : Progress) :
    ({ f with progress := some p } : Flc).StateOk := by
  obtain ⟨⟨-, hrest⟩, hrest'⟩ := h
  exact ⟨⟨by simp [hr], hrest⟩, hrest'⟩

/-- The part of the invariant that copies do not touch. -/
theorem Flc.LoopOk.ofSame (h : f.LoopOk) (k : f.SameButCopies g) : g.LoopOk := by
  rw [Flc.LoopOk, k.progress, k.mode, k.listen, k.halt, k.missAB, k.missBA, k.noisy, k.foreignCount,
    k.recovery, k.reasons]
  exact h

/-- An announce copy is added once for each side and identity (R10). -/
theorem Flc.AnnouncesOk.judgeAnnounce (h : f.AnnouncesOk) (side : Side) (i : Identity) (k : Byte) :
    (f.judgeAnnounce side i k).2.AnnouncesOk := by
  obtain ⟨hdistinct, hseen⟩ := h
  have noted : ∀ x ∈ f.announces, (x.side, x.identity) ∈ f.announced ++ [(side, i)] :=
    fun x hx => List.mem_append_left _ (hseen x hx)
  unfold Flc.judgeAnnounce
  split
  · exact ⟨hdistinct, hseen⟩
  · split
    · exact ⟨hdistinct, hseen⟩
    · rename_i hnew
      split
      · exact ⟨hdistinct, noted⟩
      · split
        · exact ⟨hdistinct, noted⟩
        · refine ⟨List.pairwise_append.mpr ⟨hdistinct, List.pairwise_singleton .., fun x hx y hy => ?_⟩,
            fun x hx => ?_⟩
          · obtain rfl := List.mem_singleton.mp hy
            by_contra hsame
            obtain ⟨hs, hi⟩ := not_or.mp hsame
            have := hseen x hx
            rw [not_ne_iff.mp hs, not_ne_iff.mp hi] at this
            exact hnew (List.contains_iff_mem.mpr this)
          · rcases List.mem_append.mp hx with hx | hx
            · exact noted x hx
            · obtain rfl := List.mem_singleton.mp hx
              exact List.mem_append_right _ (List.mem_singleton_self _)

end

/-- A judgement keeps the announce copies distinct (R10). -/
theorem State.judgeCopy_announcesOk {s : State} (h : s.flc.AnnouncesOk) (side : Side) (w : Window)
    (e : CopyEnd) (bytes : List Byte) : (s.judgeCopy side w e bytes).2.AnnouncesOk := by
  unfold State.judgeCopy
  split
  · exact h
  · split
    · exact h
    · unfold Flc.judgeBeacon
      split
      · split <;> exact h
      · exact h
    · split
      · unfold Flc.judgeStation
        split <;> exact h
      · exact h
    · split
      · exact h.judgeAnnounce ..
      · exact h

/-- A received copy keeps the FLC's part of the invariant. -/
theorem State.copied_stateOk {s : State} (h : s.flc.StateOk) (side : Side) (w : Window) (e : CopyEnd)
    (bytes : List Byte) : (s.copied side w e bytes).StateOk := by
  obtain ⟨hloop, hannounces, hattempts⟩ := h
  have same := s.copied_same side w e bytes
  refine ⟨hloop.ofSame same, ?_, by rw [same.attempts]; exact hattempts⟩
  rw [Flc.AnnouncesOk, State.copied_announces, State.copied_announced]
  exact State.judgeCopy_announcesOk hannounces side w e bytes

/-! ## The FLC at a round close -/

theorem countTo_le (limit n : Nat) : countTo limit n ≤ limit := Nat.min_le_left ..

/-- Some reason in a set makes it other than the empty one. -/
theorem Reasons.any_iff {r : Reasons} : r.any = true ↔ r ≠ .empty := by
  obtain ⟨a, b, c⟩ := r
  cases a <;> cases b <;> cases c <;> simp [Reasons.any, Reasons.empty]

/-- A set stays other than the empty one in a union. -/
theorem Reasons.union_ne_empty {x : Reasons} (y : Reasons) (h : x ≠ .empty) : x.union y ≠ .empty := by
  rw [← Reasons.any_iff] at h ⊢
  simp only [Reasons.any, Reasons.union, Bool.or_eq_true] at h ⊢
  tauto

section
variable {f : Flc}

/-- The counters of a round close stay within their ranges (R6, R12, R19). -/
theorem Flc.LoopOk.tallied (h : f.LoopOk) : f.tallied.LoopOk := by
  obtain ⟨hprogress, hlisten, hhalt, -, -, -, -, -, hrest⟩ := h
  have miss : ∀ present n, missAfter present n ≤ 3 := fun present n => by
    unfold missAfter; split
    · exact Nat.zero_le _
    · exact countTo_le ..
  have noisy : ∀ k n, noisyAfter k n ≤ 3 := fun k n => by
    unfold noisyAfter; split
    · exact countTo_le ..
    · exact Nat.zero_le _
  have foreign : ∀ heard n, foreignAfter heard n ≤ 2 := fun heard n => by
    unfold foreignAfter; split
    · exact countTo_le ..
    · exact Nat.zero_le _
  simp only [Flc.LoopOk, Flc.tallied, Flc.updateCounters, Flc.estimate, Flc.endCounts, Flc.reclassBoth]
  exact ⟨hprogress, hlisten, hhalt, miss _ _, miss _ _, noisy _ _, noisy _ _, foreign _ _, hrest⟩

/-- While rounds run a round is in progress, and there is neither a listen phase nor a halt reason. -/
theorem Flc.LoopOk.of_runs (h : f.LoopOk) (hr : f.mode.runs = true) :
    f.progress.isSome = true ∧ ¬ f.listen.isSome = true ∧ ¬ f.halt.isSome = true := by
  obtain ⟨hprogress, hlisten, hhalt, -⟩ := h
  rw [hprogress, hlisten, hhalt]
  exact ⟨hr, by intro hm; simp [hm, LoopMode.runs] at hr, by intro hm; simp [hm, LoopMode.runs] at hr⟩

/-- The decisions of R17 and R18 keep the loop consistent with its mode. -/
theorem Flc.LoopOk.decide (h : f.LoopOk) (hr : f.mode.runs = true) :
    f.decide.1.LoopOk ∧ f.decide.1.mode.runs = true := by
  obtain ⟨hopen, hdeaf, hwhole⟩ := h.of_runs hr
  have ⟨hprogress, hlisten, hhalt, hab, hba, hna, hnb, hfc, hrec, hreasons, hdegraded⟩ := h
  cases hm : f.mode with
  | listen => simp [hm, LoopMode.runs] at hr
  | halted => simp [hm, LoopMode.runs] at hr
  | running =>
    have decided : f.decide = f.decideRunning := by simp [Flc.decide, hm]
    rw [decided, Flc.decideRunning]
    split
    · rename_i hany
      exact ⟨⟨by simp [hopen, LoopMode.runs], by simpa using hdeaf, by simpa using hwhole, hab, hba, hna, hnb,
        hfc, by simp, fun hd => absurd rfl hd, fun _ => Reasons.any_iff.mp hany⟩, rfl⟩
    · exact ⟨h, hr⟩
  | degraded =>
    have decided : f.decide = f.decideDegraded := by simp [Flc.decide, hm]
    rw [decided, Flc.decideDegraded]
    split
    · exact ⟨⟨by simp [hopen, LoopMode.runs], by simpa using hdeaf, by simpa using hwhole, hab, hba, hna, hnb,
        hfc, by simp, fun _ => rfl, fun hd => by simp at hd⟩, rfl⟩
    · rename_i hfew
      exact ⟨⟨hprogress, hlisten, hhalt, hab, hba, hna, hnb, hfc, Nat.not_le.mp hfew,
        fun hd => absurd hm hd, fun _ => Reasons.union_ne_empty _ (hdegraded hm)⟩, hr⟩

/-- A halt at a round close keeps it as well (R19). -/
theorem Flc.LoopOk.haltLoop (h : f.LoopOk) (hr : f.mode.runs = true) : f.haltLoop.LoopOk := by
  obtain ⟨-, hdeaf, -⟩ := h.of_runs hr
  obtain ⟨-, -, -, hab, hba, hna, hnb, hfc, hrec, -, -⟩ := h
  exact ⟨by simp [Flc.haltLoop, LoopMode.runs], by simpa [Flc.haltLoop] using hdeaf, by simp [Flc.haltLoop],
    hab, hba, hna, hnb, hfc, hrec, fun _ => rfl, fun hd => by simp [Flc.haltLoop] at hd⟩

/-- The mode decision keeps the FLC's part of the invariant. -/
theorem Flc.StateOk.settled (h : f.StateOk) (hr : f.mode.runs = true) : f.settled.1.StateOk := by
  obtain ⟨hloop, hannounces, hattempts⟩ := h
  have tally := f.settled_tally
  refine ⟨?_, ?_, by rw [tally.attempts]; exact hattempts⟩
  · obtain ⟨hdecided, hruns⟩ := hloop.decide hr
    unfold Flc.settled
    split
    · exact hdecided.haltLoop hruns
    · exact hdecided
  · rw [Flc.AnnouncesOk, tally.announces, tally.announced]
    exact hannounces

theorem Flc.StateOk.tallied (h : f.StateOk) : f.tallied.StateOk := by
  obtain ⟨hloop, hannounces, hattempts⟩ := h
  obtain ⟨-, kept, seen, copies⟩ := f.tallied_kept
  refine ⟨hloop.tallied, ?_, by rw [kept]; exact hattempts⟩
  rw [Flc.AnnouncesOk, copies, seen]
  exact hannounces

end

end Sys2Proof.Machine

/-! # Every step keeps the loop's invariant -/

namespace Sys2Proof.Machine

/-! ## The events of the loop -/

section
variable {s : State}

theorem State.LoopOk.hearForeign (h : s.LoopOk) : s.hearForeign.LoopOk := by
  obtain ⟨⟨hloop, hannounces, hattempts⟩, -⟩ := State.loopOk_iff.mp h
  refine h.ofFlc (State.hearForeign_keeps s) ?_
  unfold State.hearForeign
  split
  · rename_i hm hl
    split
    · exact ⟨hloop.halted hm, hannounces, Nat.zero_le _⟩
    · exact ⟨hloop.listening hm .., hannounces, (Nat.sub_le ..).trans hattempts⟩
  · exact ⟨hloop, hannounces, hattempts⟩

theorem State.LoopOk.endBackOff (h : s.LoopOk) : s.endBackOff.LoopOk := by
  obtain ⟨⟨hloop, hrest⟩, -⟩ := State.loopOk_iff.mp h
  refine h.ofFlc (State.endBackOff_keeps s) ?_
  unfold State.endBackOff
  split
  · rename_i hm hl
    exact ⟨hloop.listening hm .., hrest⟩
  · exact ⟨hloop, hrest⟩

theorem State.LoopOk.endListen (h : s.LoopOk) : s.endListen.LoopOk := by
  obtain ⟨⟨hloop, hannounces, hattempts⟩, -⟩ := State.loopOk_iff.mp h
  refine h.ofFlc (State.endListen_keeps s) ?_
  by_cases hlisten : ∃ e, s.flc.mode = .listen ∧ s.flc.listen = some (.listening e)
  · obtain ⟨e, hm, hl⟩ := hlisten
    rw [State.endListen_listening hm hl, State.raiseLoop, State.raise_flc, State.beginRound_flc]
    exact ⟨hloop.beginFirst hm .., Flc.begin_announcesOk .., hattempts⟩
  · have still : s.endListen = s := by
      unfold State.endListen
      split
      · rename_i e hm hl
        exact absurd ⟨e, hm, hl⟩ hlisten
      · rfl
    rw [still]
    exact ⟨hloop, hannounces, hattempts⟩

theorem State.LoopOk.startRound (h : s.LoopOk) : s.startRound.LoopOk := by
  obtain ⟨⟨hloop, hannounces, hattempts⟩, -⟩ := State.loopOk_iff.mp h
  refine h.ofFlc (State.startRound_keeps s) ?_
  unfold State.startRound
  split
  · exact ⟨hloop, hannounces, hattempts⟩
  · split
    · rename_i hruns
      rw [State.beginRound_flc]
      exact ⟨hloop.begin (Bool.and_eq_true_iff.mp hruns).1 .., Flc.begin_announcesOk .., hattempts⟩
    · exact ⟨hloop, hannounces, hattempts⟩

theorem State.LoopOk.startPhaseB (h : s.LoopOk) : s.startPhaseB.LoopOk := by
  obtain ⟨hflc, -⟩ := State.loopOk_iff.mp h
  refine h.ofFlc (State.startPhaseB_keeps s) ?_
  unfold State.startPhaseB
  split
  · exact hflc
  · split
    · rename_i hruns
      simp only [Bool.and_eq_true] at hruns
      obtain ⟨⟨⟨hr, -⟩, -⟩, -⟩ := hruns
      exact hflc.progress hr _
    · exact hflc

theorem State.LoopOk.takeCopy (h : s.LoopOk) (side : Side) (w : Window) (e : CopyEnd) (bytes : List Byte) :
    (s.takeCopy side w e bytes).LoopOk := by
  have round : (s.roundCopy side w e bytes).LoopOk := by
    refine h.ofFlc (State.roundCopy_keeps ..) ?_
    obtain ⟨hflc, -⟩ := State.loopOk_iff.mp h
    unfold State.roundCopy
    split
    · exact hflc
    · split
      · exact State.copied_stateOk hflc side w e bytes
      · exact hflc
  unfold State.takeCopy
  split
  · unfold State.listenCopy
    split
    · split
      · exact h.hearForeign
      · exact h
    · exact h
  · exact round
  · exact round
  · exact h

/-- A verdict changes the counts and the verdicts of the FLC at most. -/
theorem State.LoopOk.passVerdict (h : s.LoopOk) (n ring : Nat) (v : Verdict) :
    (s.passVerdict n ring v).LoopOk := by
  cases v with
  | delivered x hA hB =>
    have noted : (s.noteVerdict { ring := ring, heardA := hA, heardB := hB }).LoopOk := h
    exact noted.ofKeeps (State.delivered_keeps ..)
  | missing => exact h.ofKeeps (State.missed_keeps ..)
  | clash =>
    have reclassed : ({ s with flc := s.flc.reclassBoth 1 } : State).LoopOk := h
    exact reclassed.ofKeeps (State.missed_keeps ..)

theorem State.LoopOk.endSlot (h : s.LoopOk) (n : Nat) : (s.endSlot n).LoopOk := by
  obtain ⟨hflc, hcau⟩ := State.loopOk_iff.mp h
  by_cases hslot : ∃ p, s.flc.progress = some p ∧ s.flc.mode.runs = true ∧ p.inWindow (.slot n) = true ∧ n ≤ 48
  · obtain ⟨p, hp, hr, hw, hn⟩ := hslot
    have moved : (s.atSlotEnd n p).LoopOk := State.loopOk_iff.mpr ⟨hflc.progress hr _, hcau⟩
    cases hx : s.station n with
    | none => rw [State.endSlot_empty hr hp hw hn hx]; exact moved
    | some x => rw [State.endSlot_configured hr hp hw hn hx]; exact moved.passVerdict ..
  · have still : s.endSlot n = s := by
      unfold State.endSlot
      split
      · rfl
      · rename_i p hp
        refine if_neg fun hc => hslot ⟨p, hp, ?_⟩
        simpa [and_assoc] using hc
    rw [still]
    exact h

end

/-! ## The CAU (R152 to R166) -/

theorem firstBad_eq_none {cs : List (Nat × Bool)} (h : firstBad cs = none) : ∀ c ∈ cs, c.2 = true := by
  induction cs with
  | nil => simp
  | cons c cs ih =>
    obtain ⟨i, good⟩ := c
    cases good <;> simp_all [firstBad]

/-- An item that passes its checks is the item that was checked. -/
theorem checkedItem_good {cs : List (Nat × Bool)} {x y : Item} (h : checkedItem cs y = .good x) :
    x = y ∧ ∀ c ∈ cs, c.2 = true := by
  unfold checkedItem at h
  split at h
  · cases h
  · rename_i hn
    cases h
    exact ⟨rfl, firstBad_eq_none hn⟩

/-- A SITE item that passes its checks has its start attempts in range (R152). -/
theorem siteItem_good {p : SiteParams} {x : Item} (h : siteItem p = .good x) : x = .site p ∧ p.attempts ≤ 7 := by
  obtain ⟨hx, hgood⟩ := checkedItem_good h
  have attempts : inRange 1 7 p.attempts = true := hgood (13, inRange 1 7 p.attempts) (by simp)
  exact ⟨hx, (of_decide_eq_true attempts).2⟩

/-- The start attempts of an item that passes its checks are in their range (R152, R153). -/
theorem checkItem_attemptsOk {item : List Byte} {x : Item} (h : checkItem item = .good x) : x.attemptsOk := by
  unfold checkItem at h
  split at h
  · obtain ⟨rfl, -⟩ := checkedItem_good h; trivial
  · obtain ⟨rfl, -⟩ := checkedItem_good h; trivial
  · obtain ⟨rfl, -⟩ := checkedItem_good h; trivial
  · obtain ⟨rfl, -⟩ := checkedItem_good h; trivial
  · obtain ⟨rfl, hattempts⟩ := siteItem_good h; exact hattempts
  · obtain ⟨rfl, -⟩ := checkedItem_good h; trivial
  · cases h

/-- A set that returns to FREE holds no items. -/
theorem Cau.AttemptsOk.freed {c : Cau} (h : c.AttemptsOk) : c.freed.AttemptsOk :=
  ⟨h.1, fun _ hx => absurd hx List.not_mem_nil⟩

/-- An item put in the place of another one of its key. -/
theorem mem_replaceStaged {x y : Item} : ∀ {l : List Item}, x ∈ replaceStaged y l → x = y ∨ x ∈ l
  | [], h => by simp [replaceStaged] at h
  | z :: l, h => by
    unfold replaceStaged at h
    split at h
    · rcases List.mem_cons.mp h with rfl | h
      · exact .inl rfl
      · exact .inr (List.mem_cons_of_mem _ h)
    · rcases List.mem_cons.mp h with rfl | h
      · exact .inr (List.mem_cons_self ..)
      · exact (mem_replaceStaged h).imp_right (List.mem_cons_of_mem _)

section
variable {s : State}

/-- A set that is freed with its notice. -/
theorem State.LoopOk.freeSet (h : s.LoopOk) (event : ConfigEvent) : (s.freeSet event).LoopOk :=
  h.ofCau (State.freeSet_keeps ..) (State.loopOk_iff.mp h).2.freed

/-- STAGE stages nothing but items that pass their checks (R155). -/
theorem State.LoopOk.stageOpen (h : s.LoopOk) (item : List Byte) (a : Asked) : (s.stageOpen item a).LoopOk := by
  obtain ⟨-, hsite, hitems⟩ := State.loopOk_iff.mp h
  refine h.ofCau (State.stageOpen_keeps ..) ?_
  unfold State.stageOpen
  dsimp only
  split
  · exact ⟨hsite, hitems⟩
  · rename_i x hx
    have staged := checkItem_attemptsOk hx
    split
    · refine ⟨hsite, fun y hy => ?_⟩
      rcases mem_replaceStaged hy with rfl | hy
      · exact staged
      · exact hitems y hy
    · split
      · refine ⟨hsite, fun y hy => ?_⟩
        rcases List.mem_append.mp hy with hy | hy
        · exact hitems y hy
        · obtain rfl := List.mem_singleton.mp hy
          exact staged
      · exact ⟨hsite, hitems⟩

theorem State.LoopOk.reply (h : s.LoopOk) (a : Asked) (r : Result) (u : List (List Byte)) :
    (s.reply a r u).LoopOk := h.ofKeeps (State.reply_keeps ..)

theorem stageCommand_loopOk (h : s.LoopOk) (item : List Byte) (a : Asked) :
    (stageCommand item a s).LoopOk := by
  unfold stageCommand
  split
  · split
    · exact h.ofKeeps (State.replyRange_keeps ..)
    · rename_i x hx
      have claimed : (s.claimSet x a.port).LoopOk := by
        refine h.ofCau (State.claimSet_keeps ..) ⟨(State.loopOk_iff.mp h).2.1, fun y hy => ?_⟩
        obtain rfl := List.mem_singleton.mp hy
        exact checkItem_attemptsOk hx
      exact claimed.reply ..
  · split
    · exact h.stageOpen item a
    · exact h.reply ..
  · split <;> exact h.reply ..
  · exact h.reply ..

theorem discardCommand_loopOk (h : s.LoopOk) (a : Asked) : (discardCommand a s).LoopOk := by
  unfold discardCommand
  split
  · exact h.reply ..
  · split
    · exact (h.freeSet _).reply ..
    · exact h.reply ..
  · split
    · exact (h.freeSet _).reply ..
    · exact h.reply ..
  · split <;> exact h.reply ..

theorem proposeCommand_loopOk (h : s.LoopOk) (a : Asked) : (proposeCommand a s).LoopOk := by
  have proposed : s.proposeSet.LoopOk :=
    h.ofCau (State.proposeSet_keeps s) (State.loopOk_iff.mp h).2
  unfold proposeCommand
  split
  · exact h.reply ..
  · split
    · exact proposed.reply ..
    · exact h.reply ..
  · split <;> exact h.reply ..
  · split <;> exact h.reply ..

theorem acceptCommand_loopOk (h : s.LoopOk) (n : Byte) (a : Asked) : (acceptCommand n a s).LoopOk := by
  have accepted : s.acceptSet.LoopOk :=
    h.ofCau (State.acceptSet_keeps s) (State.loopOk_iff.mp h).2
  unfold acceptCommand
  split
  · exact h.ofKeeps (State.replyRange_keeps ..)
  · split
    · exact h.reply ..
    · split <;> exact h.reply ..
    · split
      · exact h.reply ..
      · split
        · exact accepted.reply ..
        · exact h.reply ..
    · split <;> exact h.reply ..

theorem refuseCommand_loopOk (h : s.LoopOk) (n : Byte) (a : Asked) : (refuseCommand n a s).LoopOk := by
  unfold refuseCommand
  split
  · exact h.ofKeeps (State.replyRange_keeps ..)
  · split
    · exact h.reply ..
    · split <;> exact h.reply ..
    · split
      · exact h.reply ..
      · split
        · exact (h.freeSet _).reply ..
        · exact h.reply ..
    · split <;> exact h.reply ..

/-! ## The apply (R163, R166) -/

/-- No removal touches the CAU. -/
theorem State.applyOut_cau (s : State) (x : Item) : (s.applyOut x).cau = s.cau := by
  cases x with
  | remove k =>
    cases k with
    | station slot =>
      exact ((State.changeOccupant_keeps ..).cau (by decide)).trans ((State.dropStation_keeps ..).cau (by decide))
    | pile n => exact ((State.dropWind_keeps ..).cau (by decide)).trans ((State.dropPile_keeps ..).cau (by decide))
    | zone n =>
      exact ((State.dropZoneResult_keeps ..).cau (by decide)).trans ((State.dropZone_keeps ..).cau (by decide))
    | path p z => exact (State.dropPath_keeps ..).cau (by decide)
    | site => rfl
  | _ => rfl

/-- Of the puts a SITE item alone touches the CAU, and brings start attempts in range. -/
theorem State.applyPut_attemptsOk (h : s.cau.AttemptsOk) {x : Item} (hx : x.attemptsOk) :
    (s.applyPut x).cau.AttemptsOk := by
  cases x with
  | remove k => exact h
  | station y =>
    have kept : (s.applyPut (.station y)).cau = s.cau :=
      ((State.changeOccupant_keeps ..).cau (by decide)).trans ((State.applyStation_keeps ..).cau (by decide))
    rw [kept]; exact h
  | pile y =>
    have kept : (s.applyPut (.pile y)).cau = s.cau :=
      ((State.applyWind_keeps ..).cau (by decide)).trans ((State.applyPile_keeps ..).cau (by decide))
    rw [kept]; exact h
  | zone y =>
    have kept : (s.applyPut (.zone y)).cau = s.cau :=
      ((State.applyZoneResult_keeps ..).cau (by decide)).trans ((State.applyZone_keeps ..).cau (by decide))
    rw [kept]; exact h
  | path y =>
    have kept : (s.applyPut (.path y)).cau = s.cau := (State.applyPath_keeps ..).cau (by decide)
    rw [kept]; exact h
  | site p => exact ⟨hx, h.2⟩

end

/-- The removals leave the CAU. -/
theorem foldl_applyOut_cau : ∀ (l : List Item) (s : State), (l.foldl State.applyOut s).cau = s.cau
  | [], _ => rfl
  | x :: l, s => (foldl_applyOut_cau l (s.applyOut x)).trans (s.applyOut_cau x)

/-- The puts keep the start attempts in range. -/
theorem foldl_applyPut_attemptsOk : ∀ (l : List Item) (s : State), s.cau.AttemptsOk →
    (∀ x ∈ l, x.attemptsOk) → (l.foldl State.applyPut s).cau.AttemptsOk
  | [], _, h, _ => h
  | x :: l, s, h, hl =>
    foldl_applyPut_attemptsOk l (s.applyPut x) (State.applyPut_attemptsOk h (hl x (List.mem_cons_self ..)))
      (fun y hy => hl y (List.mem_cons_of_mem _ hy))

section
variable {s : State}

/-- The apply of a round close (R163, R165, R166). -/
theorem State.LoopOk.applySet (h : s.LoopOk) : s.applySet.LoopOk := by
  obtain ⟨-, hcau⟩ := State.loopOk_iff.mp h
  unfold State.applySet
  split
  · split
    · exact h.freeSet _
    · have applied : (s.applyItems s.cau.items).cau.AttemptsOk :=
        foldl_applyPut_attemptsOk _ _ (by rw [foldl_applyOut_cau]; exact hcau) hcau.2
      exact h.ofCau (State.applyGood_keeps s) applied.freed
  · exact h
  · exact h
  · exact h

/-- The loop's work at a round close (R3). -/
theorem State.LoopOk.closeLoop (h : s.LoopOk) (hr : s.flc.mode.runs = true) : s.closeLoop.LoopOk := by
  obtain ⟨hflc, -⟩ := State.loopOk_iff.mp h
  refine h.ofFlc (State.closeLoop_keeps s) ?_
  rw [State.closeLoop_eq, State.withFlc_flc]
  exact hflc.tallied.settled (by rw [(Flc.tallied_kept _).1]; exact hr)

/-- The round close (R3). -/
theorem State.LoopOk.closeRound (h : s.LoopOk) : s.closeRound.LoopOk := by
  obtain ⟨hflc, hcau⟩ := State.loopOk_iff.mp h
  by_cases hopen : ∃ p, s.flc.progress = some p ∧ s.flc.mode.runs = true ∧ p.closed = false
  · obtain ⟨p, hp, hr, hc⟩ := hopen
    have atClose : (s.atClose p).LoopOk := State.loopOk_iff.mpr ⟨hflc.progress hr _, hcau⟩
    have closing : (s.closing p).LoopOk := atClose.applySet
    have runs : (s.closing p).flc.mode.runs = true := by rw [State.closing_flc]; exact hr
    have looped := closing.closeLoop runs
    rw [State.closeRound_open hr hp hc]
    exact ((looped.ofKeeps (State.closeWind_keeps _)).ofKeeps
      (State.closeSite_keeps _)).ofKeeps (State.assess_keeps _)
  · have still : s.closeRound = s := by
      unfold State.closeRound
      split
      · rfl
      · rename_i p hp
        refine if_neg fun hc => hopen ⟨p, hp, ?_⟩
        simpa using hc
    rw [still]
    exact h

/-! ## RESTART, the commands and the step -/

/-- RESTART gives the loop the start attempts in force (R21). -/
theorem restartCommand_loopOk (h : s.LoopOk) (a : Asked) : (restartCommand a s).LoopOk := by
  obtain ⟨-, hcau⟩ := State.loopOk_iff.mp h
  have restarted : s.restartLoop.LoopOk :=
    State.loopOk_iff.mpr ⟨Flc.restarted_stateOk s.now hcau.1, hcau⟩
  have marked : (s.restartLoop.markRestart a.port).LoopOk :=
    restarted.ofKeeps (State.markRestart_keeps ..)
  have answered := marked.reply a .done [[(s.restartLoop.markRestart a.port).wrl.epoch]]
  have blocks := ((((answered.ofKeeps (State.restartStations_keeps _)).ofKeeps
    (State.restartWind_keeps _)).ofKeeps
    (State.restartSite_keeps _)).ofKeeps
    (State.restartRisk_keeps _)).ofKeeps
    (State.restartZones_keeps _)
  unfold restartCommand State.restartBlocks State.restartSet
  dsimp only
  split
  · exact blocks
  · exact blocks.freeSet _

theorem runCommand_loopOk (h : s.LoopOk) (c : Command) (a : Asked) : (runCommand c a s).LoopOk := by
  cases c with
  | stage item => exact stageCommand_loopOk h item a
  | discard => exact discardCommand_loopOk h a
  | propose => exact proposeCommand_loopOk h a
  | accept n => exact acceptCommand_loopOk h n a
  | refuse n => exact refuseCommand_loopOk h n a
  | restart => exact restartCommand_loopOk h a
  | status => exact h.ofKeeps (statusCommand_keeps a s)
  | readZone => exact h.ofKeeps (readZoneCommand_keeps _ a s)
  | readPile => exact h.ofKeeps (readPileCommand_keeps a s)
  | readStations => exact h.ofKeeps (readStationsCommand_keeps a s)
  | readStrangers => exact h.ofKeeps (readStrangersCommand_keeps a s)
  | readGusts => exact h.ofKeeps (readGustsCommand_keeps a s)
  | readPaths => exact h.ofKeeps (readPathsCommand_keeps a s)
  | readConfigItem => exact h.ofKeeps (readConfigItemCommand_keeps _ _ _ _ a s)
  | readLoop => exact h.ofKeeps (readLoopCommand_keeps a s)
  | reportWetting => exact h.ofKeeps (reportWettingCommand_keeps _ a s)
  | reportActivity => exact h.ofKeeps (reportActivityCommand_keeps _ _ a s)
  | floor => exact h.ofKeeps (floorCommand_keeps _ _ _ a s)
  | ackAlert => exact h.ofKeeps (ackAlertCommand_keeps _ a s)
  | silence => exact h.ofKeeps (silenceCommand_keeps _ _ a s)
  | service => exact h.ofKeeps (serviceCommand_keeps _ _ a s)
  | test => exact h.ofKeeps (testCommand_keeps _ a s)
  | clearLine => exact h.ofKeeps (clearLineCommand_keeps _ a s)
  | ackLoss => exact h.ofKeeps (ackLossCommand_keeps _ a s)
  | readLogNext => exact h.ofKeeps (readLogNextCommand_keeps a s)
  | readLogAt => exact h.ofKeeps (readLogAtCommand_keeps _ a s)

theorem judgeCommand_loopOk (h : s.LoopOk) (c : Option Command) (a : Asked) :
    (judgeCommand c a s).LoopOk := by
  unfold judgeCommand
  split
  · exact h.reply ..
  · split
    · exact h.reply ..
    · split
      · exact runCommand_loopOk h _ a
      · exact h.reply ..

theorem State.LoopOk.updPort (h : s.LoopOk) (port : Port) (f : PortState → PortState) :
    (s.updPort port f).LoopOk := h.ofKeeps (State.updPort_keeps ..)

theorem State.LoopOk.issue (h : s.LoopOk) (port : Port) (tag : Byte) (c : Command) :
    (s.issue port tag c).LoopOk := by
  rw [State.issue_eq]
  exact judgeCommand_loopOk (h.ofKeeps (State.held_keeps ..)) ..

theorem State.LoopOk.takeContent (h : s.LoopOk) (port : Port) (content : List Byte) (releases : Bool) :
    (s.takeContent port content releases).LoopOk := by
  unfold State.takeContent
  split
  · exact h.reply ..
  · exact judgeCommand_loopOk h ..

/-- A frame that is received is held, refused, or its command taken (R172). -/
theorem State.LoopOk.receiveFrame (h : s.LoopOk) (port : Port) (bytes : List Byte) (e : Bool) :
    (s.receiveFrame port bytes e).LoopOk := by
  have hunting : (s.setReceiver port .hunting).LoopOk := h.updPort ..
  unfold State.receiveFrame State.judgeFrame
  split
  · exact h.ofKeeps (State.openFrame_keeps ..)
  · dsimp only
    split
    · exact hunting
    · have heard := hunting.ofKeeps (State.restartWatch_keeps port _)
      unfold State.holdContent
      split
      · exact (heard.updPort ..).takeContent ..
      · exact heard.updPort ..
      · exact heard.updPort ..

/-- A frame that has gone out may let the waiting command be taken (R172, R176). -/
theorem State.LoopOk.completeFrame (h : s.LoopOk) (port : Port) : (s.completeFrame port).LoopOk := by
  unfold State.completeFrame
  split
  · exact h
  · have reached : ∀ e, (s.reach e).LoopOk := fun e => h.ofKeeps (State.reach_keeps e s)
    dsimp only
    split
    · unfold State.releaseHolding
      dsimp only
      split
      · exact ((reached _).updPort ..).updPort ..
      · exact (((reached _).updPort ..).updPort ..).takeContent ..
    · exact (reached _).updPort ..

/-- An expiry of a watchdog may discard the set of its master (R162, R180). -/
theorem State.LoopOk.silenceSet (h : s.LoopOk) (port : Port) : (s.silenceSet port).LoopOk := by
  unfold State.silenceSet
  split
  · exact h.freeSet _
  · exact h

theorem State.LoopOk.expireWatch (h : s.LoopOk) (port : Port) : (s.expireWatch port).LoopOk := by
  unfold State.expireWatch
  split
  · exact h
  · refine State.LoopOk.silenceSet ?_ port
    refine State.LoopOk.ofKeeps ?_ (State.silencePiles_keeps ..)
    refine State.LoopOk.ofKeeps ?_ (State.silenceZones_keeps ..)
    refine State.LoopOk.ofKeeps ?_ (State.raise_keeps ..)
    refine State.LoopOk.ofKeeps ?_ (State.record_keeps ..)
    exact h

theorem State.LoopOk.expireIdle (h : s.LoopOk) : s.expireIdle.LoopOk := by
  unfold State.expireIdle
  split
  · exact (h.ofKeeps (State.reach_keeps ..)).freeSet _
  · exact h

theorem State.LoopOk.expireProposal (h : s.LoopOk) : s.expireProposal.LoopOk := by
  unfold State.expireProposal
  split
  · exact (h.ofKeeps (State.reach_keeps ..)).freeSet _
  · exact h

end

/-- POWER brings the reset values (R24, R152, R169). -/
theorem State.reset_loopOk : State.reset.LoopOk :=
  State.loopOk_iff.mpr ⟨Flc.restarted_stateOk 0 (attempts := 3) (by decide),
    by decide, fun _ hx => absurd hx List.not_mem_nil⟩

/-- The next state of a command is the one that its meaning names. -/
theorem State.LoopOk.ofNext {u t : State} (he : (.next u : Host.Outcome State Fault Refusal) = .next t)
    (hu : u.LoopOk) : t.LoopOk := by
  cases he
  exact hu

/-- Every command keeps the invariant. -/
theorem exec_loopOk (i : Instr) {s t : State} (h : s.LoopOk) (he : exec i s = .next t) : t.LoopOk := by
  cases i
  case power => exact .ofNext he State.reset_loopOk
  case masterSilenceExpiry port => exact .ofNext he (h.expireWatch port)
  case listenPeriodEnd => exact .ofNext he h.endListen
  case foreignBeaconHeard => exact .ofNext he h.hearForeign
  case backOffEnd => exact .ofNext he h.endBackOff
  case roundStart => exact .ofNext he h.startRound
  case phaseBOut => exact .ofNext he h.startPhaseB
  case loopCopy side w e bytes => exact .ofNext he (h.takeCopy side w e bytes)
  case slotEnd n => exact .ofNext he (h.endSlot n)
  case roundClose => exact .ofNext he h.closeRound
  case idleExpiry => exact .ofNext he h.expireIdle
  case proposalExpiry => exact .ofNext he h.expireProposal
  case portFrame port bytes e => exact .ofNext he (h.receiveFrame port bytes e)
  case transmitComplete port => exact .ofNext he (h.completeFrame port)
  case short n => exact .ofNext he (h.ofKeeps (State.shortLine_keeps n s))
  case retryWaitEnd n => exact .ofNext he (h.ofKeeps (State.endRetry_keeps n s))
  case patternPhaseChange g => exact .ofNext he (h.ofKeeps (State.changePhase_keeps g s))
  case lineCheck sense => exact .ofNext he (h.ofKeeps (State.checkLines_keeps sense s))
  case cleanCountTick => exact .ofNext he (h.ofKeeps (State.cleanTick_keeps s))
  case floorExpiry n role => exact .ofNext he (h.ofKeeps (State.expireFloor_keeps n role s))
  case silenceExpiry n => exact .ofNext he (h.ofKeeps (State.expireSilence_keeps n s))
  case testEnd n => exact .ofNext he (h.ofKeeps (State.completeTest_keeps n s))
  case portFrameTimeout port => exact .ofNext he (h.ofKeeps (State.timeoutFrame_keeps port s))
  case portOpeningFlag port => exact .ofNext he (h.ofKeeps (State.openFrame_keeps port s))
  case portFrameOverlength port => exact .ofNext he (h.ofKeeps (State.discardLong_keeps port s))
  all_goals exact .ofNext he (h.issue ..)

/-- Settles O57: a step is the execution of one command, from the queue or from the clock. -/
theorem stepKeepsTheLoop : Obligations.StepKeepsTheLoop := by
  intro s t h hstep
  unfold step at hstep
  split at hstep
  · unfold idle at hstep
    split at hstep
    · cases hstep
      exact h
    · exact exec_loopOk _ h hstep
  · rename_i c rest _
    have waiting : ({ s with pending := rest } : State).LoopOk := h
    exact exec_loopOk c waiting hstep

end Sys2Proof.Machine

/-! # Keyed tables: their keys and their order -/

namespace Sys2Proof.Machine

section
variable {α β : Type} {key : α → Nat} {k n : Nat} {a : α} {l : List α}

theorem mem_map_insertKey : n ∈ (insertKey key a l).map key ↔ n = key a ∨ n ∈ l.map key := by
  induction l with
  | nil => simp [insertKey]
  | cons b l ih =>
    unfold insertKey
    split
    · simp
    · split
      · rename_i _ h; simp [h]
      · rw [List.map_cons, List.mem_cons, ih, List.map_cons, List.mem_cons]
        tauto

theorem mem_map_removeKey : n ∈ (removeKey key k l).map key ↔ n ≠ k ∧ n ∈ l.map key := by
  induction l with
  | nil => simp [removeKey]
  | cons b l ih =>
    unfold removeKey
    split
    · rename_i h
      rw [ih, List.map_cons, List.mem_cons, h]
      tauto
    · rename_i h
      rw [List.map_cons, List.mem_cons, ih, List.map_cons, List.mem_cons]
      constructor
      · rintro (rfl | h')
        · exact ⟨h, .inl rfl⟩
        · exact ⟨h'.1, .inr h'.2⟩
      · tauto

theorem removeKey_sublist : (removeKey key k l).Sublist l := by
  induction l with
  | nil => exact .slnil
  | cons b l ih =>
    unfold removeKey
    split
    · exact ih.cons _
    · exact ih.cons_cons _

theorem sorted_insertKey (h : l.Pairwise (fun x y => key x < key y)) :
    (insertKey key a l).Pairwise (fun x y => key x < key y) := by
  induction l with
  | nil => simp [insertKey]
  | cons b l ih =>
    obtain ⟨hb, hl⟩ := List.pairwise_cons.mp h
    unfold insertKey
    split
    · rename_i hlt
      exact List.pairwise_cons.mpr
        ⟨fun x hx => (List.mem_cons.mp hx).elim (fun e => e ▸ hlt) (fun m => hlt.trans (hb x m)), h⟩
    · rename_i hge
      split
      · rename_i heq
        exact List.pairwise_cons.mpr ⟨fun x hx => heq ▸ hb x hx, hl⟩
      · rename_i hne
        refine List.pairwise_cons.mpr ⟨fun x hx => ?_, ih hl⟩
        rcases mem_map_insertKey.mp (List.mem_map_of_mem hx) with hx | hx
        · omega
        · obtain ⟨y, hy, e⟩ := List.mem_map.mp hx
          exact e ▸ hb y hy

theorem findKey_eq_none : findKey key k l = none ↔ k ∉ l.map key := by
  induction l with
  | nil => simp [findKey]
  | cons b l ih =>
    unfold findKey
    split
    · rename_i h; simp [h]
    · rename_i h; rw [ih]; simp [Ne.symm h]

theorem findKey_of_mem (h : l.Pairwise (fun x y => key x < key y)) (ha : a ∈ l) :
    findKey key (key a) l = some a := by
  induction l with
  | nil => simp at ha
  | cons b l ih =>
    obtain ⟨hb, hl⟩ := List.pairwise_cons.mp h
    rcases List.mem_cons.mp ha with rfl | ha
    · simp [findKey]
    · rw [findKey, if_neg (hb a ha).ne, ih hl ha]

theorem findKey_insertKey :
    findKey key n (insertKey key a l) = if n = key a then some a else findKey key n l := by
  induction l with
  | nil => simp [insertKey, findKey, eq_comm]
  | cons b l ih =>
    unfold insertKey
    split
    · simp [findKey, eq_comm (a := n)]
    · split
      · rename_i _ h
        by_cases hn : n = key a
        · simp [findKey, hn]
        · have hb : ¬ key b = n := fun e => hn (e.symm.trans h.symm)
          simp [findKey, hn, hb, Ne.symm hn]
      · rename_i _ h
        by_cases hb : key b = n
        · simp [findKey, hb, show ¬ n = key a from fun e => h (hb.trans e).symm]
        · simp [findKey, hb, ih]

theorem findKey_removeKey :
    findKey key n (removeKey key k l) = if n = k then none else findKey key n l := by
  induction l with
  | nil => simp [removeKey, findKey]
  | cons b l ih =>
    unfold removeKey
    split
    · rename_i h
      rw [ih]
      by_cases hn : n = k
      · rw [if_pos hn, if_pos hn]
      · simp [hn, findKey, show ¬ key b = n from fun e => hn (e.symm.trans h)]
    · rename_i h
      by_cases hb : key b = n
      · simp [findKey, hb, show ¬ n = k from fun e => h (hb.trans e)]
      · simp [findKey, hb, ih]

/-- A change of the entries with one key that keeps what `g` reads off them. -/
theorem map_updateKey_of {f : α → α} {g : α → β} (hf : ∀ b ∈ l, key b = k → g (f b) = g b) :
    (updateKey key k f l).map g = l.map g := by
  induction l with
  | nil => rfl
  | cons b l ih =>
    rw [updateKey, List.map_cons, List.map_cons, ih fun c hc => hf c (List.mem_cons_of_mem _ hc)]
    split
    · rename_i h; rw [hf b (List.mem_cons_self ..) h]
    · rfl

/-- The entry of a key that changes, and every other one. -/
theorem findKey_updateKey_of {f : α → α} (hf : ∀ b, key b = k → key (f b) = k) :
    findKey key n (updateKey key k f l) =
      if n = k then (findKey key n l).map f else findKey key n l := by
  have same : updateKey key k f l = updateKey key k (fun b => if key b = k then f b else b) l := by
    induction l with
    | nil => rfl
    | cons b l ih => by_cases h : key b = k <;> simp [updateKey, h, ih]
  rw [same, findKey_updateKey _ (fun b => by by_cases h : key b = k <;> simp [h, hf b])]
  refine if_ctx_congr Iff.rfl (fun hn => ?_) (fun _ => rfl)
  cases hx : findKey key n l with
  | none => rfl
  | some x => simp [(findKey_mem hx).2, hn]

end

end Sys2Proof.Machine

/-! # What the events of the rounds and the masters leave of the tables -/

namespace Sys2Proof.Machine

/-! ## The tables of the blocks -/

/-- The configured parts of the station table (R25). -/
def Srg.table (b : Srg) : List StationCfg := b.stations.map (fun x => x.cfg)

/-- The slots of the mast records (R45). -/
def Wgt.table (b : Wgt) : List Nat := b.masts.map (fun m => m.slot)

/-- The slots of the gauge records and of the monitor holds, and the configured piles (R70, R77, R79). -/
def Spm.table (b : Spm) : List Nat × List Nat × List PileCfg :=
  (b.gauges.map (fun g => g.slot), b.monitors.map (fun m => m.slot), b.piles.map (fun p => p.cfg))

/-- The configured paths, and the keys of the zone result records and of the pile wind records (R90 to R92). -/
def Rke.table (b : Rke) : List PathCfg × List Nat × List Nat :=
  (b.paths.map (fun p => p.cfg), b.zones.map (fun r => r.zone), b.winds.map (fun w => w.pile))

/-- The configured zones (R113). -/
def Zwc.table (b : Zwc) : List ZoneCfg := b.zones.map (fun z => z.cfg)

/-- The same things are configured in two states, and have the same companion records. -/
structure SameTables (s t : State) : Prop where
  srg : t.srg.table = s.srg.table
  wgt : t.wgt.table = s.wgt.table
  spm : t.spm.table = s.spm.table
  rke : t.rke.table = s.rke.table
  zwc : t.zwc.table = s.zwc.table

theorem SameTables.refl (s : State) : SameTables s s := ⟨rfl, rfl, rfl, rfl, rfl⟩

theorem SameTables.trans {s t u : State} (h : SameTables s t) (k : SameTables t u) : SameTables s u :=
  ⟨k.srg.trans h.srg, k.wgt.trans h.wgt, k.spm.trans h.spm, k.rke.trans h.rke, k.zwc.trans h.zwc⟩

/-- An operation keeps the tables where it keeps those of the blocks that it changes. -/
theorem KeepsBut.sameTables {ps : List Part} {s t : State} (k : KeepsBut ps s t)
    (srg : Part.srg ∈ ps → t.srg.table = s.srg.table := by exact fun h => absurd h (by decide))
    (wgt : Part.wgt ∈ ps → t.wgt.table = s.wgt.table := by exact fun h => absurd h (by decide))
    (spm : Part.spm ∈ ps → t.spm.table = s.spm.table := by exact fun h => absurd h (by decide))
    (rke : Part.rke ∈ ps → t.rke.table = s.rke.table := by exact fun h => absurd h (by decide))
    (zwc : Part.zwc ∈ ps → t.zwc.table = s.zwc.table := by exact fun h => absurd h (by decide)) :
    SameTables s t where
  srg := if h : Part.srg ∈ ps then srg h else congrArg Srg.table (k.srg h)
  wgt := if h : Part.wgt ∈ ps then wgt h else congrArg Wgt.table (k.wgt h)
  spm := if h : Part.spm ∈ ps then spm h else congrArg Spm.table (k.spm h)
  rke := if h : Part.rke ∈ ps then rke h else congrArg Rke.table (k.rke h)
  zwc := if h : Part.zwc ∈ ps then zwc h else congrArg Zwc.table (k.zwc h)

/-- A sequence of operations keeps what each of them keeps. -/
theorem foldl_keeps {α β : Type} {g : State → β} {f : State → α → State} (h : ∀ s a, g (f s a) = g s) :
    ∀ (l : List α) (s : State), g (l.foldl f s) = g s
  | [], _ => rfl
  | a :: l, s => (foldl_keeps h l (f s a)).trans (h s a)

/-! ## The zone table (chapter 6) -/

section
variable (s : State) (n : Nat)

theorem State.updZone_table (f : Zone → Zone) (hf : ∀ z, (f z).cfg = z.cfg := by exact fun _ => rfl) :
    (s.updZone n f).zwc.table = s.zwc.table := map_updateKey_of fun z _ _ => hf z

@[simp] theorem State.raiseZone_zwc (cls : NoticeClass) (event : LevelEvent) :
    (s.raiseZone cls event n).zwc = s.zwc := (State.raiseZone_keeps ..).zwc (by decide)

@[simp] theorem State.raiseLine_zwc (cls : NoticeClass) (event : LineEvent) :
    (s.raiseLine cls event n).zwc = s.zwc := (State.raiseLine_keeps ..).zwc (by decide)

@[simp] theorem State.deriveDemand_table : (s.deriveDemand n).zwc.table = s.zwc.table := by
  unfold State.deriveDemand
  split
  · rfl
  · exact State.updZone_table ..

@[simp] theorem State.judgeDark_table : (s.judgeDark n).zwc.table = s.zwc.table := by
  unfold State.judgeDark
  split
  · rfl
  · split
    · rw [State.raiseZone_zwc]; exact State.updZone_table ..
    · rw [State.raiseZone_zwc]; exact State.updZone_table ..
    · rfl
    · rfl

@[simp] theorem State.faultReport_table : (s.faultReport n).zwc.table = s.zwc.table := s.judgeDark_table _

theorem State.abortTest_table (new : Level) : (s.abortTest n new).zwc.table = s.zwc.table := by
  unfold State.abortTest
  split
  · rfl
  · split
    · exact State.updZone_table ..
    · rfl

@[simp] theorem State.changeLevel_table (new : Level) (cause : LevelCause) :
    (s.changeLevel n new cause).zwc.table = s.zwc.table := by
  unfold State.changeLevel
  split
  · rfl
  · dsimp only
    split
    · exact (State.abortTest_table _ _ _).trans (State.updZone_table ..)
    · exact (State.abortTest_table _ _ _).trans (State.updZone_table ..)

theorem State.decideLevel_table (r : Nat) : (s.decideLevel n r).zwc.table = s.zwc.table := by
  unfold State.decideLevel
  split
  · rfl
  · split
    · rw [State.changeLevel_table]; exact State.updZone_table ..
    · split
      · dsimp only
        split
        · rw [State.changeLevel_table]; exact State.updZone_table ..
        · exact State.updZone_table ..
      · exact State.updZone_table ..

theorem State.deliverRisk_table (d : Delivery) : (s.deliverRisk d).zwc.table = s.zwc.table := by
  rw [State.deliverRisk, State.deriveDemand_table, State.decideLevel_table]
  exact State.updZone_table ..

theorem State.endFloor_table (role : Port) (byExpiry : Bool) :
    (s.endFloor n role byExpiry).zwc.table = s.zwc.table := by
  unfold State.endFloor
  split
  · rfl
  · split
    · rfl
    · rw [State.raiseZone_zwc]
      exact s.updZone_table n _ fun z => by cases role <;> rfl

theorem State.setFloor_table (role : Port) (l : Level) (minutes : Nat) :
    (s.setFloor n role l minutes).zwc.table = s.zwc.table := by
  have put : ∀ f, (s.updZone n (Zone.setFloor role f)).zwc.table = s.zwc.table := fun f =>
    s.updZone_table n _ fun z => by cases role <;> rfl
  unfold State.setFloor
  split
  · rfl
  · rw [State.deriveDemand_table]
    split
    · rw [State.changeLevel_table]
      exact (State.updZone_table ..).trans (put _)
    · split
      · rw [State.raiseZone_zwc]
        exact (State.updZone_table ..).trans (put _)
      · rw [State.raiseZone_zwc]
        exact put _

theorem State.putSilence_table (e : Option Seconds) (minutes : Nat) (byExpiry : Bool) :
    (s.putSilence n e minutes byExpiry).zwc.table = s.zwc.table := by
  rw [State.putSilence, State.deriveDemand_table, State.raiseZone_zwc]
  exact State.updZone_table ..

theorem State.putService_table (v : Service) : (s.putService n v).zwc.table = s.zwc.table := by
  unfold State.putService
  rw [State.deriveDemand_table, State.raiseZone_zwc]
  exact State.updZone_table ..

theorem State.expireFloor_table (role : Port) : (s.expireFloor n role).zwc.table = s.zwc.table := by
  unfold State.expireFloor
  split
  · rfl
  · split
    · rfl
    · exact State.endFloor_table ..

theorem State.expireSilence_table : (s.expireSilence n).zwc.table = s.zwc.table := by
  unfold State.expireSilence
  split
  · rfl
  · split
    · rfl
    · exact State.putSilence_table ..

theorem State.completeTest_table : (s.completeTest n).zwc.table = s.zwc.table := by
  unfold State.completeTest
  split
  · rfl
  · split
    · rfl
    · rw [State.deriveDemand_table, State.raiseZone_zwc]
      exact State.updZone_table ..

theorem State.silenceZone_table (port : Port) : (s.silenceZone port n).zwc.table = s.zwc.table := by
  unfold State.silenceZone
  split
  · rfl
  · split
    · rw [State.raiseZone_zwc, State.deriveDemand_table]
      refine s.updZone_table n _ fun z => ?_
      cases port with
      | t => unfold Zone.masterSilent; dsimp only; split <;> rfl
      | q => rfl
      | s => rfl
    · rfl

theorem State.silenceZones_table (port : Port) : (s.silenceZones port).zwc.table = s.zwc.table :=
  foldl_keeps (g := fun t => t.zwc.table) (fun t n => t.silenceZone_table n port) _ s

theorem State.restartZones_table : (s.restartZones).zwc.table = s.zwc.table := by
  refine (foldl_keeps (g := fun t => t.zwc.table) (fun t n => t.deriveDemand_table n) _ _).trans ?_
  simp only [Zwc.table, List.map_map]
  rfl

theorem State.shortLine_table : (s.shortLine n).zwc.table = s.zwc.table := by
  unfold State.shortLine
  split
  · rfl
  · split
    · dsimp only
      split
      · rfl
      · rw [State.raiseLine_zwc]
        split
        · rfl
        · exact State.faultReport_table ..
    · rfl

theorem State.putOpen_table (v : Bool) : (s.putOpen n v).zwc.table = s.zwc.table := by
  unfold State.putOpen
  dsimp only
  split
  · rw [State.raiseLine_zwc, State.faultReport_table]; rfl
  · rw [State.raiseLine_zwc, State.faultReport_table]; rfl

theorem State.checkLine_table (sense : BitVec 32) : (s.checkLine sense n).zwc.table = s.zwc.table := by
  unfold State.checkLine
  split
  · rfl
  · split
    · dsimp only
      split
      · exact State.putOpen_table ..
      · split
        · exact State.putOpen_table ..
        · rfl
    · rfl

theorem State.checkLines_table (sense : BitVec 32) : (s.checkLines sense).zwc.table = s.zwc.table :=
  foldl_keeps (g := fun t => t.zwc.table) (fun t n => t.checkLine_table n sense) _ _

theorem State.clearLatch_table (openFlag : Bool) : (s.clearLatch n openFlag).zwc.table = s.zwc.table := by
  unfold State.clearLatch
  dsimp only
  split
  · rw [State.raiseLine_zwc]; rfl
  · rw [State.faultReport_table, State.raiseLine_zwc]; rfl

theorem State.deliverZones_table : s.deliverZones.zwc.table = s.zwc.table :=
  foldl_keeps (g := fun t => t.zwc.table) (fun t (r : ZoneResult) => t.deliverRisk_table (r.delivery s.flc.round)) _ s

end

section
variable (a : Asked) (s : State)

theorem floorCommand_table (zone level : Byte) (minutes : BitVec 16) :
    (floorCommand zone level minutes a s).zwc.table = s.zwc.table := by
  unfold floorCommand
  repeat' split
  all_goals simp [State.endFloor_table, State.setFloor_table]

theorem ackAlertCommand_table (zone : Byte) : (ackAlertCommand zone a s).zwc.table = s.zwc.table := by
  unfold ackAlertCommand
  repeat' split
  all_goals simp [State.updZone_table]

theorem silenceCommand_table (zone : Byte) (minutes : BitVec 16) :
    (silenceCommand zone minutes a s).zwc.table = s.zwc.table := by
  unfold silenceCommand
  repeat' split
  all_goals simp [State.putSilence_table]

theorem serviceCommand_table (zone state : Byte) : (serviceCommand zone state a s).zwc.table = s.zwc.table := by
  unfold serviceCommand
  repeat' split
  all_goals simp [State.putService_table]

theorem testCommand_table (zone : Byte) : (testCommand zone a s).zwc.table = s.zwc.table := by
  unfold testCommand
  repeat' split
  all_goals simp [State.updZone_table]

theorem clearLineCommand_table (line : Byte) : (clearLineCommand line a s).zwc.table = s.zwc.table := by
  unfold clearLineCommand
  repeat' split
  all_goals simp [State.clearLatch_table]

end

end Sys2Proof.Machine

namespace Sys2Proof.Machine

/-! ## The station table (chapter 2) -/

section
variable (s : State) (n : Nat)

theorem State.updStation_table (f : Station → Station) (hf : ∀ x, (f x).cfg = x.cfg := by exact fun _ => rfl) :
    (s.updStation n f).srg.table = s.srg.table := map_updateKey_of fun x _ _ => hf x

@[simp] theorem State.revoke_table : (s.revoke n).srg.table = s.srg.table := rfl

@[simp] theorem State.enqueue_table : (s.enqueue n).srg.table = s.srg.table := rfl

@[simp] theorem State.raiseStation_srg (cls : NoticeClass) (cause : StationCause) :
    (s.raiseStation cls cause n).srg = s.srg := by
  unfold State.raiseStation
  split <;> rfl

theorem State.handGrants_table (round : Round) : (s.handGrants round).srg.table = s.srg.table :=
  foldl_keeps (g := fun t => t.srg.table) (by exact fun _ _ => State.updStation_table ..) _ _

theorem State.beginRound_table (round : Round) (start : Time) :
    (s.beginRound round start).srg.table = s.srg.table := s.handGrants_table round

theorem State.missed_table : (s.missed n).srg.table = s.srg.table := by
  have left : ∀ f cls cause, (∀ x : Station, (f x).cfg = x.cfg) →
      (s.leave n f cls cause).srg.table = s.srg.table := fun f cls cause hf => by
    rw [State.leave, State.raiseStation_srg, State.revoke_table, State.updStation_table s n f hf]
  unfold State.missed
  split
  · rfl
  · split
    case h_5 | h_6 => exact State.updStation_table ..
    case h_7 =>
      split
      · exact left _ _ _ fun _ => rfl
      · exact State.updStation_table ..
    case h_8 =>
      split
      · exact left _ _ _ fun _ => rfl
      · exact State.updStation_table ..
    all_goals rfl

theorem State.strangerAnnounce_table (a : Announce) :
    (s.strangerAnnounce a).srg.table = s.srg.table := by
  unfold State.strangerAnnounce
  split <;> rfl

theorem State.takeAnnounce_table (a : Announce) : (s.takeAnnounce a).srg.table = s.srg.table := by
  unfold State.takeAnnounce
  split
  · exact s.strangerAnnounce_table a
  · dsimp only
    split
    · rw [State.raiseStation_srg]
    · split
      case h_1 =>
        split
        · rw [State.enqueue_table]
          exact (State.updStation_table ..).trans (State.updStation_table ..)
        · exact State.updStation_table ..
      case h_2 =>
        rw [State.raiseStation_srg]
        exact (State.updStation_table ..).trans (State.updStation_table ..)
      all_goals exact State.updStation_table ..

theorem State.takeAnnounces_table (l : List Announce) : (s.takeAnnounces l).srg.table = s.srg.table :=
  foldl_keeps (g := fun t => t.srg.table) (fun t a => t.takeAnnounce_table a) l s

theorem State.lapseSlot_table : (s.lapseSlot n).srg.table = s.srg.table := by
  unfold State.lapseSlot
  split
  · rfl
  · split
    · rw [State.raiseStation_srg, State.revoke_table]
      exact State.updStation_table ..
    · rfl

theorem State.lapseGrants_table : s.lapseGrants.srg.table = s.srg.table :=
  foldl_keeps (g := fun t => t.srg.table) (fun t n => t.lapseSlot_table n) _ s

theorem State.closeLoop_table : s.closeLoop.srg.table = s.srg.table := by
  have noticed : ∀ cls n (t : State), (t.loopNoticed cls n).srg = t.srg := fun cls _ _ => by cases cls <;> rfl
  rw [State.closeLoop_eq, State.withFlc, noticed, State.registryClose, State.lapseGrants_table,
    State.takeAnnounces_table]

theorem ackLossCommand_table (slot : Byte) (a : Asked) : (ackLossCommand slot a s).srg.table = s.srg.table := by
  have silent : ∀ n, (s.ackToSilent n).srg.table = s.srg.table := fun n => by
    rw [State.ackToSilent, State.raiseStation_srg]
    exact State.updStation_table ..
  have queued : ∀ n, (s.ackToQueue n).srg.table = s.srg.table := fun n => by
    rw [State.ackToQueue, State.raiseStation_srg, State.enqueue_table]
    exact State.updStation_table ..
  unfold ackLossCommand
  repeat' split
  all_goals simp [silent, queued]

theorem State.restartStations_table : s.restartStations.srg.table = s.srg.table := by
  simp only [Srg.table, State.restartStations, List.map_map]
  rfl

end

/-! ## The mast records (chapter 3) -/

section
variable (s : State) (n : Nat)

theorem State.updMast_table (f : Mast → Mast) (hf : ∀ m, (f m).slot = m.slot := by exact fun _ => rfl) :
    (s.updMast n f).wgt.table = s.wgt.table := map_updateKey_of fun m _ _ => hf m

theorem State.confirmGust_table (id : Nat) : (s.confirmGust id n).wgt.table = s.wgt.table := by
  unfold State.confirmGust
  split
  · rfl
  · split <;> rfl

theorem State.openGust_table (dir peak : Nat) : (s.openGust n dir peak).wgt.table = s.wgt.table := by
  unfold State.openGust
  split
  · rfl
  · split
    · rfl
    · split
      · exact State.confirmGust_table ..
      · rfl

theorem State.gustMember_table (dir peak : Nat) : (s.gustMember n dir peak).wgt.table = s.wgt.table := by
  unfold State.gustMember
  split
  · rfl
  · split
    · exact State.confirmGust_table ..
    · exact State.openGust_table ..

theorem State.gustMembership_table : s.gustMembership.wgt.table = s.wgt.table := by
  refine foldl_keeps (g := fun t => t.wgt.table) (fun t (m : Mast) => ?_) _ s
  split
  · exact State.gustMember_table ..
  · rfl

theorem State.closeGusts_table : s.closeGusts.wgt.table = s.wgt.table :=
  foldl_keeps (g := fun t => t.wgt.table) (by exact fun _ _ => rfl) _ _

theorem State.ageGusts_table : s.ageGusts.wgt.table = s.wgt.table :=
  foldl_keeps (g := fun t => t.wgt.table) (by exact fun _ _ => rfl) _ _

theorem State.leaveGusts_table : (s.leaveGusts n).wgt.table = s.wgt.table :=
  foldl_keeps (g := fun t => t.wgt.table) (by exact fun _ _ => rfl) _ _

theorem State.chooseLead_table : s.chooseLead.wgt.table = s.wgt.table := by
  unfold State.chooseLead State.updateBlind
  split <;> rfl

/-- A change of every mast record that keeps its slot. -/
theorem State.mapMasts_table (f : Mast → Mast) (hf : ∀ m, (f m).slot = m.slot := by exact fun _ => rfl) :
    ({ s with wgt.masts := s.wgt.masts.map f } : State).wgt.table = s.wgt.table := by
  simp only [Wgt.table, List.map_map]
  exact List.map_congr_left fun m _ => hf m

theorem State.closeWind_table : s.closeWind.wgt.table = s.wgt.table := by
  have counted : ∀ t : State, t.countGusts.wgt.table = t.wgt.table := fun t => t.mapMasts_table _
  have judged : ∀ t : State, t.judgeMasts.wgt.table = t.wgt.table := fun t => t.mapMasts_table _
  have pushed : s.pushMasts.wgt.table = s.wgt.table := s.mapMasts_table _
  refine (counted _).trans ?_
  rw [State.ageGusts_table, State.closeGusts_table, State.gustMembership_table, judged,
    State.chooseLead_table, pushed]

theorem State.restartWind_table : s.restartWind.wgt.table = s.wgt.table := by
  have created : (s.wgt.masts.map (fun m => Mast.created m.slot)).map (fun m => m.slot) = s.wgt.table := by
    rw [List.map_map]; rfl
  unfold State.restartWind
  dsimp only
  split <;> exact created

end

/-! ## The gauges, the monitors and the piles (chapter 4) -/

section
variable (s : State) (n : Nat)

theorem State.updPile_table (f : Pile → Pile) (hf : ∀ p, (f p).cfg = p.cfg := by exact fun _ => rfl) :
    (s.updPile n f).spm.table = s.spm.table :=
  congrArg (fun l => (_, _, l)) (map_updateKey_of fun p _ _ => hf p)

/-- A change of every pile that keeps its configured part. -/
theorem State.mapPiles_table (f : Pile → Pile) (hf : ∀ p, (f p).cfg = p.cfg := by exact fun _ => rfl) :
    ({ s with spm.piles := s.spm.piles.map f } : State).spm.table = s.spm.table := by
  simp only [Spm.table, List.map_map]
  exact congrArg (fun l => (_, _, l)) (List.map_congr_left fun p _ => hf p)

theorem State.takeGauge_table (h : Nat) (rain heater : Bool) :
    (s.takeGauge n h rain heater).spm.table = s.spm.table := by
  have kept : (s.takeGauge n h rain heater).spm.gauges.map (fun g => g.slot) = s.spm.gauges.map (fun g => g.slot) :=
    map_updateKey_of fun _ _ _ => rfl
  rw [Spm.table, kept]
  rfl

theorem State.takeDust_table (c k : Nat) : (s.takeDust n c k).spm.table = s.spm.table := by
  have kept : (s.takeDust n c k).spm.monitors.map (fun m => m.slot) = s.spm.monitors.map (fun m => m.slot) :=
    map_updateKey_of fun _ _ _ => rfl
  rw [Spm.table, kept]
  rfl

theorem State.ageSite_table : s.ageSite.spm.table = s.spm.table := by
  simp only [Spm.table, State.ageSite, List.map_map]
  rfl

theorem State.noticeGauges_table (before : Nat) : (s.noticeGauges before).spm.table = s.spm.table := by
  unfold State.noticeGauges
  split
  · rfl
  · split <;> rfl

theorem State.evaluateBand_table : s.evaluateBand.spm.table = s.spm.table := by
  unfold State.evaluateBand
  split
  · unfold State.noGaugeClose
    dsimp only
    split <;> rfl
  · unfold State.actCandidate
    dsimp only
    repeat' split
    all_goals rfl

theorem State.closeSite_table : s.closeSite.spm.table = s.spm.table := by
  refine (State.mapPiles_table _ _ fun p => ?_).trans ?_
  · unfold Pile.dry
    split
    · rfl
    · split <;> rfl
  · rw [State.evaluateBand_table, State.noticeGauges_table, State.ageSite_table]

theorem State.storePile_table (v : PileValues) (estimated : Bool) (leadMean : Nat) :
    (s.storePile n v estimated leadMean).spm.table = s.spm.table := by
  unfold State.storePile
  split
  · rfl
  · dsimp only
    split
    · exact State.updPile_table ..
    · exact State.updPile_table ..

theorem reportWettingCommand_table (pile : Byte) (a : Asked) :
    (reportWettingCommand pile a s).spm.table = s.spm.table := by
  unfold reportWettingCommand
  repeat' split
  all_goals simp [State.updPile_table]

theorem reportActivityCommand_table (pile activity : Byte) (a : Asked) :
    (reportActivityCommand pile activity a s).spm.table = s.spm.table := by
  unfold reportActivityCommand
  repeat' split
  all_goals simp [State.updPile_table]

theorem State.silencePiles_table (port : Port) : (s.silencePiles port).spm.table = s.spm.table := by
  cases port with
  | t => exact State.mapPiles_table ..
  | q => rfl
  | s => rfl

theorem State.restartSite_table : s.restartSite.spm.table = s.spm.table := by
  simp only [Spm.table, State.restartSite, List.map_map]
  rfl

end

/-! ## The paths, the zone results and the pile winds (chapter 5) -/

section
variable (s : State) (n : Nat)

theorem State.putWind_table (c : WindChoice) : (s.putWind n c).rke.table = s.rke.table := by
  have kept : (s.putWind n c).rke.winds.map (fun w => w.pile) = s.rke.winds.map (fun w => w.pile) :=
    map_updateKey_of fun _ _ _ => rfl
  rw [Rke.table, kept]
  rfl

theorem State.assessPile_table :
    (s.assessPile n).spm.table = s.spm.table ∧ (s.assessPile n).rke.table = s.rke.table := by
  unfold State.assessPile
  split
  · exact ⟨rfl, rfl⟩
  · split
    · exact ⟨rfl, rfl⟩
    · refine ⟨State.storePile_table .., ?_⟩
      rw [(State.storePile_keeps ..).rke (by decide)]
      exact State.putWind_table ..

theorem State.assessPaths_table : s.assessPaths.rke.table = s.rke.table := by
  simp only [Rke.table, State.assessPaths, List.map_map]
  rfl

theorem State.assessZones_table : s.assessZones.rke.table = s.rke.table := by
  simp only [Rke.table, State.assessZones, List.map_map]
  refine congrArg (fun l => (_, l, _)) (List.map_congr_left fun r _ => ?_)
  dsimp only [Function.comp]
  split
  · rfl
  · unfold State.assessZone
    dsimp only
    split
    · unfold ZoneResult.holdModelled
      dsimp only
      split <;> rfl
    · rfl

theorem State.restartRisk_table : s.restartRisk.rke.table = s.rke.table := by
  simp only [Rke.table, State.restartRisk, List.map_map]
  rfl

/-- The assessment of a round close (R89). -/
theorem State.assess_tables : SameTables s s.assess := by
  have piles : ∀ t : State, SameTables t t.assessPiles := fun t =>
    (State.assessPiles_keeps t).sameTables
      (spm := fun _ => foldl_keeps (g := fun u => u.spm.table) (fun u n => (u.assessPile_table n).1) _ t)
      (rke := fun _ => foldl_keeps (g := fun u => u.rke.table) (fun u n => (u.assessPile_table n).2) _ t)
  have paths : ∀ t : State, SameTables t t.assessPaths := fun t =>
    (State.assessPaths_keeps t).sameTables (rke := fun _ => t.assessPaths_table)
  have zones : ∀ t : State, SameTables t t.assessZones.deliverZones := fun t =>
    ((State.assessZones_keeps t).sameTables (rke := fun _ => t.assessZones_table)).trans
      ((State.deliverZones_keeps _).sameTables (zwc := fun _ => State.deliverZones_table _))
  unfold State.assess
  dsimp only
  split
  · exact zones s
  · exact ((piles s).trans (paths _)).trans (zones _)

end

end Sys2Proof.Machine

/-! # The apply keeps the tables (R40, R66, R85, R109, R132) -/

namespace Sys2Proof.Machine

/-! ## The keys of the tables -/

/-- The configured stations and the keys of every other table. -/
structure TableKeys where
  stations : List StationCfg
  masts : List Nat
  gauges : List Nat
  monitors : List Nat
  piles : List Nat
  winds : List Nat
  zones : List Nat
  results : List Nat
  paths : List Nat

def State.keys (s : State) : TableKeys where
  stations := s.srg.table
  masts := s.wgt.table
  gauges := s.spm.table.1
  monitors := s.spm.table.2.1
  piles := s.spm.table.2.2.map (fun c => c.pile)
  winds := s.rke.table.2.2
  zones := s.zwc.table.map (fun c => c.zone)
  results := s.rke.table.2.1
  paths := s.rke.table.1.map PathCfg.order

/-- The slots configured with a kind. -/
def TableKeys.slots (t : TableKeys) (k : Kind) : List Nat :=
  (t.stations.filter (fun c => c.kind == k)).map (fun c => c.slot)

/-- The tables in order and in step, read off their keys. -/
structure TableKeys.Ok (t : TableKeys) : Prop where
  stations : t.stations.Pairwise (fun c d => c.slot < d.slot)
  piles : t.piles.Pairwise (· < ·)
  zones : t.zones.Pairwise (· < ·)
  paths : t.paths.Pairwise (· < ·)
  results : t.results = t.zones
  winds : t.winds = t.piles
  masts : t.masts = t.slots .mast
  gauges : t.gauges = t.slots .gauge
  monitors : t.monitors = t.slots .dust

section
variable (s : State)

theorem State.keys_piles : s.keys.piles = s.spm.piles.map (fun p => p.cfg.pile) := List.map_map

theorem State.keys_zones : s.keys.zones = s.zwc.zones.map (fun z => z.cfg.zone) := List.map_map

theorem State.keys_paths : s.keys.paths = s.rke.paths.map Path.order := List.map_map

end

section
variable {s t : State}

theorem State.keys_slots (k : Kind) : s.keys.slots k = s.slotsOf k := by
  simp only [TableKeys.slots, State.keys, Srg.table, State.slotsOf, List.filter_map, List.map_map]
  rfl

theorem State.tablesOk_iff : s.TablesOk ↔ s.keys.Ok := by
  have piles := s.keys_piles
  have zones := s.keys_zones
  have paths := s.keys_paths
  constructor
  · intro h
    exact ⟨List.pairwise_map.mpr h.stations, piles ▸ List.pairwise_map.mpr h.piles,
      zones ▸ List.pairwise_map.mpr h.zones, paths ▸ List.pairwise_map.mpr h.paths,
      h.results.trans zones.symm, h.winds.trans piles.symm, h.masts.trans (s.keys_slots _).symm,
      h.gauges.trans (s.keys_slots _).symm, h.monitors.trans (s.keys_slots _).symm⟩
  · intro h
    exact ⟨(List.pairwise_map (f := fun x : Station => x.cfg)).mp h.stations,
      List.pairwise_map.mp (piles ▸ h.piles),
      List.pairwise_map.mp (zones ▸ h.zones), List.pairwise_map.mp (paths ▸ h.paths),
      h.results.trans zones, h.winds.trans piles, h.masts.trans (s.keys_slots _),
      h.gauges.trans (s.keys_slots _), h.monitors.trans (s.keys_slots _)⟩

theorem SameTables.keys (h : SameTables s t) : t.keys = s.keys := by
  simp only [State.keys, h.srg, h.wgt, h.spm, h.rke, h.zwc]

theorem State.TablesOk.ofSame (h : s.TablesOk) (k : SameTables s t) : t.TablesOk := by
  rw [State.tablesOk_iff, k.keys, ← State.tablesOk_iff]
  exact h

end

/-! ## A key put or dropped -/

/-- A key put at its place, where it is not there yet. -/
def withKey (n : Nat) (keys : List Nat) : List Nat := if n ∈ keys then keys else insertKey id n keys

section
variable {α : Type} {key : α → Nat} {k : Nat} {a : α} {l : List α}

theorem map_insertKey : (insertKey key a l).map key = insertKey id (key a) (l.map key) := by
  induction l with
  | nil => rfl
  | cons b l ih =>
    unfold insertKey
    split
    · rename_i h; simp [h]
    · rename_i h
      split
      · rename_i h'; simp [h']
      · rename_i h'; simp [h, h', ih]

theorem map_removeKey : (removeKey key k l).map key = removeKey id k (l.map key) := by
  induction l with
  | nil => rfl
  | cons b l ih => by_cases h : key b = k <;> simp [removeKey, h, ih]

theorem withKey_of_some (h : findKey key k l = some a) : withKey k (l.map key) = l.map key := by
  obtain ⟨hm, rfl⟩ := findKey_mem h
  exact if_pos (List.mem_map_of_mem hm)

theorem withKey_of_none (h : findKey key k l = none) : withKey k (l.map key) = insertKey id k (l.map key) :=
  if_neg (findKey_eq_none.mp h)

theorem removeKey_of_none (h : findKey key k l = none) : removeKey key k l = l := by
  induction l with
  | nil => rfl
  | cons b l ih =>
    by_cases hb : key b = k <;> simp_all [findKey, removeKey]

end

theorem sorted_withKey {n : Nat} {keys : List Nat} (h : keys.Pairwise (· < ·)) :
    (withKey n keys).Pairwise (· < ·) := by
  unfold withKey
  split
  · exact h
  · exact sorted_insertKey (key := id) h

theorem sorted_removeKey {n : Nat} {keys : List Nat} (h : keys.Pairwise (· < ·)) :
    (removeKey id n keys).Pairwise (· < ·) := h.sublist removeKey_sublist

/-! ## Piles, zones and paths -/

section
variable (s : State) (n : Nat)

theorem State.keys_applyPile (c : PileCfg) :
    (s.applyPile c).keys = { s.keys with piles := withKey c.pile s.keys.piles } := by
  have piles : (s.applyPile c).keys.piles = withKey c.pile s.keys.piles := by
    rw [State.keys_piles, State.keys_piles]
    unfold State.applyPile
    split
    · rename_i p hp
      rw [withKey_of_some hp]
      exact map_updateKey_of fun _ _ h => h.symm
    · rename_i hp
      rw [withKey_of_none hp]
      exact map_insertKey
  rw [← piles]
  unfold State.applyPile
  split <;> rfl

theorem State.keys_applyWind (c : PileCfg) :
    (s.applyWind c).keys = { s.keys with winds := withKey c.pile s.keys.winds } := by
  have winds : (s.applyWind c).keys.winds = withKey c.pile s.keys.winds := by
    unfold State.applyWind
    split
    · rename_i w hw
      exact (withKey_of_some hw).symm
    · rename_i hw
      exact map_insertKey.trans (withKey_of_none hw).symm
  rw [← winds]
  unfold State.applyWind
  split <;> rfl

theorem State.keys_applyZone (c : ZoneCfg) :
    (s.applyZone c).keys = { s.keys with zones := withKey c.zone s.keys.zones } := by
  have zones : (s.applyZone c).keys.zones = withKey c.zone s.keys.zones := by
    rw [State.keys_zones s]
    unfold State.applyZone
    split
    · rename_i z hz
      rw [withKey_of_some hz, State.keys_zones]
      refine map_updateKey_of fun b _ h => ?_
      unfold Zone.reconfigured
      split <;> exact h.symm
    · rename_i hz
      rw [withKey_of_none hz]
      simp only [State.keys, State.deriveDemand_table, State.judgeDark_table]
      exact List.map_map.trans map_insertKey
  rw [← zones]
  have kept := State.applyZone_keeps c s
  simp only [State.keys, kept.srg (by decide), kept.wgt (by decide), kept.spm (by decide), kept.rke (by decide)]

theorem State.keys_applyZoneResult (c : ZoneCfg) :
    (s.applyZoneResult c).keys = { s.keys with results := withKey c.zone s.keys.results } := by
  have results : (s.applyZoneResult c).keys.results = withKey c.zone s.keys.results := by
    unfold State.applyZoneResult
    split
    · rename_i r hr
      exact (withKey_of_some hr).symm
    · rename_i hr
      exact map_insertKey.trans (withKey_of_none hr).symm
  rw [← results]
  unfold State.applyZoneResult
  split <;> rfl

theorem State.keys_applyPath (c : PathCfg) :
    (s.applyPath c).keys = { s.keys with paths := withKey c.order s.keys.paths } := by
  have paths : (s.applyPath c).keys.paths = withKey c.order s.keys.paths := by
    rw [State.keys_paths, State.keys_paths]
    unfold State.applyPath
    split
    · rename_i p hp
      rw [PathCfg.order, withKey_of_some hp]
      exact map_updateKey_of fun _ _ h => h.symm
    · rename_i hp
      rw [PathCfg.order, withKey_of_none hp]
      exact map_insertKey
  rw [← paths]
  unfold State.applyPath
  split <;> rfl

theorem State.keys_dropPile :
    ((s.dropPile n).dropWind n).keys =
      { s.keys with piles := removeKey id n s.keys.piles, winds := removeKey id n s.keys.winds } := by
  have piles : ((s.dropPile n).dropWind n).keys.piles = removeKey id n s.keys.piles := by
    rw [State.keys_piles, State.keys_piles]
    exact map_removeKey
  have winds : ((s.dropPile n).dropWind n).keys.winds = removeKey id n s.keys.winds := map_removeKey
  rw [← piles, ← winds]
  rfl

theorem State.keys_dropZone :
    (s.dropZone n).keys = { s.keys with zones := removeKey id n s.keys.zones } := by
  have zones : (s.dropZone n).keys.zones = removeKey id n s.keys.zones := by
    rw [State.keys_zones, State.keys_zones]
    unfold State.dropZone
    split
    · rename_i hz
      rw [← map_removeKey, removeKey_of_none hz]
    · dsimp only
      split <;> exact map_removeKey
  rw [← zones]
  have kept := State.dropZone_keeps n s
  simp only [State.keys, kept.srg (by decide), kept.wgt (by decide), kept.spm (by decide), kept.rke (by decide)]

theorem State.keys_dropZoneResult :
    (s.dropZoneResult n).keys = { s.keys with results := removeKey id n s.keys.results } := by
  have results : (s.dropZoneResult n).keys.results = removeKey id n s.keys.results := map_removeKey
  rw [← results]
  rfl

theorem State.keys_dropPath (pile zone : Nat) :
    (s.dropPath pile zone).keys = { s.keys with paths := removeKey id (pathOrder pile zone) s.keys.paths } := by
  have paths : (s.dropPath pile zone).keys.paths = removeKey id (pathOrder pile zone) s.keys.paths := by
    rw [State.keys_paths, State.keys_paths]
    exact map_removeKey
  rw [← paths]
  rfl

end

end Sys2Proof.Machine

namespace Sys2Proof.Machine

/-! ## Stations and their companions -/

/-- The slots to which `o` gives a kind, ascending. -/
def TracksKind (o : Nat → Option (Kind × Identity)) (k : Kind) (keys : List Nat) : Prop :=
  keys.Pairwise (· < ·) ∧ ∀ n, n ∈ keys ↔ (o n).map Prod.fst = some k

/-- The companion records of a kind after a slot's change of occupant (R66, R85). -/
def followKind (k : Kind) (slot : Nat) (before after : Option Kind) (keys : List Nat) : List Nat :=
  if before = some k then (if after = some k then keys else removeKey id slot keys)
  else if after = some k then insertKey id slot keys else keys

section
variable {k : Kind} {slot : Nat} {before after : Option Kind} {keys : List Nat}

theorem followKind_left (ha : after ≠ some k) :
    followKind k slot (some k) after keys = removeKey id slot keys := by simp [followKind, ha]

theorem followKind_joined (hb : before ≠ some k) :
    followKind k slot before (some k) keys = insertKey id slot keys := by simp [followKind, hb]

theorem followKind_other (hb : before ≠ some k) (ha : after ≠ some k) :
    followKind k slot before after keys = keys := by simp [followKind, hb, ha]

end

theorem TracksKind.follow {o o' : Nat → Option (Kind × Identity)} {k : Kind} {keys : List Nat} {slot : Nat}
    {after : Option (Kind × Identity)} (h : TracksKind o k keys)
    (ho : ∀ n, o' n = if n = slot then after else o n) :
    TracksKind o' k (followKind k slot ((o slot).map Prod.fst) (after.map Prod.fst) keys) := by
  obtain ⟨hsorted, hmem⟩ := h
  have put : ∀ n, n ∈ insertKey id slot keys ↔ n = slot ∨ n ∈ keys := fun n => by
    simpa using mem_map_insertKey (key := id) (a := slot) (l := keys) (n := n)
  have drop : ∀ n, n ∈ removeKey id slot keys ↔ n ≠ slot ∧ n ∈ keys := fun n => by
    simpa using mem_map_removeKey (key := id) (k := slot) (l := keys) (n := n)
  have other : ∀ n, n ≠ slot → ((o' n).map Prod.fst = some k ↔ n ∈ keys) := fun n hn => by
    rw [ho, if_neg hn, hmem]
  have same : o' slot = after := by rw [ho, if_pos rfl]
  unfold followKind
  split
  · rename_i hb
    split
    · rename_i ha
      refine ⟨hsorted, fun n => ?_⟩
      by_cases hn : n = slot
      · subst hn; simp [hmem, hb, same, ha]
      · exact (other n hn).symm
    · rename_i ha
      refine ⟨sorted_removeKey hsorted, fun n => (drop n).trans ?_⟩
      by_cases hn : n = slot
      · subst hn; simp [same, ha]
      · simp [hn, other n hn]
  · rename_i hb
    split
    · rename_i ha
      refine ⟨sorted_insertKey (key := id) hsorted, fun n => (put n).trans ?_⟩
      by_cases hn : n = slot
      · subst hn; simp [same, ha]
      · simp [hn, other n hn]
    · rename_i ha
      refine ⟨hsorted, fun n => ?_⟩
      by_cases hn : n = slot
      · subst hn; simp [hmem, hb, same, ha]
      · exact (other n hn).symm

section
variable (s : State) (n : Nat)

/-- Companion records that track a kind are those of its slots. -/
theorem State.tracksKind_iff {s : State} (h : s.srg.stations.Pairwise (fun x y => x.cfg.slot < y.cfg.slot))
    {k : Kind} {keys : List Nat} : TracksKind (fun n => s.occupant n) k keys ↔ keys = s.slotsOf k := by
  have sorted : (s.slotsOf k).Pairwise (· < ·) := List.pairwise_map.mpr (h.filter _)
  have mem : ∀ n, n ∈ s.slotsOf k ↔ (s.occupant n).map Prod.fst = some k := fun n => by
    simp only [State.slotsOf, List.mem_map, List.mem_filter, beq_iff_eq, State.occupant, Option.map_map,
      Option.map_eq_some_iff, Function.comp]
    constructor
    · rintro ⟨x, ⟨hx, hk⟩, rfl⟩
      exact ⟨x, findKey_of_mem (key := fun x : Station => x.cfg.slot) h hx, hk⟩
    · rintro ⟨x, hx, hk⟩
      obtain ⟨hm, hs⟩ := findKey_mem hx
      exact ⟨x, ⟨hm, hk⟩, hs⟩
  constructor
  · rintro ⟨hsorted, hmem⟩
    exact hsorted.eq_of_mem_iff sorted fun n => (hmem n).trans (mem n).symm
  · rintro rfl
    exact ⟨sorted, mem⟩

theorem map_fst_ne {o : Option (Kind × Identity)} {k : Kind} (h : ∀ i, o = some (k, i) → False) :
    o.map Prod.fst ≠ some k := fun e => by
  obtain ⟨⟨_, i⟩, rfl, rfl⟩ := Option.map_eq_some_iff.mp e
  exact h i rfl

/-- The mast records follow the occupant of a slot (R66). -/
theorem State.applyMast_table (before after : Option (Kind × Identity)) :
    (s.applyMast n before after).wgt.table =
      followKind .mast n (before.map Prod.fst) (after.map Prod.fst) s.wgt.table := by
  unfold State.applyMast
  split
  case h_1 =>
    split
    · rfl
    · rw [State.leaveGusts_table]
      exact map_updateKey_of fun _ _ h => h.symm
  case h_2 ha =>
    rw [State.leaveGusts_table]
    exact map_removeKey.trans (followKind_left (map_fst_ne ha)).symm
  case h_3 hb => exact map_insertKey.trans (followKind_joined (map_fst_ne hb)).symm
  case h_4 hb ha _ => exact (followKind_other (map_fst_ne hb) (map_fst_ne ha)).symm

/-- The gauge records follow it (R85). -/
theorem State.applyGauge_slots (before after : Option (Kind × Identity)) :
    (s.applyGauge n before after).spm.gauges.map (fun g => g.slot) =
      followKind .gauge n (before.map Prod.fst) (after.map Prod.fst) (s.spm.gauges.map (fun g => g.slot)) := by
  unfold State.applyGauge
  split
  case h_1 =>
    split
    · rfl
    · exact map_updateKey_of fun _ _ h => h.symm
  case h_2 ha => exact map_removeKey.trans (followKind_left (map_fst_ne ha)).symm
  case h_3 hb => exact map_insertKey.trans (followKind_joined (map_fst_ne hb)).symm
  case h_4 hb ha _ => exact (followKind_other (map_fst_ne hb) (map_fst_ne ha)).symm

/-- The monitor holds follow it (R85). -/
theorem State.applyMonitor_slots (before after : Option (Kind × Identity)) :
    (s.applyMonitor n before after).spm.monitors.map (fun m => m.slot) =
      followKind .dust n (before.map Prod.fst) (after.map Prod.fst) (s.spm.monitors.map (fun m => m.slot)) := by
  unfold State.applyMonitor
  split
  case h_1 =>
    split
    · rfl
    · exact map_updateKey_of fun _ _ h => h.symm
  case h_2 ha => exact map_removeKey.trans (followKind_left (map_fst_ne ha)).symm
  case h_3 hb => exact map_insertKey.trans (followKind_joined (map_fst_ne hb)).symm
  case h_4 hb ha _ => exact (followKind_other (map_fst_ne hb) (map_fst_ne ha)).symm

/-- What the gauge records and the monitor holds leave of each other and of the piles. -/
theorem State.applySpm_others (before after : Option (Kind × Identity)) :
    (s.applyGauge n before after).spm.monitors = s.spm.monitors
    ∧ (s.applyGauge n before after).spm.piles = s.spm.piles
    ∧ (s.applyMonitor n before after).spm.gauges = s.spm.gauges
    ∧ (s.applyMonitor n before after).spm.piles = s.spm.piles := by
  unfold State.applyGauge State.applyMonitor
  refine ⟨?_, ?_, ?_, ?_⟩ <;> repeat' split
  all_goals rfl

end

/-- A slot's change of occupant brings the companion records in step with the station table (R66, R85). -/
theorem State.TablesOk.changeOccupant {s u : State} {n : Nat} {after : Option (Kind × Identity)}
    (h : s.TablesOk) (k : KeepsBut [.srg] s u)
    (sorted : u.srg.stations.Pairwise (fun x y => x.cfg.slot < y.cfg.slot))
    (moved : ∀ m, u.occupant m = if m = n then after else s.occupant m) :
    (u.changeOccupant n (s.occupant n) after).TablesOk := by
  have kept := State.changeOccupant_keeps n (s.occupant n) after u
  have srg : (u.changeOccupant n (s.occupant n) after).srg = u.srg := kept.srg (by decide)
  have rke : (u.changeOccupant n (s.occupant n) after).rke = s.rke :=
    (kept.rke (by decide)).trans (k.rke (by decide))
  have zwc : (u.changeOccupant n (s.occupant n) after).zwc = s.zwc :=
    (kept.zwc (by decide)).trans (k.zwc (by decide))
  have slots : ∀ kind, (u.changeOccupant n (s.occupant n) after).slotsOf kind = u.slotsOf kind := fun kind => by
    rw [State.slotsOf, srg, State.slotsOf]
  have tracks : ∀ {kind keys}, keys = s.slotsOf kind →
      followKind kind n ((s.occupant n).map Prod.fst) (after.map Prod.fst) keys = u.slotsOf kind := fun e =>
    (State.tracksKind_iff sorted).mp (((State.tracksKind_iff h.stations).mpr e).follow moved)
  obtain ⟨hgm, hgp, -, -⟩ := (u.applyMast n (s.occupant n) after).applySpm_others n (s.occupant n) after
  obtain ⟨-, -, hmg, hmp⟩ :=
    ((u.applyMast n (s.occupant n) after).applyGauge n (s.occupant n) after).applySpm_others n (s.occupant n) after
  have spm : (u.applyMast n (s.occupant n) after).spm = s.spm :=
    ((State.applyMast_keeps ..).spm (by decide)).trans (k.spm (by decide))
  have piles : (u.changeOccupant n (s.occupant n) after).spm.piles = s.spm.piles := by
    rw [State.changeOccupant, hmp, hgp, spm]
  constructor
  case stations => rw [srg]; exact sorted
  case piles => rw [piles]; exact h.piles
  case zones => rw [zwc]; exact h.zones
  case paths => rw [rke]; exact h.paths
  case results => rw [rke, zwc]; exact h.results
  case winds => rw [rke, piles]; exact h.winds
  case masts =>
    rw [slots, State.changeOccupant, (State.applyMonitor_keeps ..).wgt (by decide),
      (State.applyGauge_keeps ..).wgt (by decide)]
    refine (State.applyMast_table ..).trans (tracks ?_)
    rw [k.wgt (by decide)]
    exact h.masts
  case gauges =>
    rw [slots, State.changeOccupant, hmg, State.applyGauge_slots, spm]
    exact tracks h.gauges
  case monitors =>
    rw [slots, State.changeOccupant, State.applyMonitor_slots, hgm, spm]
    exact tracks h.monitors

/-! ## The station table (R40) -/

section
variable {s : State}

/-- A STATION item leaves the slots in order, and puts its kind and identity in its slot. -/
theorem State.applyStation_spec (c : StationCfg)
    (h : s.srg.stations.Pairwise (fun x y => x.cfg.slot < y.cfg.slot)) :
    (s.applyStation c).srg.stations.Pairwise (fun x y => x.cfg.slot < y.cfg.slot)
    ∧ ∀ m, (s.applyStation c).occupant m = if m = c.slot then some (c.kind, c.identity) else s.occupant m := by
  have change : ∀ f : Station → Station, (∀ x, (f x).cfg = c) → ∀ x, s.station c.slot = some x →
      (s.updStation c.slot f).srg.stations.Pairwise (fun x y => x.cfg.slot < y.cfg.slot)
      ∧ ∀ m, (s.updStation c.slot f).occupant m
          = if m = c.slot then some (c.kind, c.identity) else s.occupant m := by
    intro f hf x hx
    constructor
    · rw [← List.pairwise_map (f := fun x : Station => x.cfg.slot) (R := (· < ·))] at h ⊢
      rwa [show (s.updStation c.slot f).srg.stations.map (fun x => x.cfg.slot) = _ from
        map_updateKey_of fun b _ hb => (congrArg _ (hf b)).trans hb.symm]
    · intro m
      have found : (s.updStation c.slot f).station m = if m = c.slot then (s.station m).map f else s.station m :=
        findKey_updateKey_of fun b _ => congrArg _ (hf b)
      rw [State.occupant, found]
      split
      · rename_i hm
        rw [hm, hx, Option.map_some, Option.map_some, hf]
      · rfl
  unfold State.applyStation
  split
  · refine ⟨sorted_insertKey (key := fun x : Station => x.cfg.slot) h, fun m => ?_⟩
    have found : findKey (fun x : Station => x.cfg.slot) m
        (insertKey (fun x => x.cfg.slot) (Station.created c) s.srg.stations)
        = if m = c.slot then some (Station.created c) else s.station m := findKey_insertKey
    refine (congrArg (Option.map _) found).trans ?_
    split <;> rfl
  · rename_i x hx
    split
    · exact change _ (fun _ => rfl) x hx
    · have replaced := change (fun _ => Station.created c) (fun _ => rfl) x hx
      dsimp only
      split <;> exact replaced

/-- REMOVE STATION leaves the slots in order, and nothing in its slot. -/
theorem State.dropStation_spec (n : Nat) (h : s.srg.stations.Pairwise (fun x y => x.cfg.slot < y.cfg.slot)) :
    (s.dropStation n).srg.stations.Pairwise (fun x y => x.cfg.slot < y.cfg.slot)
    ∧ ∀ m, (s.dropStation n).occupant m = if m = n then none else s.occupant m := by
  unfold State.dropStation
  split
  · rename_i hx
    refine ⟨h, fun m => ?_⟩
    split
    · rename_i hm
      rw [hm, State.occupant, hx]
      rfl
    · rfl
  · have removed : (removeKey (fun x => x.cfg.slot) n s.srg.stations).Pairwise
          (fun x y => x.cfg.slot < y.cfg.slot)
        ∧ ∀ m, (findKey (fun x => x.cfg.slot) m (removeKey (fun x => x.cfg.slot) n s.srg.stations)).map
            (fun x => (x.cfg.kind, x.cfg.identity)) = if m = n then none else s.occupant m := by
      refine ⟨h.sublist removeKey_sublist, fun m => ?_⟩
      rw [findKey_removeKey]
      split <;> rfl
    dsimp only
    split <;> exact removed

end

/-! ## The items of an apply (R163, R166) -/

section
variable {s : State}

/-- A removal keeps the tables. -/
theorem State.TablesOk.applyOut (h : s.TablesOk) (x : Item) : (s.applyOut x).TablesOk := by
  have ok := State.tablesOk_iff.mp h
  cases x with
  | remove k =>
    cases k with
    | station n =>
      obtain ⟨sorted, moved⟩ := State.dropStation_spec n h.stations
      exact h.changeOccupant (State.dropStation_keeps ..) sorted moved
    | pile n =>
      refine State.tablesOk_iff.mpr ?_
      rw [show (s.applyOut (.remove (.pile n))).keys = _ from s.keys_dropPile n]
      exact { ok with
        piles := sorted_removeKey ok.piles
        winds := congrArg _ ok.winds }
    | zone n =>
      refine State.tablesOk_iff.mpr ?_
      rw [show (s.applyOut (.remove (.zone n))).keys = _ from State.keys_dropZoneResult .., State.keys_dropZone]
      exact { ok with
        zones := sorted_removeKey ok.zones
        results := congrArg _ ok.results }
    | path p z =>
      refine State.tablesOk_iff.mpr ?_
      rw [show (s.applyOut (.remove (.path p z))).keys = _ from s.keys_dropPath p z]
      exact { ok with paths := sorted_removeKey ok.paths }
    | site => exact h
  | _ => exact h

/-- A put keeps the tables. -/
theorem State.TablesOk.applyPut (h : s.TablesOk) (x : Item) : (s.applyPut x).TablesOk := by
  have ok := State.tablesOk_iff.mp h
  cases x with
  | remove k => exact h
  | station c =>
    obtain ⟨sorted, moved⟩ := State.applyStation_spec c h.stations
    exact h.changeOccupant (State.applyStation_keeps ..) sorted moved
  | pile c =>
    refine State.tablesOk_iff.mpr ?_
    rw [show (s.applyPut (.pile c)).keys = _ from State.keys_applyWind .., State.keys_applyPile]
    exact { ok with
      piles := sorted_withKey ok.piles
      winds := congrArg (withKey c.pile) ok.winds }
  | zone c =>
    refine State.tablesOk_iff.mpr ?_
    rw [show (s.applyPut (.zone c)).keys = _ from State.keys_applyZoneResult .., State.keys_applyZone]
    exact { ok with
      zones := sorted_withKey ok.zones
      results := congrArg (withKey c.zone) ok.results }
  | path c =>
    refine State.tablesOk_iff.mpr ?_
    rw [show (s.applyPut (.path c)).keys = _ from State.keys_applyPath ..]
    exact { ok with paths := sorted_withKey ok.paths }
  | site p => exact ⟨h.1, h.2, h.3, h.4, h.5, h.6, h.7, h.8, h.9⟩

/-- Operations that each keep a property keep it one after the other. -/
theorem foldl_holds {α : Type} {P : State → Prop} {f : State → α → State} (hf : ∀ s a, P s → P (f s a)) :
    ∀ (l : List α) {s : State}, P s → P (l.foldl f s)
  | [], _, h => h
  | a :: l, s, h => foldl_holds hf l (hf s a h)

/-- The apply of a round close (R163, R165, R166). -/
theorem State.TablesOk.applySet (h : s.TablesOk) : s.applySet.TablesOk := by
  have freed : ∀ {t : State} event, t.TablesOk → (t.freeSet event).TablesOk := fun event ht =>
    ht.ofSame (State.freeSet_keeps event _).sameTables
  have items : (s.applyItems s.cau.items).TablesOk :=
    foldl_holds (fun t x (ht : t.TablesOk) => ht.applyPut x) _
      (foldl_holds (fun t x (ht : t.TablesOk) => ht.applyOut x) _ h)
  unfold State.applySet
  split
  · split
    · exact freed _ h
    · exact freed _ (items.ofSame (State.record_keeps ..).sameTables)
  · exact h
  · exact h
  · exact h

end

end Sys2Proof.Machine

/-! # A delivered verdict (R30, R32, R34, R35, R37) -/

namespace Sys2Proof.Machine

/-- A station after a delivered verdict (R32). -/
def Station.afterVerdict (round : Round) (f : StationFrame) (heardA heardB : Bool) (x : Station) : Station :=
  (x.delivered round f.code).hear round f.code heardA heardB

/-- A delivered verdict enters the station table, with a revocation or the notice ADMITTED where it calls for
one (R29, R32, R41). -/
def State.enterVerdict (n : Nat) (x y : Station) (s : State) : State :=
  let s1 := s.updStation n (fun _ => y)
  let s2 := if x.answeredByRevocation then s1.revoke n else s1
  if x.admittedBy then s2.raiseStation .routine .admitted n else s2

/-- The reading of a delivered frame passes the gate (R34). -/
def Station.passes (x y : Station) (f : StationFrame) : Bool :=
  readingGate x.live y.live && codeUsesReading f.code

/-- A station once its reading has been handed on: a MAST reading takes the fresh mark with it (R37). -/
def Station.handed (r : Reading) (y : Station) : Station :=
  match r with
  | .mast _ _ => { y with fresh := false }
  | .dust _ => y
  | .gauge _ _ => y

section
variable {s : State} {n : Nat} {x y : Station} {f : StationFrame} {hA hB : Bool}

theorem State.delivered_eq (hx : s.station n = some x) (hy : y = x.afterVerdict s.flc.round f hA hB) :
    s.delivered n f hA hB =
      if x.passes y f then (s.enterVerdict n x y).handOff n f.code f.reading y.fresh
      else s.enterVerdict n x y := by
  subst hy
  simp only [State.delivered, hx]
  rfl

theorem Station.delivered_cfg (round : Round) (code : Nat) (x : Station) : (x.delivered round code).cfg = x.cfg := by
  unfold Station.delivered
  split
  case h_1 | h_7 | h_8 => rfl
  all_goals split <;> rfl

@[simp] theorem Station.afterVerdict_cfg (round : Round) : (x.afterVerdict round f hA hB).cfg = x.cfg :=
  Station.delivered_cfg ..

/-- What the entry of a verdict does to the SRG. -/
theorem State.enterVerdict_srg (s : State) (n : Nat) (x y : Station) :
    (s.enterVerdict n x y).srg =
      { s.srg with
        stations := (s.updStation n (fun _ => y)).srg.stations
        revocations := if x.answeredByRevocation then appendNew n s.srg.revocations else s.srg.revocations } := by
  unfold State.enterVerdict
  dsimp only
  split
  · rw [State.raiseStation_srg]
    split <;> rfl
  · split <;> rfl

/-- It changes nothing but the SRG and the ports. -/
theorem State.enterVerdict_keeps (s : State) (n : Nat) (x y : Station) :
    KeepsBut [.srg, .pif] s (s.enterVerdict n x y) := by
  have entered : KeepsBut [.srg, .pif] s (s.updStation n (fun _ => y)) :=
    (State.updStation_keeps ..).mono (by decide)
  have revoked : KeepsBut [.srg, .pif] s ((s.updStation n (fun _ => y)).revoke n) :=
    (State.revoke_keeps ..).andThen (by decide) entered
  unfold State.enterVerdict
  dsimp only
  split <;> split
  · exact (State.raiseStation_keeps ..).andThen (by decide) revoked
  · exact (State.raiseStation_keeps ..).andThen (by decide) entered
  · exact revoked
  · exact entered

/-- The entry of a slot after its verdict, and every other one. -/
theorem State.enterVerdict_station (hx : s.station n = some x) (hy : y.cfg = x.cfg) :
    (s.enterVerdict n x y).station n = some y
    ∧ ∀ m, m ≠ n → (s.enterVerdict n x y).station m = s.station m := by
  have slot : y.cfg.slot = n := by rw [hy]; exact (findKey_mem hx).2
  have found : ∀ m, (s.enterVerdict n x y).station m =
      if m = n then (s.station m).map (fun _ => y) else s.station m := fun m => by
    rw [State.station, State.enterVerdict_srg]
    exact findKey_updateKey_of fun _ _ => slot
  refine ⟨?_, fun m hm => (found m).trans (if_neg hm)⟩
  rw [found, if_pos rfl, hx]
  rfl

/-- In an ordered table it leaves the configured parts. -/
theorem State.enterVerdict_table (h : s.TablesOk) (hx : s.station n = some x) (hy : y.cfg = x.cfg) :
    (s.enterVerdict n x y).srg.table = s.srg.table := by
  rw [State.enterVerdict_srg]
  refine map_updateKey_of fun b hb hs => ?_
  have found : s.station b.cfg.slot = some b := findKey_of_mem (key := fun x : Station => x.cfg.slot) h.stations hb
  rw [hs, hx] at found
  rw [hy, Option.some.inj found]

/-- What a hand-off does to the SRG (R37). -/
theorem State.handOff_srg (code : Nat) (r : Reading) (fresh : Bool) (s : State) :
    (s.handOff n code r fresh).srg.queue = s.srg.queue
    ∧ (s.handOff n code r fresh).srg.strangers = s.srg.strangers
    ∧ (s.handOff n code r fresh).srg.revocations = s.srg.revocations
    ∧ (s.handOff n code r fresh).srg.table = s.srg.table
    ∧ ∀ m, (s.handOff n code r fresh).station m =
        if m = n then (s.station m).map (Station.handed r) else s.station m := by
  cases r with
  | mast speed direction =>
    refine ⟨rfl, rfl, rfl, State.updStation_table .., fun m => ?_⟩
    exact State.station_updStation _ n m _ fun _ => rfl
  | dust c =>
    refine ⟨rfl, rfl, rfl, rfl, fun m => ?_⟩
    change s.station m = if m = n then (s.station m).map id else s.station m
    rw [Option.map_id_apply, ite_self]
  | gauge h rain =>
    refine ⟨rfl, rfl, rfl, rfl, fun m => ?_⟩
    change s.station m = if m = n then (s.station m).map id else s.station m
    rw [Option.map_id_apply, ite_self]

/-- A hand-off keeps the tables. -/
theorem State.handOff_tables (code : Nat) (r : Reading) (fresh : Bool) (s : State) :
    SameTables s (s.handOff n code r fresh) := by
  obtain ⟨-, -, -, srg, -⟩ := State.handOff_srg (n := n) code r fresh s
  refine (State.handOff_keeps n code r fresh s).sameTables (srg := fun _ => srg) (wgt := fun _ => ?_)
    (spm := fun _ => ?_)
  · cases r with
    | mast speed direction =>
      refine State.updMast_table _ _ _ fun m => ?_
      unfold Mast.take
      split <;> rfl
    | dust c => rfl
    | gauge h rain => rfl
  · cases r with
    | mast speed direction => rfl
    | dust c => exact State.takeDust_table ..
    | gauge h rain => exact State.takeGauge_table ..

/-- A delivered verdict keeps the tables. -/
theorem State.TablesOk.delivered (h : s.TablesOk) (n : Nat) (f : StationFrame) (hA hB : Bool) :
    (s.delivered n f hA hB).TablesOk := by
  cases hx : s.station n with
  | none =>
    have still : s.delivered n f hA hB = s := by simp [State.delivered, hx]
    rw [still]
    exact h
  | some x =>
    have entered : ∀ y, y.cfg = x.cfg → SameTables s (s.enterVerdict n x y) := fun y hy =>
      (State.enterVerdict_keeps s n x y).sameTables (srg := fun _ => State.enterVerdict_table h hx hy)
    rw [State.delivered_eq hx rfl]
    split
    · exact h.ofSame ((entered _ (Station.afterVerdict_cfg _)).trans (State.handOff_tables ..))
    · exact h.ofSame (entered _ (Station.afterVerdict_cfg _))

end

end Sys2Proof.Machine

/-! # Every step keeps the tables -/

namespace Sys2Proof.Machine

/-! ## The events of the loop -/

section
variable {s : State}

theorem State.TablesOk.missed (h : s.TablesOk) (n : Nat) : (s.missed n).TablesOk :=
  h.ofSame ((State.missed_keeps n s).sameTables (srg := fun _ => s.missed_table n))

theorem State.TablesOk.passVerdict (h : s.TablesOk) (n ring : Nat) (v : Verdict) :
    (s.passVerdict n ring v).TablesOk := by
  cases v with
  | delivered f hA hB => exact (h.ofSame (State.noteVerdict_keeps ..).sameTables).delivered ..
  | missing => exact h.missed n
  | clash =>
    have reclassed : ({ s with flc := s.flc.reclassBoth 1 } : State).TablesOk := h.ofSame ⟨rfl, rfl, rfl, rfl, rfl⟩
    exact reclassed.missed n

theorem State.TablesOk.endSlot (h : s.TablesOk) (n : Nat) : (s.endSlot n).TablesOk := by
  unfold State.endSlot
  split
  · exact h
  · rename_i p _
    split
    · have ended : ({ s.reach (p.start + slotEndTime n) with
          flc.progress := some { p with slotsEnded := n } } : State).TablesOk := h.ofSame ⟨rfl, rfl, rfl, rfl, rfl⟩
      dsimp only
      split
      · exact ended
      · exact ended.passVerdict ..
    · exact h

theorem State.TablesOk.beginRound (h : s.TablesOk) (round : Round) (start : Time) :
    (s.beginRound round start).TablesOk :=
  h.ofSame ((State.beginRound_keeps ..).sameTables (srg := fun _ => s.beginRound_table ..))

theorem State.TablesOk.endListen (h : s.TablesOk) : s.endListen.TablesOk := by
  unfold State.endListen
  split
  · rename_i e _ _
    have started : ({ s.reach e with flc := { s.flc with mode := .running, listen := none } } : State).TablesOk :=
      h.ofSame ⟨rfl, rfl, rfl, rfl, rfl⟩
    exact (started.beginRound 0 e).ofSame (State.raiseLoop_keeps ..).sameTables
  · exact h

theorem State.TablesOk.startRound (h : s.TablesOk) : s.startRound.TablesOk := by
  unfold State.startRound
  split
  · exact h
  · split
    · exact (h.ofSame (State.reach_keeps ..).sameTables).beginRound ..
    · exact h

/-- The work of the blocks after the apply of a round close (R3). -/
theorem State.afterApply_tables (s : State) : SameTables s s.closeLoop.closeWind.closeSite.assess :=
  (((State.closeLoop_keeps s).sameTables (srg := fun _ => s.closeLoop_table)).trans
    ((State.closeWind_keeps _).sameTables (wgt := fun _ => State.closeWind_table _))).trans
    (((State.closeSite_keeps _).sameTables (spm := fun _ => State.closeSite_table _)).trans
      (State.assess_tables _))

theorem State.TablesOk.closing (h : s.TablesOk) (p : Progress) : (s.closing p).TablesOk := by
  have atClose : (s.atClose p).TablesOk := h.ofSame ⟨rfl, rfl, rfl, rfl, rfl⟩
  exact atClose.applySet

theorem State.TablesOk.closeRound (h : s.TablesOk) : s.closeRound.TablesOk := by
  unfold State.closeRound
  split
  · exact h
  · rename_i p _
    split
    · exact (h.closing p).ofSame (State.afterApply_tables _)
    · exact h

end

/-! ## The commands -/

/-- RESTART keeps every table (R43, R67, R86, R110, R133). -/
theorem restartCommand_tables (a : Asked) (s : State) : SameTables s (restartCommand a s) := by
  have answered : ∀ t : State, SameTables t (t.reply a .done [[t.wrl.epoch]]) := fun t =>
    (State.reply_keeps ..).sameTables
  have blocks : ∀ t : State, SameTables t t.restartBlocks := fun t =>
    ((((State.restartStations_keeps t).sameTables (srg := fun _ => t.restartStations_table)).trans
      ((State.restartWind_keeps _).sameTables (wgt := fun _ => State.restartWind_table _))).trans
      (((State.restartSite_keeps _).sameTables (spm := fun _ => State.restartSite_table _)).trans
      ((State.restartRisk_keeps _).sameTables (rke := fun _ => State.restartRisk_table _)))).trans
      (((State.restartZones_keeps _).sameTables (zwc := fun _ => State.restartZones_table _)).trans
      (State.restartSet_keeps _).sameTables)
  exact (((State.restartLoop_keeps s).sameTables).trans (State.markRestart_keeps a.port _).sameTables).trans
    ((answered _).trans (blocks _))

/-- No command of a master changes a table. -/
theorem runCommand_tables (c : Command) (a : Asked) (s : State) : SameTables s (runCommand c a s) := by
  cases c with
  | floor => exact (floorCommand_keeps ..).sameTables (zwc := fun _ => floorCommand_table ..)
  | ackAlert => exact (ackAlertCommand_keeps ..).sameTables (zwc := fun _ => ackAlertCommand_table ..)
  | silence => exact (silenceCommand_keeps ..).sameTables (zwc := fun _ => silenceCommand_table ..)
  | service => exact (serviceCommand_keeps ..).sameTables (zwc := fun _ => serviceCommand_table ..)
  | test => exact (testCommand_keeps ..).sameTables (zwc := fun _ => testCommand_table ..)
  | clearLine => exact (clearLineCommand_keeps ..).sameTables (zwc := fun _ => clearLineCommand_table ..)
  | ackLoss => exact (ackLossCommand_keeps ..).sameTables (srg := fun _ => ackLossCommand_table ..)
  | reportWetting => exact (reportWettingCommand_keeps ..).sameTables (spm := fun _ => reportWettingCommand_table ..)
  | reportActivity => exact (reportActivityCommand_keeps ..).sameTables (spm := fun _ => reportActivityCommand_table ..)
  | restart => exact restartCommand_tables a s
  | stage => exact (stageCommand_keeps ..).sameTables
  | discard => exact (discardCommand_keeps ..).sameTables
  | propose => exact (proposeCommand_keeps ..).sameTables
  | accept => exact (acceptCommand_keeps ..).sameTables
  | refuse => exact (refuseCommand_keeps ..).sameTables
  | status => exact (statusCommand_keeps ..).sameTables
  | readZone => exact (readZoneCommand_keeps ..).sameTables
  | readPile => exact (readPileCommand_keeps ..).sameTables
  | readStations => exact (readStationsCommand_keeps ..).sameTables
  | readStrangers => exact (readStrangersCommand_keeps ..).sameTables
  | readGusts => exact (readGustsCommand_keeps ..).sameTables
  | readPaths => exact (readPathsCommand_keeps ..).sameTables
  | readConfigItem => exact (readConfigItemCommand_keeps ..).sameTables
  | readLoop => exact (readLoopCommand_keeps ..).sameTables
  | readLogNext => exact (readLogNextCommand_keeps ..).sameTables
  | readLogAt => exact (readLogAtCommand_keeps ..).sameTables

theorem judgeCommand_tables (c : Option Command) (a : Asked) (s : State) :
    SameTables s (judgeCommand c a s) := by
  have answered : ∀ r, SameTables s (s.reply a r []) := fun r => (State.reply_keeps ..).sameTables
  unfold judgeCommand
  split
  · exact answered _
  · split
    · exact answered _
    · split
      · exact runCommand_tables ..
      · exact answered _

section
variable (s : State) (port : Port)

theorem State.updPort_tables (f : PortState → PortState) : SameTables s (s.updPort port f) :=
  (State.updPort_keeps ..).sameTables

theorem State.issue_tables (tag : Byte) (c : Command) : SameTables s (s.issue port tag c) := by
  rw [State.issue_eq]
  exact (State.held_keeps ..).sameTables.trans (judgeCommand_tables ..)

theorem State.takeContent_tables (content : List Byte) (releases : Bool) :
    SameTables s (s.takeContent port content releases) := by
  unfold State.takeContent
  split
  · exact (State.reply_keeps ..).sameTables
  · exact judgeCommand_tables ..

theorem State.receiveFrame_tables (bytes : List Byte) (e : Bool) :
    SameTables s (s.receiveFrame port bytes e) := by
  unfold State.receiveFrame State.judgeFrame
  split
  · exact (State.openFrame_keeps ..).sameTables
  · dsimp only
    split
    · exact s.updPort_tables ..
    · have heard := (s.updPort_tables port (fun p => { p with receiver := .hunting })).trans
        (State.restartWatch_keeps port _).sameTables
      refine heard.trans ?_
      unfold State.holdContent
      split
      · exact (State.updPort_tables ..).trans (State.takeContent_tables ..)
      · exact State.updPort_tables ..
      · exact State.updPort_tables ..

theorem State.completeFrame_tables : SameTables s (s.completeFrame port) := by
  unfold State.completeFrame
  split
  · exact .refl s
  · have sent : ∀ e f, SameTables s ((s.reach e).updPort port f) := fun e f =>
      (State.reach_keeps e s).sameTables.trans (State.updPort_tables ..)
    have released : ∀ t : State, SameTables t (t.releaseHolding port) := fun t => by
      unfold State.releaseHolding
      dsimp only
      split
      · exact State.updPort_tables ..
      · exact (State.updPort_tables ..).trans (State.takeContent_tables ..)
    dsimp only
    split
    · exact SameTables.trans (sent _ _) (released _)
    · exact sent _ _

theorem State.expireWatch_tables : SameTables s (s.expireWatch port) := by
  unfold State.expireWatch
  split
  · exact .refl s
  · unfold State.silenceMaster
    refine SameTables.trans ?_ (State.silenceSet_keeps ..).sameTables
    refine SameTables.trans ?_ ((State.silencePiles_keeps ..).sameTables
      (spm := fun _ => State.silencePiles_table ..))
    refine SameTables.trans ?_ ((State.silenceZones_keeps ..).sameTables
      (zwc := fun _ => State.silenceZones_table ..))
    refine SameTables.trans ?_ (State.raise_keeps ..).sameTables
    exact ⟨rfl, rfl, rfl, rfl, rfl⟩

end

/-! ## The step -/

/-- Nothing is configured after POWER (R44, R69, R88, R112, R136). -/
theorem State.reset_tablesOk : State.reset.TablesOk := by
  constructor <;> first | rfl | exact List.Pairwise.nil

/-- The next state of a command is the one that its meaning names. -/
theorem State.TablesOk.ofNext {u t : State} (he : (.next u : Host.Outcome State Fault Refusal) = .next t)
    (hu : u.TablesOk) : t.TablesOk := by
  cases he
  exact hu

/-- Every command keeps the tables. -/
theorem exec_tablesOk (i : Instr) {s t : State} (h : s.TablesOk) (he : exec i s = .next t) : t.TablesOk := by
  cases i
  case power => exact .ofNext he (State.reset_tablesOk.ofSame ⟨rfl, rfl, rfl, rfl, rfl⟩)
  case slotEnd n => exact .ofNext he (h.endSlot n)
  case roundClose => exact .ofNext he h.closeRound
  case listenPeriodEnd => exact .ofNext he h.endListen
  case roundStart => exact .ofNext he h.startRound
  case masterSilenceExpiry port => exact .ofNext he (h.ofSame (s.expireWatch_tables port))
  case portFrame port bytes e => exact .ofNext he (h.ofSame (s.receiveFrame_tables port bytes e))
  case transmitComplete port => exact .ofNext he (h.ofSame (s.completeFrame_tables port))
  case short n =>
    exact .ofNext he (h.ofSame ((State.shortLine_keeps n s).sameTables (zwc := fun _ => s.shortLine_table n)))
  case lineCheck sense =>
    exact .ofNext he (h.ofSame ((State.checkLines_keeps sense s).sameTables
      (zwc := fun _ => s.checkLines_table sense)))
  case floorExpiry n role =>
    exact .ofNext he (h.ofSame ((State.expireFloor_keeps n role s).sameTables
      (zwc := fun _ => s.expireFloor_table n role)))
  case silenceExpiry n =>
    exact .ofNext he (h.ofSame ((State.expireSilence_keeps n s).sameTables
      (zwc := fun _ => s.expireSilence_table n)))
  case testEnd n =>
    exact .ofNext he (h.ofSame ((State.completeTest_keeps n s).sameTables (zwc := fun _ => s.completeTest_table n)))
  case foreignBeaconHeard => exact .ofNext he (h.ofSame (State.hearForeign_keeps s).sameTables)
  case backOffEnd => exact .ofNext he (h.ofSame (State.endBackOff_keeps s).sameTables)
  case phaseBOut => exact .ofNext he (h.ofSame (State.startPhaseB_keeps s).sameTables)
  case loopCopy side w e bytes =>
    exact .ofNext he (h.ofSame (State.takeCopy_keeps side w e bytes s).sameTables)
  case retryWaitEnd n => exact .ofNext he (h.ofSame (State.endRetry_keeps n s).sameTables)
  case patternPhaseChange g => exact .ofNext he (h.ofSame (State.changePhase_keeps g s).sameTables)
  case cleanCountTick => exact .ofNext he (h.ofSame (State.cleanTick_keeps s).sameTables)
  case idleExpiry => exact .ofNext he (h.ofSame (State.expireIdle_keeps s).sameTables)
  case proposalExpiry => exact .ofNext he (h.ofSame (State.expireProposal_keeps s).sameTables)
  case portFrameTimeout port => exact .ofNext he (h.ofSame (State.timeoutFrame_keeps port s).sameTables)
  case portOpeningFlag port => exact .ofNext he (h.ofSame (State.openFrame_keeps port s).sameTables)
  case portFrameOverlength port => exact .ofNext he (h.ofSame (State.discardLong_keeps port s).sameTables)
  all_goals exact .ofNext he (h.ofSame (State.issue_tables ..))

/-- Settles O58: of the commands a round close alone changes a table, and its apply keeps them in order and in
step. -/
theorem stepKeepsTheTables : Obligations.StepKeepsTheTables := by
  intro s t h hstep
  unfold step at hstep
  split at hstep
  · unfold idle at hstep
    split at hstep
    · cases hstep
      exact h
    · exact exec_tablesOk _ h hstep
  · rename_i c rest _
    have waiting : ({ s with pending := rest } : State).TablesOk := h.ofSame ⟨rfl, rfl, rfl, rfl, rfl⟩
    exact exec_tablesOk c waiting hstep

end Sys2Proof.Machine

/-! # A delivered slot (R29, R30, R32, R34, R35, R37) -/

namespace Sys2Proof.Machine

/-! ## The station -/

section
variable {x : Station} {round : Round} {code : Nat} {f : StationFrame} {hA hB : Bool}

/-- A frame is answered by a revocation where its station holds no grant (R29). -/
theorem Station.answeredByRevocation_eq (x : Station) : x.answeredByRevocation = !x.holdsGrant := by
  cases h : x.live <;> simp [Station.answeredByRevocation, Station.holdsGrant, h]

/-- What a verdict leaves of a station, whatever its state. -/
theorem Station.delivered_kept :
    (x.delivered round code).grant = x.grant ∧ (x.delivered round code).heardA = x.heardA
      ∧ (x.delivered round code).heardB = x.heardB := by
  unfold Station.delivered
  split
  case h_1 | h_7 | h_8 => exact ⟨rfl, rfl, rfl⟩
  all_goals split <;> exact ⟨rfl, rfl, rfl⟩

/-- The fresh mark after a verdict (R37). -/
theorem Station.delivered_fresh :
    (x.delivered round code).fresh = (x.fresh || decide (x.live = .warming ∧ x.warm ≤ 1)
      || decide (x.live = .suspect ∧ x.warm = 1)) := by
  cases h : x.live
  case heard => by_cases hw : x.inGrantWindow round = true <;> simp [Station.delivered, h, hw]
  case warming => by_cases hw : x.warm ≤ 1 <;> simp [Station.delivered, h, hw]
  case suspect =>
    by_cases hw : x.warm ≤ 1
    · simp [Station.delivered, h, hw, Station.endsWarmup]
    · simp [Station.delivered, h, hw, show ¬ x.warm = 1 by omega]
  case active => by_cases hc : code = goingQuietCode <;> simp [Station.delivered, h, hc]
  case quieting => by_cases hc : code = goingQuietCode <;> simp [Station.delivered, h, hc]
  all_goals simp [Station.delivered, h]

/-- The readings that pass the gate (R34): the station is ACTIVE before the verdict or by it, and the code uses
its reading. -/
theorem Station.passes_iff :
    x.passes (x.afterVerdict round f hA hB) f = true ↔
      (x.live = .active ∨ (x.live = .warming ∧ x.warm ≤ 1) ∨ (x.live = .suspect ∧ x.warm ≤ 1)
        ∨ (x.live = .quieting ∧ f.code ≠ 15)) ∧ (f.code = 0 ∨ f.code = 2 ∨ f.code = 4 ∨ f.code = 15) := by
  have used : codeUsesReading f.code = true ↔ f.code = 0 ∨ f.code = 2 ∨ f.code = 4 ∨ f.code = 15 := by
    simp [codeUsesReading, or_assoc]
  have open_ : readingGate x.live (x.delivered round f.code).live = true ↔
      (x.live = .active ∨ (x.live = .warming ∧ x.warm ≤ 1) ∨ (x.live = .suspect ∧ x.warm ≤ 1)
        ∨ (x.live = .quieting ∧ f.code ≠ 15)) := by
    cases h : x.live
    case heard => by_cases hw : x.inGrantWindow round = true <;> simp [readingGate, Station.delivered, h, hw]
    case warming => by_cases hw : x.warm ≤ 1 <;> simp [readingGate, Station.delivered, h, hw]
    case suspect => by_cases hw : x.warm ≤ 1 <;> simp [readingGate, Station.delivered, h, hw]
    case quieting =>
      by_cases hc : f.code = 15 <;> simp [readingGate, Station.delivered, h, hc, goingQuietCode]
    all_goals simp [readingGate, Station.delivered, h]
  rw [Station.passes, Bool.and_eq_true, used]
  exact and_congr_left' open_

end

/-! ## The coordinator -/

/-- The state at the end of a slot with its verdict noted for the ring-break estimate (R13). -/
def State.atVerdict (n : Nat) (p : Progress) (x : Station) (hA hB : Bool) (s : State) : State :=
  (s.atSlotEnd n p).noteVerdict { ring := x.cfg.ring, heardA := hA, heardB := hB }

/-- A station after a delivered verdict, its reading handed on where it passes the gate (R34, R37). -/
def Station.afterSlot (round : Round) (f : StationFrame) (hA hB : Bool) (x : Station) : Station :=
  if x.passes (x.afterVerdict round f hA hB) f then (x.afterVerdict round f hA hB).handed f.reading
  else x.afterVerdict round f hA hB

/-- The reading that is handed on takes the fresh mark and nothing else. -/
theorem Station.afterSlot_eq (round : Round) (f : StationFrame) (hA hB : Bool) (x : Station) :
    x.afterSlot round f hA hB =
      { x.afterVerdict round f hA hB with fresh := (x.afterSlot round f hA hB).fresh } := by
  unfold Station.afterSlot
  split
  · cases f.reading <;> rfl
  · rfl

section
variable {s : State} {p : Progress} {n : Nat} {x : Station} {f : StationFrame} {hA hB : Bool}

/-- The end of a slot whose sides merge into a delivered verdict (R9, R13). -/
theorem State.endSlot_delivered (hr : s.flc.mode.runs = true) (hp : s.flc.progress = some p)
    (hw : p.inWindow (.slot n) = true) (hn : n ≤ 48) (hx : s.station n = some x)
    (hv : mergeCopies (s.flc.validCopy n .a) (s.flc.validCopy n .b) = .delivered f hA hB) :
    s.endSlot n = (s.atVerdict n p x hA hB).delivered n f hA hB := by
  rw [State.endSlot_configured hr hp hw hn hx, hv]
  rfl

/-- What a delivered verdict does to the SRG. -/
theorem State.delivered_srg (hx : s.station n = some x) :
    (s.delivered n f hA hB).station n = some (x.afterSlot s.flc.round f hA hB)
    ∧ (∀ m, m ≠ n → (s.delivered n f hA hB).station m = s.station m)
    ∧ (s.delivered n f hA hB).srg.queue = s.srg.queue
    ∧ (s.delivered n f hA hB).srg.strangers = s.srg.strangers
    ∧ (s.delivered n f hA hB).srg.revocations =
        if x.holdsGrant then s.srg.revocations else appendNew n s.srg.revocations := by
  obtain ⟨entered, others⟩ := State.enterVerdict_station (y := x.afterVerdict s.flc.round f hA hB) hx
    (Station.afterVerdict_cfg _)
  have srg := State.enterVerdict_srg s n x (x.afterVerdict s.flc.round f hA hB)
  have revoked : (if x.answeredByRevocation then appendNew n s.srg.revocations else s.srg.revocations)
      = if x.holdsGrant then s.srg.revocations else appendNew n s.srg.revocations := by
    rw [Station.answeredByRevocation_eq]
    cases x.holdsGrant <;> rfl
  rw [State.delivered_eq hx rfl, Station.afterSlot]
  split
  · obtain ⟨hq, hs, hv, -, hn⟩ := State.handOff_srg (n := n) f.code f.reading
      (x.afterVerdict s.flc.round f hA hB).fresh (s.enterVerdict n x (x.afterVerdict s.flc.round f hA hB))
    refine ⟨?_, fun m hm => ?_, ?_, ?_, ?_⟩
    · rw [hn, if_pos rfl, entered]; rfl
    · rw [hn, if_neg hm, others m hm]
    · rw [hq, srg]
    · rw [hs, srg]
    · rw [hv, srg, revoked]
  · refine ⟨entered, others, ?_, ?_, ?_⟩
    · rw [srg]
    · rw [srg]
    · rw [srg, revoked]

/-- A reading that does not pass the gate reaches nothing (R34). -/
theorem State.delivered_shut (hx : s.station n = some x)
    (hg : x.passes (x.afterVerdict s.flc.round f hA hB) f = false) :
    (s.delivered n f hA hB).wgt = s.wgt ∧ (s.delivered n f hA hB).spm = s.spm := by
  have keeps := State.enterVerdict_keeps s n x (x.afterVerdict s.flc.round f hA hB)
  rw [State.delivered_eq hx rfl, hg]
  exact ⟨keeps.wgt (by decide), keeps.spm (by decide)⟩

end

/-- Settles O12: the station's entry by its state, the revocation by its grant, the frame by the gate. -/
theorem deliveredSlotsMoveTheStation : Obligations.DeliveredSlotsMoveTheStation := by
  intro s p n x f hA hB hr hp hw hn hx hv
  have ended := State.endSlot_delivered hr hp hw hn hx hv
  have keeps := State.delivered_keeps n f hA hB (s.atVerdict n p x hA hB)
  obtain ⟨hstation, hothers, hqueue, hstrangers, hrevocations⟩ :=
    State.delivered_srg (s := s.atVerdict n p x hA hB) (f := f) (hA := hA) (hB := hB) hx
  obtain ⟨hgrant, hheardA, hheardB⟩ := Station.delivered_kept (x := x) (round := s.flc.round) (code := f.code)
  have after := Station.afterSlot_eq s.flc.round f hA hB x
  rw [← ended] at keeps hstation hothers hqueue hstrangers hrevocations
  refine ⟨s.endSlot n, x.afterSlot s.flc.round f hA hB, rfl, State.endSlot_keeps n s, State.endSlot_quiet n s,
    keeps.now (by decide), by rw [keeps.flc (by decide)]; rfl, by rw [keeps.flc (by decide)]; rfl,
    hstation, hothers, ?_, hqueue, hstrangers, ?_⟩
  · rw [after]; exact Station.afterVerdict_cfg (hA := hA) (hB := hB) _
  have live : (x.afterSlot s.flc.round f hA hB).live = (x.delivered s.flc.round f.code).live := by rw [after]; rfl
  have warm : (x.afterSlot s.flc.round f hA hB).warm = (x.delivered s.flc.round f.code).warm := by rw [after]; rfl
  have missed : (x.afterSlot s.flc.round f hA hB).missed = (x.delivered s.flc.round f.code).missed := by
    rw [after]; rfl
  refine ⟨by rw [after]; rfl, by rw [after]; exact hgrant, ?_, ?_, ?_⟩
  · rw [after]
    exact congrArg (fun r => if hA then some s.flc.round else r) hheardA
  · rw [after]
    exact congrArg (fun r => if hB then some s.flc.round else r) hheardB
  rw [live, warm, missed]
  refine ⟨?_, ?_, ?_, ?_, ?_, ?_, ?_, ?_, ?_, ?_, ?_, ?_, ?_, ?_⟩
  · intro hl hwarm; simp [Station.delivered, hl, Nat.not_le.mpr hwarm]
  · intro hl hwarm; simp [Station.delivered, hl, hwarm]
  · intro hl hc; simp [Station.delivered, hl, hc, goingQuietCode]
  · intro hl hc; simp [Station.delivered, hl, hc, goingQuietCode]
  · intro hl hwarm; simp [Station.delivered, hl, Nat.not_le.mpr hwarm]
  · intro hl hwarm; simp [Station.delivered, hl, hwarm]
  · intro hl hc; simp [Station.delivered, hl, hc, goingQuietCode]
  · intro hl hc; simp [Station.delivered, hl, hc, goingQuietCode]
  · intro hl hg; simp [Station.delivered, hl, hg]
  · intro hl hg; simp [Station.delivered, hl, hg]
  · rintro (hl | hl | hl) <;> simp [Station.delivered, hl]
  · intro hg; rw [hrevocations, hg]; rfl
  · intro hg; rw [hrevocations, hg]; rfl
  · intro hb ha
    have shut : x.passes (x.afterVerdict s.flc.round f hA hB) f = false := by
      have after : (x.afterVerdict s.flc.round f hA hB).live ≠ .active := ha
      simp [Station.passes, readingGate, hb, after]
    rw [ended]
    exact State.delivered_shut (s := s.atVerdict n p x hA hB) hx shut

/-! ## The reading -/

section
variable {s : State} {n : Nat} {x : Station} {f : StationFrame} {hA hB : Bool}

/-- A reading that passes the gate is handed on from a state with the masts, gauges and monitors of `s` (R37). -/
theorem State.delivered_open (hx : s.station n = some x)
    (hg : x.passes (x.afterVerdict s.flc.round f hA hB) f = true) :
    ∃ u : State, u.wgt = s.wgt ∧ u.spm = s.spm ∧ u.flc = s.flc ∧ s.delivered n f hA hB =
      u.handOff n f.code f.reading (x.afterVerdict s.flc.round f hA hB).fresh := by
  have keeps := State.enterVerdict_keeps s n x (x.afterVerdict s.flc.round f hA hB)
  refine ⟨_, keeps.wgt (by decide), keeps.spm (by decide), keeps.flc (by decide), ?_⟩
  rw [State.delivered_eq hx rfl, hg]
  rfl

end

/-- A mast that takes a reading (R46). -/
theorem Mast.take_spec (r : MastReading) (fresh : Bool) (m : Mast) :
    (Mast.take r fresh m).reading = some r ∧ (Mast.take r fresh m).slot = m.slot
    ∧ (Mast.take r fresh m).heater = m.heater ∧ (Mast.take r fresh m).summary = m.summary
    ∧ (fresh = true → (Mast.take r fresh m).ring = List.replicate 12 none ∧ (Mast.take r fresh m).acc = none
        ∧ (Mast.take r fresh m).disagree = 0)
    ∧ (fresh = false → (Mast.take r fresh m).ring = m.ring ∧ (Mast.take r fresh m).acc = m.acc
        ∧ (Mast.take r fresh m).disagree = m.disagree) := by
  cases fresh
  · exact ⟨rfl, rfl, rfl, rfl, fun h => absurd h (by decide), fun _ => ⟨rfl, rfl, rfl⟩⟩
  · exact ⟨rfl, rfl, rfl, rfl, fun _ => ⟨rfl, rfl, rfl⟩, fun h => absurd h (by decide)⟩

end Sys2Proof.Machine

namespace Sys2Proof.Machine

/-- The masts after a MAST reading (R37, R46). -/
theorem State.handOff_mast (u : State) (n code speed direction : Nat) (fresh : Bool) :
    (∀ m, u.mast n = some m → (u.handOff n code (.mast speed direction) fresh).mast n =
      some (Mast.take { speed := if code = 4 then 750 else min 750 speed, direction := direction,
                        heater := decide (code = 2) } fresh m))
    ∧ ∀ k, k ≠ n → (u.handOff n code (.mast speed direction) fresh).mast k = u.mast k := by
  have found : ∀ k, (u.handOff n code (.mast speed direction) fresh).mast k = _ := fun k =>
    State.mast_updMast u n k _ fun m => (Mast.take_spec _ fresh m).2.1
  refine ⟨fun m hm => ?_, fun k hk => (found k).trans (if_neg hk)⟩
  rw [found, if_pos rfl, hm]
  rfl

/-- Settles O15: the gate, and then the three kinds of reading. -/
theorem readingsAreHandedOn : Obligations.ReadingsAreHandedOn := by
  intro s p n x f hA hB gate fresh hr hp hw hn hx hv hgate hfresh
  have ended := State.endSlot_delivered hr hp hw hn hx hv
  obtain ⟨hstation, -⟩ := State.delivered_srg (s := s.atVerdict n p x hA hB) (f := f) (hA := hA) (hB := hB) hx
  rw [← ended] at hstation
  have passes : x.passes (x.afterVerdict s.flc.round f hA hB) f = gate := by
    rw [hgate, Bool.eq_iff_iff, decide_eq_true_iff]
    exact Station.passes_iff
  have mark : (x.afterVerdict s.flc.round f hA hB).fresh = fresh := hfresh ▸ Station.delivered_fresh
  refine ⟨s.endSlot n, x.afterSlot s.flc.round f hA hB, rfl, hstation, ?_, ?_, ?_, ?_⟩
  · rintro rfl
    obtain ⟨wgt, spm⟩ := State.delivered_shut (s := s.atVerdict n p x hA hB) hx passes
    rw [ended, Station.afterSlot, passes]
    exact ⟨wgt, spm, mark⟩
  all_goals
    rintro rfl
    obtain ⟨u, wgt, spm, flc, handed⟩ := State.delivered_open (s := s.atVerdict n p x hA hB) hx passes
    have round : u.flc.round = s.flc.round := by rw [flc]; rfl
    rw [ended, handed, Station.afterSlot, passes]
    rw [show (s.atVerdict n p x hA hB).wgt = s.wgt from rfl] at wgt
    rw [show (s.atVerdict n p x hA hB).spm = s.spm from rfl] at spm
    rw [show (x.afterVerdict (s.atVerdict n p x hA hB).flc.round f hA hB).fresh = fresh from mark]
  · intro speed direction hreading
    obtain ⟨same, other⟩ := State.handOff_mast u n f.code speed direction fresh
    rw [hreading]
    refine ⟨rfl, spm, by rw [← wgt]; rfl, fun k hk => ?_, fun m hm => ?_⟩
    · rw [other k hk, State.mast, wgt, State.mast]
    · rw [State.mast, ← wgt] at hm
      obtain ⟨hreading, -, hrest⟩ := Mast.take_spec _ fresh m
      exact ⟨_, same m hm, hreading, hrest⟩
  · intro conc hreading
    rw [hreading]
    refine ⟨mark, wgt, by rw [← spm]; rfl, fun k hk => ?_, fun m hm => ?_⟩
    · refine (State.monitor_takeDust ..).trans ((if_neg hk).trans ?_)
      rw [State.monitor, spm, State.monitor]
    · refine (State.monitor_takeDust ..).trans ((if_pos rfl).trans ?_)
      rw [State.monitor, spm, ← State.monitor, hm, round]
      rfl
  · intro humidity rain hreading
    rw [hreading]
    refine ⟨mark, wgt, by rw [← spm]; rfl, fun k hk => ?_, fun g hg => ?_⟩
    · refine (State.gauge_takeGauge ..).trans ((if_neg hk).trans ?_)
      rw [State.gauge, spm, State.gauge]
    · refine (State.gauge_takeGauge ..).trans ((if_pos rfl).trans ?_)
      rw [State.gauge, spm, ← State.gauge, hg, round]
      rfl

end Sys2Proof.Machine

/-! # ACK LOSS (R39) -/

namespace Sys2Proof.Machine

/-- The notice ACK_LOSS of a station as it stands after the command (R39, R41). -/
def Station.ackNotice (n : Nat) (round : Round) (y : Station) : Notice :=
  .station { slot := n, identity := y.cfg.identity, kind := y.cfg.kind, cause := .ackLoss, live := y.live,
             missed := y.missed, code := y.code, round := round }

section
variable {s : State} {n : Nat} {x : Station}

/-- A station that ACK LOSS makes SILENT. -/
theorem State.ackToSilent_spec (hx : s.station n = some x) :
    (s.ackToSilent n).station n = some { x with live := .silent, missed := 0 }
    ∧ (∀ m, m ≠ n → (s.ackToSilent n).station m = s.station m)
    ∧ (s.ackToSilent n).srg.queue = s.srg.queue
    ∧ (s.ackToSilent n).srg.revocations = s.srg.revocations
    ∧ (s.ackToSilent n).srg.strangers = s.srg.strangers
    ∧ (s.ackToSilent n).now = s.now
    ∧ (s.ackToSilent n).pif =
        (s.raise .routine (Station.ackNotice n s.flc.round { x with live := .silent, missed := 0 })).pif := by
  obtain ⟨hn, ho⟩ := State.updStation_at (f := fun x => { x with live := .silent, missed := 0 }) (fun _ => rfl) hx
  rw [State.ackToSilent, State.raiseStation_configured _ _ hn]
  exact ⟨hn, ho, rfl, rfl, rfl, rfl, rfl⟩

/-- A station that ACK LOSS puts into the admission queue. -/
theorem State.ackToQueue_spec (hx : s.station n = some x) :
    (s.ackToQueue n).station n = some x.queued
    ∧ (∀ m, m ≠ n → (s.ackToQueue n).station m = s.station m)
    ∧ (s.ackToQueue n).srg.queue = s.srg.queue ++ [n]
    ∧ (s.ackToQueue n).srg.revocations = s.srg.revocations
    ∧ (s.ackToQueue n).srg.strangers = s.srg.strangers
    ∧ (s.ackToQueue n).now = s.now
    ∧ (s.ackToQueue n).pif = (s.raise .routine (x.queued.ackNotice n s.flc.round)).pif := by
  obtain ⟨hn, ho⟩ := State.updStation_at (f := Station.queued) (fun _ => rfl) hx
  have configured : ((s.updStation n Station.queued).enqueue n).station n = some x.queued := hn
  rw [State.ackToQueue, State.raiseStation_configured _ _ configured]
  exact ⟨hn, ho, rfl, rfl, rfl, rfl, rfl⟩

end

/-- ACK LOSS from the port of a master that may issue it (R175). -/
theorem exec_ackLoss {port : Port} {tag : Byte} (slot : Byte) (s : State) (ht : tag ≠ 0) (hp : port ≠ .s) :
    exec (.ackLoss port tag slot) s =
      .next (ackLossCommand slot (rowAsked s port tag (.ackLoss slot))
        (s.held port ((Command.ackLoss slot).content tag))) :=
  exec_runs port tag (.ackLoss slot) s ht rfl (by cases port <;> first | rfl | exact absurd rfl hp)

section
variable {s : State} {slot : Byte} {a : Asked} {x : Station}

theorem ackLossCommand_absent (hr : 1 ≤ slot.toNat ∧ slot.toNat ≤ 48) (hx : s.station slot.toNat = none) :
    ackLossCommand slot a s = s.reply a .unknownItem [] := by
  simp [ackLossCommand, inRange, hr, hx]

theorem ackLossCommand_silent (hr : 1 ≤ slot.toNat ∧ slot.toNat ≤ 48) (hx : s.station slot.toNat = some x)
    (hl : x.live = .lost ∨ (x.live = .returned ∧ 8 ≤ s.srg.queue.length)) :
    ackLossCommand slot a s = (s.ackToSilent slot.toNat).reply a .done [] := by
  rcases hl with hl | ⟨hl, hq⟩
  · simp [ackLossCommand, inRange, hr, hx, hl]
  · simp [ackLossCommand, inRange, hr, hx, hl, Nat.not_lt.mpr hq]

theorem ackLossCommand_queue (hr : 1 ≤ slot.toNat ∧ slot.toNat ≤ 48) (hx : s.station slot.toNat = some x)
    (hl : x.live = .returned) (hq : s.srg.queue.length < 8) :
    ackLossCommand slot a s = (s.ackToQueue slot.toNat).reply a .done [] := by
  simp [ackLossCommand, inRange, hr, hx, hl, hq]

theorem ackLossCommand_refused (hr : 1 ≤ slot.toNat ∧ slot.toNat ≤ 48) (hx : s.station slot.toNat = some x)
    (hlost : x.live ≠ .lost) (hreturned : x.live ≠ .returned) :
    ackLossCommand slot a s = s.reply a .refusedState [] := by
  cases hl : x.live with
  | lost => exact absurd hl hlost
  | returned => exact absurd hl hreturned
  | _ => simp [ackLossCommand, inRange, hr, hx, hl]

end

/-- Settles O34: the range, the slot, and the state of its station. -/
theorem ackLossReadmitsTheStation : Obligations.AckLossReadmitsTheStation := by
  intro s port tag slot ht
  have stations : ∀ m, (s.held port ((Command.ackLoss slot).content tag)).station m = s.station m :=
    State.station_congr (State.held_srg ..)
  refine ⟨fun hp => ?_, fun hp hr => ?_, fun hp hlow hhigh => ⟨fun x hx hl => ?_, fun x hx hl hq => ?_,
    fun x hx hlost hreturned => ?_, fun hx => ?_⟩⟩
  · subst hp
    exact ⟨_, exec_refusedRole .s tag (.ackLoss slot) s ht rfl rfl, .plain ..⟩
  · refine ⟨_, exec_ackLoss slot s ht hp, ?_⟩
    have outside : inRange 1 48 slot.toNat = false := by simp [inRange]; omega
    rw [ackLossCommand, outside]
    exact .plain ..
  · refine ⟨_, exec_ackLoss slot s ht hp, ?_⟩
    have hx' := (stations slot.toNat).trans hx
    obtain ⟨hn, ho, hqueue, hrevocations, hstrangers, hnow, hpif⟩ := State.ackToSilent_spec hx'
    rw [ackLossCommand_silent ⟨hlow, hhigh⟩ hx' (by rw [State.held_srg]; exact hl)]
    rw [State.held_srg] at hqueue hrevocations hstrangers
    rw [State.held_flc] at hpif
    exact ⟨.ofReply ((State.ackToSilent_keeps ..).mono (by decide)) (State.ackToSilent_quiet ..), hn,
      fun m hm => (ho m hm).trans (stations m), hqueue, hrevocations, hstrangers,
      State.reply_pif_congr _ _ _ hpif hnow⟩
  · refine ⟨_, exec_ackLoss slot s ht hp, ?_⟩
    have hx' := (stations slot.toNat).trans hx
    obtain ⟨hn, ho, hqueue, hrevocations, hstrangers, hnow, hpif⟩ := State.ackToQueue_spec hx'
    rw [ackLossCommand_queue ⟨hlow, hhigh⟩ hx' hl (by rw [State.held_srg]; exact hq)]
    rw [State.held_srg] at hqueue hrevocations hstrangers
    rw [State.held_flc] at hpif
    exact ⟨.ofReply ((State.ackToQueue_keeps ..).mono (by decide)) (State.ackToQueue_quiet ..), hn,
      fun m hm => (ho m hm).trans (stations m), hqueue, hrevocations, hstrangers,
      State.reply_pif_congr _ _ _ hpif hnow⟩
  · refine ⟨_, exec_ackLoss slot s ht hp, ?_⟩
    rw [ackLossCommand_refused ⟨hlow, hhigh⟩ ((stations _).trans hx) hlost hreturned]
    exact .plain ..
  · refine ⟨_, exec_ackLoss slot s ht hp, ?_⟩
    rw [ackLossCommand_absent ⟨hlow, hhigh⟩ ((stations _).trans hx)]
    exact .plain ..

end Sys2Proof.Machine

/-! # The announces of a round (R10, R27, R31, R38) -/

namespace Sys2Proof.Machine

/-! ## The merge by identity (R10) -/

/-- The first copies stand in the order of the copies: before each one no copy of a later one's identity. -/
theorem firstCopies_ordered : ∀ (l : List AnnounceCopy) (seen : List Identity),
    (firstCopies l seen).Pairwise (fun x y => x.identity ≠ y.identity
      ∧ ∃ before after, l = before ++ x :: after ∧ ∀ z ∈ before, z.identity ≠ y.identity)
  | [], _ => by simp [firstCopies]
  | c :: l, seen => by
    have behind : ∀ {seen' : List Identity}, c.identity ∈ seen' →
        (firstCopies l seen').Pairwise (fun x y => x.identity ≠ y.identity
          ∧ ∃ before after, c :: l = before ++ x :: after ∧ ∀ z ∈ before, z.identity ≠ y.identity) := by
      intro seen' hc
      refine (firstCopies_ordered l seen').imp_of_mem fun _ hy hxy => ?_
      obtain ⟨hne, before, after, hl, hb⟩ := hxy
      refine ⟨hne, c :: before, after, by rw [hl]; rfl, fun z hz => ?_⟩
      rcases List.mem_cons.mp hz with rfl | hz
      · exact fun e => (mem_of_mem_firstCopies hy).2 (e ▸ hc)
      · exact hb z hz
    by_cases hc : c.identity ∈ seen
    · rw [firstCopies, if_pos hc]
      exact behind hc
    · rw [firstCopies, if_neg hc]
      refine List.pairwise_cons.mpr ⟨fun y hy => ⟨fun e => ?_, [], l, rfl, by simp⟩,
        behind (List.mem_cons_self ..)⟩
      exact (mem_of_mem_firstCopies hy).2 (e ▸ List.mem_cons_self ..)

/-- An announce carries the identity of its copies. -/
theorem announceOf_identity {l : List AnnounceCopy} {x : AnnounceCopy} {a : Announce}
    (h : announceOf l x = some a) : a.identity = x.identity := by
  unfold announceOf at h
  split at h
  · exact (Option.some.inj h) ▸ rfl
  · split at h
    · exact (Option.some.inj h) ▸ rfl
    · exact absurd h (by simp)

section
variable {l : List AnnounceCopy} {x : AnnounceCopy} {a : Announce}

/-- The copies of an identity are one of them and the one on the other side. -/
theorem eq_or_otherCopy (h : CopiesDistinct l) (hx : x ∈ l) {y : AnnounceCopy} :
    y ∈ l ∧ y.identity = x.identity ↔ y = x ∨ otherCopy l x = some y := by
  constructor
  · rintro ⟨hy, hi⟩
    by_cases hs : y.side = x.side
    · exact .inl (eq_of_copiesDistinct h hy hx hs hi)
    · exact .inr (otherCopy_eq h hy hi hs)
  · rintro (rfl | ho)
    · exact ⟨hx, rfl⟩
    · obtain ⟨hy, hi, -⟩ := otherCopy_some ho
      exact ⟨hy, hi⟩

/-- The announce of a copy: its identity, the one kind of all its copies, and the sides they came on (R10). -/
theorem announceOf_eq_some (h : CopiesDistinct l) (hx : x ∈ l) :
    announceOf l x = some a ↔ a.identity = x.identity
      ∧ (∀ y ∈ l, y.identity = x.identity → y.kind = a.kind)
      ∧ (a.heardA = true ↔ ∃ y ∈ l, y.identity = x.identity ∧ y.side = .a)
      ∧ (a.heardB = true ↔ ∃ y ∈ l, y.identity = x.identity ∧ y.side = .b) := by
  have every : ∀ P : AnnounceCopy → Prop, (∀ y ∈ l, y.identity = x.identity → P y) ↔
      P x ∧ ∀ y, otherCopy l x = some y → P y := fun P => by
    simp only [← and_imp, eq_or_otherCopy h hx, or_imp, forall_and, forall_eq]
  have some_ : ∀ P : AnnounceCopy → Prop, (∃ y ∈ l, y.identity = x.identity ∧ P y) ↔
      P x ∨ ∃ y, otherCopy l x = some y ∧ P y := fun P => by
    simp only [← and_assoc, eq_or_otherCopy h hx, or_and_right, exists_or, exists_eq_left]
  rw [every, some_, some_, announceOf]
  obtain ⟨i, k, A, B⟩ := a
  cases ho : otherCopy l x with
  | none =>
    have onA : (Side.b == Side.a) = false := rfl
    have onB : (Side.a == Side.b) = false := rfl
    cases x.side <;> simp [onA, onB, eq_comm (a := i)]
  | some z =>
    obtain ⟨-, -, hs⟩ := otherCopy_some ho
    by_cases hk : z.kind = x.kind
    · have both : (x.side = .a ∨ z.side = .a) ∧ (x.side = .b ∨ z.side = .b) := by
        revert hs
        cases x.side <;> cases z.side <;> simp
      simp [hk, both, eq_comm (a := i)]
    · simp only [reduceCtorEq, Option.some.injEq, if_neg hk, forall_eq', false_iff]
      exact fun ⟨_, hkinds, _⟩ => hk (hkinds.2.trans hkinds.1.symm)

/-- The announces of a round (R10). -/
theorem mem_mergedAnnounces (h : CopiesDistinct l) :
    a ∈ mergedAnnounces l ↔ (∃ x ∈ l, x.identity = a.identity)
      ∧ (∀ x ∈ l, x.identity = a.identity → x.kind = a.kind)
      ∧ (a.heardA = true ↔ ∃ x ∈ l, x.identity = a.identity ∧ x.side = .a)
      ∧ (a.heardB = true ↔ ∃ x ∈ l, x.identity = a.identity ∧ x.side = .b) := by
  rw [mergedAnnounces, List.mem_filterMap]
  constructor
  · rintro ⟨x, hx, ha⟩
    have hm := (mem_of_mem_firstCopies hx).1
    obtain ⟨hi, rest⟩ := (announceOf_eq_some h hm).mp ha
    rw [hi]
    exact ⟨⟨x, hm, rfl⟩, rest⟩
  · rintro ⟨⟨y, hy, hi⟩, rest⟩
    obtain ⟨x, hx, hxi⟩ := exists_firstCopy (seen := []) hy (by simp)
    have hi := hxi.trans hi
    rw [← hi] at rest
    exact ⟨x, hx, (announceOf_eq_some h (mem_of_mem_firstCopies hx).1).mpr ⟨hi.symm, rest⟩⟩

/-- The announces stand in the order of the first copies of their identities (R10). -/
theorem mergedAnnounces_ordered (l : List AnnounceCopy) :
    (mergedAnnounces l).Pairwise (fun a b => a.identity ≠ b.identity
      ∧ ∃ before x after, l = before ++ x :: after ∧ x.identity = a.identity
        ∧ ∀ y ∈ before, y.identity ≠ b.identity) := by
  rw [mergedAnnounces, List.pairwise_filterMap]
  refine (firstCopies_ordered l []).imp ?_
  rintro x y ⟨hne, before, after, hl, hb⟩ a ha b hb'
  rw [announceOf_identity ha, announceOf_identity hb']
  exact ⟨hne, before, x, after, hl, rfl, hb⟩

end

end Sys2Proof.Machine

/-! # The announces and the grant lapses at the registry (R27, R31, R38) -/

namespace Sys2Proof.Machine

/-! ## A stranger's announce (R38) -/

section
variable {s : State} {a : Announce}

/-- An announce whose identity no entry has is a stranger's. -/
theorem State.takeAnnounce_stranger (h : ∀ x ∈ s.srg.stations, x.cfg.identity ≠ a.identity) :
    s.takeAnnounce a = s.strangerAnnounce a := by
  have absent : s.stationWith a.identity = none :=
    List.find?_eq_none.mpr fun x hx => by simpa using h x hx
  rw [State.takeAnnounce, absent]

/-- The record of a stranger that announces itself again. -/
theorem State.strangerAnnounce_known (h : ∃ r ∈ s.srg.strangers, r.identity = a.identity) :
    s.strangerAnnounce a = { s with srg := { s.srg with
      strangers := s.srg.strangers.map (fun r =>
        if r.identity = a.identity then { r with kind := a.kind, last := s.flc.round, count := min 255 (r.count + 1) }
        else r) } } := by
  have listed : s.srg.strangers.any (fun r => r.identity == a.identity) = true := by simpa using h
  rw [State.strangerAnnounce, if_pos listed]
  rfl

section
variable {new : Stranger} (h : ∀ r ∈ s.srg.strangers, r.identity ≠ a.identity)
  (hn : new = { identity := a.identity, kind := a.kind, firstEpoch := s.wrl.epoch,
                firstRound := s.flc.round, last := s.flc.round, count := 1 })
include h hn

/-- A stranger that joins the list. -/
theorem State.strangerAnnounce_joins (hl : s.srg.strangers.length < 8) :
    s.strangerAnnounce a = ({ s with srg := { s.srg with strangers := s.srg.strangers ++ [new] } }).raise .routine
      (.stranger { identity := a.identity, kind := a.kind, removed := none }) := by
  have unlisted : ¬ s.srg.strangers.any (fun r => r.identity == a.identity) = true := by simpa using h
  rw [State.strangerAnnounce, if_neg unlisted, hn]
  simp [Nat.not_le.mpr hl]

/-- A stranger that joins the list in place of the one first heard. -/
theorem State.strangerAnnounce_replaces {first : Stranger} {rest : List Stranger}
    (hl : 8 ≤ s.srg.strangers.length) (hs : s.srg.strangers = first :: rest) :
    s.strangerAnnounce a = ({ s with srg := { s.srg with strangers := rest ++ [new] } }).raise .routine
      (.stranger { identity := a.identity, kind := a.kind, removed := some first.identity }) := by
  have unlisted : ¬ s.srg.strangers.any (fun r => r.identity == a.identity) = true := by simpa using h
  rw [State.strangerAnnounce, if_neg unlisted, hn]
  simp [hs, show 7 ≤ rest.length by simpa [hs] using hl]

end

/-! ## The announce of a configured station (R27) -/

variable {x : Station} (ht : s.TablesOk) (hx : x ∈ s.srg.stations) (hi : x.cfg.identity = a.identity)
  (hu : ∀ y ∈ s.srg.stations, y.cfg.identity = a.identity → y = x)

include hx hi hu in
/-- The one station of an identity is the one that an announce finds. -/
theorem State.stationWith_of_unique : s.stationWith a.identity = some x := by
  cases hf : s.stationWith a.identity with
  | none => exact absurd (List.find?_eq_none.mp hf x hx) (by simp [hi])
  | some y => rw [hu y (List.mem_of_find?_eq_some hf) (by simpa using List.find?_some hf)]

include ht hx in
/-- A configured station stands in its slot. -/
theorem State.station_of_mem : s.station x.cfg.slot = some x := findKey_of_mem ht.stations hx

include ht hx hi hu in
/-- An announce of another kind than the configured one. -/
theorem State.takeAnnounce_mismatch (hk : x.cfg.kind ≠ a.kind) :
    s.takeAnnounce a = s.raise .routine
      (.station { slot := x.cfg.slot, identity := x.cfg.identity, kind := x.cfg.kind,
                  cause := .kindMismatch, live := x.live, missed := x.missed, code := x.code,
                  round := s.flc.round }) := by
  rw [State.takeAnnounce, State.stationWith_of_unique hx hi hu,
    ← State.raiseStation_configured _ _ (State.station_of_mem ht hx)]
  exact if_pos hk

include hx hi hu in
/-- A SILENT station with room in the queue. -/
theorem State.takeAnnounce_queued (hk : x.cfg.kind = a.kind) (hl : x.live = .silent)
    (hq : s.srg.queue.length < 8) :
    s.takeAnnounce a =
      ((s.updStation x.cfg.slot (Station.announced s.flc.round a)).updStation x.cfg.slot Station.queued).enqueue
        x.cfg.slot := by
  simp [State.takeAnnounce, State.stationWith_of_unique hx hi hu, hk, hl, hq]

include hx hi hu in
/-- A LOST station. -/
theorem State.takeAnnounce_returned (hk : x.cfg.kind = a.kind) (hl : x.live = .lost) :
    s.takeAnnounce a =
      ((s.updStation x.cfg.slot (Station.announced s.flc.round a)).updStation x.cfg.slot
        (fun x => { x with live := .returned })).raiseStation .urgent .returned x.cfg.slot := by
  simp [State.takeAnnounce, State.stationWith_of_unique hx hi hu, hk, hl]

include hx hi hu in
/-- A station that is only heard. -/
theorem State.takeAnnounce_heard (hk : x.cfg.kind = a.kind)
    (hs : ¬ (x.live = .silent ∧ s.srg.queue.length < 8)) (hl : x.live ≠ .lost) :
    s.takeAnnounce a = s.updStation x.cfg.slot (Station.announced s.flc.round a) := by
  have found := State.stationWith_of_unique hx hi hu
  cases h : x.live with
  | silent => simp [State.takeAnnounce, found, hk, h, show ¬ s.srg.queue.length < 8 from fun hq => hs ⟨h, hq⟩]
  | lost => exact absurd h hl
  | _ => simp [State.takeAnnounce, found, hk, h]

end

/-- A station whose entry changes twice. -/
theorem State.updStation_twice {s : State} {n : Nat} {x : Station} {f g : Station → Station}
    (hf : ∀ z, (f z).cfg.slot = z.cfg.slot) (hg : ∀ z, (g z).cfg.slot = z.cfg.slot) (hx : s.station n = some x) :
    ((s.updStation n f).updStation n g).station n = some (g (f x))
      ∧ ∀ m, m ≠ n → ((s.updStation n f).updStation n g).station m = s.station m := by
  obtain ⟨first, others⟩ := State.updStation_at hf hx
  obtain ⟨second, others'⟩ := State.updStation_at hg first
  exact ⟨second, fun m hm => (others' m hm).trans (others m hm)⟩

/-! ## The grants that lapse (R31) -/

/-- A station after a lapse check. -/
def Station.afterLapse (round : Round) (x : Station) : Station :=
  if x.lapses round then { x with live := .silent, grant := none } else x

/-- The lapse of a grant (R31): HEARD, with a grant round 3 or more rounds back. -/
theorem Station.lapses_iff {x : Station} {round : Round} :
    x.lapses round = true ↔ x.live = .heard ∧ ∃ g, x.grant = some g ∧ 3 ≤ (round - g).toNat := by
  unfold Station.lapses
  split
  · rename_i g hl hg; simp only [hl, hg, true_and, Option.some.injEq, exists_eq_left']
    exact decide_eq_true_iff
  · rename_i h
    simp only [Bool.false_eq_true, false_iff]
    rintro ⟨hl, g, hg, -⟩
    exact h g hl hg

/-- A station that has been checked does not lapse again. -/
theorem Station.afterLapse_lapses (round : Round) (x : Station) : (x.afterLapse round).lapses round = false := by
  unfold Station.afterLapse
  split
  · rfl
  · rename_i h; simpa using h

/-- A second check changes nothing. -/
theorem Station.afterLapse_afterLapse (round : Round) (x : Station) :
    (x.afterLapse round).afterLapse round = x.afterLapse round :=
  if_neg (by simp [Station.afterLapse_lapses])

theorem mem_appendNew {m n : Nat} {l : List Nat} : m ∈ appendNew n l ↔ m ∈ l ∨ m = n := by
  unfold appendNew
  split
  · rename_i h; exact (or_iff_left_of_imp (fun e => e ▸ h)).symm
  · simp

theorem prefix_appendNew {n : Nat} {l : List Nat} : l <+: appendNew n l := by
  unfold appendNew
  split
  · exact List.prefix_rfl
  · exact List.prefix_append ..

/-- What the lapse checks of some slots make of the registry. -/
structure LapseChecked (round : Round) (l : List Nat) (s t : State) : Prop where
  station : ∀ n, t.station n = if n ∈ l then (s.station n).map (Station.afterLapse round) else s.station n
  queue : t.srg.queue = s.srg.queue
  strangers : t.srg.strangers = s.srg.strangers
  extended : s.srg.revocations <+: t.srg.revocations
  revoked : ∀ n, n ∈ t.srg.revocations ↔
    n ∈ s.srg.revocations ∨ (n ∈ l ∧ ∃ x, s.station n = some x ∧ x.lapses round = true)

/-- One lapse check. -/
theorem State.lapseSlot_checked (n : Nat) (s : State) : LapseChecked s.flc.round [n] s (s.lapseSlot n) := by
  cases hx : s.station n with
  | none =>
    have held : s.lapseSlot n = s := by rw [State.lapseSlot, hx]
    rw [held]
    refine ⟨fun m => ?_, rfl, rfl, List.prefix_rfl, fun m => ?_⟩ <;> by_cases hm : m = n <;> simp [hm, hx]
  | some x =>
    by_cases hl : x.lapses s.flc.round = true
    · have lapsed : s.lapseSlot n =
          s.leave n (fun x => { x with live := .silent, grant := none }) .routine .lapsed := by
        rw [State.lapseSlot, hx]
        exact if_pos hl
      obtain ⟨hn, ho, hq, hs, hr, -, -⟩ := State.leave_spec
        (f := fun x => { x with live := .silent, grant := none }) (fun _ => rfl) .routine .lapsed hx
      rw [lapsed]
      refine ⟨fun m => ?_, hq, hs, hr ▸ prefix_appendNew, fun m => ?_⟩
      · by_cases hm : m = n
        · simp [hm, hx, Station.afterLapse, hl, hn]
        · simpa [hm] using ho m hm
      · rw [hr, mem_appendNew]
        by_cases hm : m = n <;> simp [hm, hx, hl]
    · have held : s.lapseSlot n = s := by
        rw [State.lapseSlot, hx]
        exact if_neg hl
      rw [held]
      refine ⟨fun m => ?_, rfl, rfl, List.prefix_rfl, fun m => ?_⟩ <;>
        by_cases hm : m = n <;> simp [hm, hx, Station.afterLapse, hl]

/-- The lapse checks of some slots, and then of one more. -/
theorem LapseChecked.trans {round : Round} {l k : List Nat} {s t u : State} (h : LapseChecked round l s t)
    (g : LapseChecked round k t u) : LapseChecked round (l ++ k) s u where
  station n := by
    rw [g.station, h.station]
    by_cases hl : n ∈ l <;> by_cases hk : n ∈ k <;>
      simp [hl, hk, Function.comp_def, Station.afterLapse_afterLapse]
  queue := g.queue.trans h.queue
  strangers := g.strangers.trans h.strangers
  extended := h.extended.trans g.extended
  revoked n := by
    rw [g.revoked, h.revoked, h.station]
    by_cases hl : n ∈ l
    · simp [hl, Station.afterLapse_lapses]
    · simp [hl]

theorem foldl_lapseSlot_checked : ∀ (l : List Nat) (s : State),
    LapseChecked s.flc.round l s (l.foldl (fun s n => s.lapseSlot n) s)
  | [], s => ⟨fun _ => by simp, rfl, rfl, List.prefix_rfl, fun _ => by simp⟩
  | n :: l, s => by
    have round : (s.lapseSlot n).flc.round = s.flc.round :=
      congrArg Flc.round ((State.lapseSlot_keeps n s).flc (by decide))
    exact (s.lapseSlot_checked n).trans (round ▸ foldl_lapseSlot_checked l (s.lapseSlot n))

/-- The lapse checks of a round close: every station that stands in a slot is checked (R31). -/
theorem State.lapseGrants_checked (s : State) : LapseChecked s.flc.round s.slotNumbers s s.lapseGrants :=
  foldl_lapseSlot_checked s.slotNumbers s

/-- A station that stands in a slot is among those checked. -/
theorem State.mem_slotNumbers {s : State} {n : Nat} {x : Station} (hx : s.station n = some x) :
    n ∈ s.slotNumbers :=
  List.mem_map.mpr ⟨x, findKey_mem hx⟩

/-- A round close gives the registry the announces and the lapse checks alone (R3). -/
theorem State.closeRound_srg {s : State} {p : Progress} (hr : s.flc.mode.runs = true)
    (hp : s.flc.progress = some p) (hc : p.closed = false) :
    s.closeRound.srg = ((s.closing p).takeAnnounces (mergedAnnounces s.flc.announces)).lapseGrants.srg := by
  have noticed : ∀ cls n (t : State), (t.loopNoticed cls n).srg = t.srg := fun cls _ _ => by cases cls <;> rfl
  rw [State.closeRound_open hr hp hc, (State.assess_keeps _).srg (by decide),
    (State.closeSite_keeps _).srg (by decide), (State.closeWind_keeps _).srg (by decide), State.closeLoop_eq]
  refine (noticed ..).trans ?_
  rw [State.registryClose, State.closing_flc]

/-- Settles O13: the merge, a stranger's announce, a station's announce, and the round close. -/
theorem announcesReachTheRegistry : Obligations.AnnouncesReachTheRegistry := by
  refine ⟨fun l h => ⟨fun a => mem_mergedAnnounces h, mergedAnnounces_ordered l⟩, fun s a h => ?_,
    fun s a x ht hx hi hu => ?_, fun s p v hr hp hc ht hv => ?_⟩
  · rw [State.takeAnnounce_stranger h]
    exact ⟨State.strangerAnnounce_known, fun new hfree hn =>
      ⟨State.strangerAnnounce_joins hfree hn, fun _ _ => State.strangerAnnounce_replaces hfree hn⟩⟩
  · refine ⟨State.takeAnnounce_mismatch ht hx hi hu, ?_⟩
    rintro y t hk rfl rfl
    have entry := State.station_of_mem ht hx
    have slots : ∀ z : Station, (z.announced s.flc.round a).cfg.slot = z.cfg.slot := fun _ => rfl
    by_cases hsilent : x.live = .silent ∧ s.srg.queue.length < 8
    · obtain ⟨hl, hq⟩ := hsilent
      have taken := State.takeAnnounce_queued hx hi hu hk hl hq
      obtain ⟨hn, ho⟩ := State.updStation_twice (g := Station.queued) slots (fun _ => rfl) entry
      refine ⟨?_, ?_, ?_, State.takeAnnounce_keeps a s, fun _ _ => ?_, fun h => ?_, fun h => ?_⟩
      · rw [taken]; exact ho
      · rw [taken]; rfl
      · rw [taken]; rfl
      · rw [taken]; exact ⟨hn, rfl, rfl⟩
      · simp [hl] at h
      · exact absurd ⟨hl, hq⟩ h
    · by_cases hl : x.live = .lost
      · have taken := State.takeAnnounce_returned hx hi hu hk hl
        obtain ⟨hn, ho⟩ :=
          State.updStation_twice (g := fun x => { x with live := .returned }) slots (fun _ => rfl) entry
        rw [State.raiseStation_configured _ _ hn] at taken
        refine ⟨?_, ?_, ?_, State.takeAnnounce_keeps a s, fun h => ?_, fun _ => ?_, fun _ h => ?_⟩
        · rw [taken]; exact ho
        · rw [taken]; rfl
        · rw [taken]; rfl
        · simp [hl] at h
        · rw [taken]; exact ⟨hn, rfl, rfl⟩
        · exact absurd hl h
      · have taken := State.takeAnnounce_heard hx hi hu hk hsilent hl
        obtain ⟨hn, ho⟩ := State.updStation_at slots entry
        refine ⟨?_, ?_, ?_, State.takeAnnounce_keeps a s, fun h hq => ?_, fun h => ?_, fun _ _ => ?_⟩
        · rw [taken]; exact ho
        · rw [taken]; rfl
        · rw [taken]; rfl
        · exact absurd ⟨h, hq⟩ hsilent
        · exact absurd h hl
        · rw [taken]; exact ⟨hn, rfl, rfl⟩
  · have round : v.flc.round = s.flc.round := by
      rw [hv, (State.takeAnnounces_keeps ..).flc (by decide), State.closing_flc]
    have srg : s.closeRound.srg = v.lapseGrants.srg := by rw [State.closeRound_srg hr hp hc, hv]
    have checked := v.lapseGrants_checked
    rw [round] at checked
    refine ⟨s.closeRound, rfl, by rw [srg, checked.queue], by rw [srg, checked.strangers], fun n x hx => ?_,
      srg ▸ checked.extended⟩
    have mem := State.mem_slotNumbers hx
    have station : s.closeRound.station n = some (x.afterLapse s.flc.round) := by
      rw [State.station_congr srg, checked.station, if_pos mem, hx]
      rfl
    have revoked : n ∈ s.closeRound.srg.revocations ↔ n ∈ v.srg.revocations ∨ x.lapses s.flc.round = true := by
      rw [srg, checked.revoked, hx]
      simp [mem]
    rw [station, revoked]
    refine ⟨fun hl g hg h3 => ?_, fun hstays => ?_⟩
    · have lapses := Station.lapses_iff.mpr ⟨hl, g, hg, h3⟩
      exact ⟨by rw [Station.afterLapse, if_pos lapses], .inr lapses⟩
    · have stays : ¬ x.lapses s.flc.round = true := by
        rw [Station.lapses_iff]
        rintro ⟨hl, g, hg, h3⟩
        rcases hstays with h | h | ⟨g', hg', h⟩
        · exact h hl
        · simp [hg] at h
        · rw [hg] at hg'
          rw [← Option.some.inj hg'] at h
          omega
      exact ⟨by rw [Station.afterLapse, if_neg stays], fun h => h.resolve_right stays⟩

end Sys2Proof.Machine

/-! # The gust list (R55) -/

namespace Sys2Proof.Machine

/-! ## An entry of a keyed list, by its place -/

section
variable {α : Type} {key : α → Nat} {a : α} {before after : List α}

theorem updateKey_absent {k : Nat} {f : α → α} {l : List α} (h : ∀ b ∈ l, key b ≠ k) :
    updateKey key k f l = l := by
  induction l with
  | nil => rfl
  | cons b l ih => simp [updateKey, h b (by simp), ih fun c hc => h c (by simp [hc])]

/-- The keys of the entries around one of a list whose keys all differ. -/
theorem keys_around (h : (before ++ a :: after).Pairwise (fun x y => key x ≠ key y)) :
    (∀ b ∈ before, key b ≠ key a) ∧ ∀ b ∈ after, key b ≠ key a := by
  obtain ⟨-, hafter, hbefore⟩ := List.pairwise_append.mp h
  exact ⟨fun b hb => hbefore b hb a (by simp), fun b hb => ((List.pairwise_cons.mp hafter).1 b hb).symm⟩

theorem updateKey_at {f : α → α} (h : (before ++ a :: after).Pairwise (fun x y => key x ≠ key y)) :
    updateKey key (key a) f (before ++ a :: after) = before ++ f a :: after := by
  obtain ⟨hbefore, hafter⟩ := keys_around h
  clear h
  induction before with
  | nil => simp [updateKey, updateKey_absent hafter]
  | cons b before ih => simp [updateKey, hbefore b (by simp), ih fun c hc => hbefore c (by simp [hc])]

theorem removeKey_at (h : (before ++ a :: after).Pairwise (fun x y => key x ≠ key y)) :
    removeKey key (key a) (before ++ a :: after) = before ++ after := by
  obtain ⟨hbefore, hafter⟩ := keys_around h
  clear h
  induction before with
  | nil =>
    have absent : removeKey key (key a) after = after :=
      removeKey_of_none (findKey_eq_none.mpr (by simpa using hafter))
    simp [removeKey, absent]
  | cons b before ih => simp [removeKey, hbefore b (by simp), ih fun c hc => hbefore c (by simp [hc])]

theorem findKey_at (h : (before ++ a :: after).Pairwise (fun x y => key x ≠ key y)) :
    findKey key (key a) (before ++ a :: after) = some a := by
  obtain ⟨hbefore, -⟩ := keys_around h
  clear h
  induction before with
  | nil => simp [findKey]
  | cons b before ih => simp [findKey, hbefore b (by simp), ih fun c hc => hbefore c (by simp [hc])]

end

/-! ## The ids of a gust list (R55) -/

/-- The id that stands `i` places after `n` in the circle of 1 to 65535. -/
def idFrom (n i : Nat) : Nat := (n - 1 + i) % 65535 + 1

theorem idAfter_range (n : Nat) : 1 ≤ idAfter n ∧ idAfter n ≤ 65535 := by
  unfold idAfter
  split <;> omega

theorem idFrom_idAfter {n : Nat} (hn : 1 ≤ n ∧ n ≤ 65535) (i : Nat) :
    idFrom (idAfter n) i = idFrom n (i + 1) := by
  unfold idFrom idAfter
  split <;> omega

theorem freeId_range {held : List Nat} : ∀ (fuel : Nat) {n : Nat}, 1 ≤ n ∧ n ≤ 65535 →
    1 ≤ freeId held fuel n ∧ freeId held fuel n ≤ 65535
  | 0, _, hn => hn
  | fuel + 1, n, hn => by
    unfold freeId
    split
    · exact freeId_range fuel (idAfter_range n)
    · exact hn

/-- A search that ends at a held id has met nothing but held ids. -/
theorem idFrom_mem_of_freeId_mem {held : List Nat} : ∀ (fuel : Nat) {n : Nat}, 1 ≤ n ∧ n ≤ 65535 →
    freeId held fuel n ∈ held → ∀ i < fuel, idFrom n i ∈ held
  | 0, _, _, _, _, hi => absurd hi (Nat.not_lt_zero _)
  | fuel + 1, n, hn, h, i, hi => by
    unfold freeId at h
    split at h
    · rename_i hheld
      cases i with
      | zero => rwa [show idFrom n 0 = n by unfold idFrom; omega]
      | succ i =>
        rw [← idFrom_idAfter hn]
        exact idFrom_mem_of_freeId_mem fuel (idAfter_range n) h i (Nat.lt_of_succ_lt_succ hi)
    · rename_i hfree
      exact absurd h hfree

/-- The search finds a free id where it may try more ids than are held. -/
theorem freeId_not_mem {held : List Nat} {fuel n : Nat} (hn : 1 ≤ n ∧ n ≤ 65535) (hlen : held.length < fuel)
    (hfuel : fuel ≤ 65535) : freeId held fuel n ∉ held := by
  intro h
  have tried := idFrom_mem_of_freeId_mem fuel hn h
  have distinct : ((List.range fuel).map (idFrom n)).Nodup := by
    refine List.Nodup.map_on (fun i hi j hj e => ?_) List.nodup_range
    rw [List.mem_range] at hi hj
    unfold idFrom at e
    omega
  have subset : (List.range fuel).map (idFrom n) ⊆ held := fun x hx => by
    obtain ⟨i, hi, rfl⟩ := List.mem_map.mp hx
    exact tried i (List.mem_range.mp hi)
  have : fuel ≤ held.length := by simpa using (distinct.subperm subset).length_le
  omega

/-- The search takes the first id where it is free. -/
theorem freeId_of_not_mem {held : List Nat} {fuel n : Nat} (h : n ∉ held) : freeId held (fuel + 1) n = n :=
  if_neg h

/-! ## The gust list as R55 has it -/

theorem Gust.live_iff {g : Gust} : g.live = true ↔ g.state ≠ .closed := by simp [Gust.live]

/-- Two records of a gust list differ in their ids, and have no member in common while neither is CLOSED. -/
def Gust.Apart (x y : Gust) : Prop :=
  x.id ≠ y.id ∧ (x.live = true → y.live = true → ∀ n ∈ x.members, n ∉ y.members)

theorem Gust.Apart.symm {x y : Gust} (h : x.Apart y) : y.Apart x :=
  ⟨h.1.symm, fun hy hx n hn hm => h.2 hx hy n hm hn⟩

/-- The records of a gust list (R55). -/
structure GustList (gs : List Gust) : Prop where
  size : gs.length ≤ 16
  range : ∀ g ∈ gs, 1 ≤ g.id ∧ g.id ≤ 65535
  apart : gs.Pairwise Gust.Apart

section
variable {s t : State}

theorem State.gustsOk_iff :
    s.GustsOk ↔ GustList s.wgt.gusts ∧ 1 ≤ s.wgt.nextId ∧ s.wgt.nextId ≤ 65535 := by
  constructor
  · rintro ⟨size, next, range, ids, members⟩
    exact ⟨⟨size, range, ids.and members⟩, next⟩
  · rintro ⟨⟨size, range, apart⟩, next⟩
    exact ⟨size, next, range, apart.imp And.left, apart.imp And.right⟩

theorem State.GustsOk.list (h : s.GustsOk) : GustList s.wgt.gusts := (State.gustsOk_iff.mp h).1

/-- The gust list of another state with the same WGT. -/
theorem State.GustsOk.ofWgt (h : s.GustsOk) (e : t.wgt = s.wgt) : t.GustsOk := by
  rw [State.gustsOk_iff, e]
  exact State.gustsOk_iff.mp h

/-- What leaves the WGT leaves the gust list. -/
theorem State.GustsOk.ofKeeps (h : s.GustsOk) {ps : List Part} (k : KeepsBut ps s t)
    (m : Part.wgt ∉ ps := by decide) : t.GustsOk := h.ofWgt (k.wgt m)

/-- New records with the next id kept. -/
theorem State.GustsOk.ofList (h : s.GustsOk) (l : GustList t.wgt.gusts) (e : t.wgt.nextId = s.wgt.nextId) :
    t.GustsOk := State.gustsOk_iff.mpr ⟨l, e ▸ h.next⟩

end

section
variable {gs before after : List Gust} {g g' : Gust}

theorem GustList.ids (h : GustList gs) : gs.Pairwise (fun x y => x.id ≠ y.id) := h.apart.imp And.left

theorem GustList.sublist {l : List Gust} (h : GustList gs) (k : l.Sublist gs) : GustList l :=
  ⟨k.length_le.trans h.size, fun x hx => h.range x (k.subset hx), h.apart.sublist k⟩

/-- A change of records that keeps each one's id, opens none again, and brings no member. -/
theorem GustList.map (h : GustList gs) {f : Gust → Gust} (id : ∀ x, (f x).id = x.id)
    (members : ∀ x, (f x).live = true → x.live = true ∧ (f x).members ⊆ x.members) : GustList (gs.map f) where
  size := by rw [List.length_map]; exact h.size
  range x hx := by
    obtain ⟨y, hy, rfl⟩ := List.mem_map.mp hx
    rw [id]
    exact h.range y hy
  apart := by
    refine List.pairwise_map.mpr (h.apart.imp fun {x y} hxy => ⟨by rw [id, id]; exact hxy.1, ?_⟩)
    intro hx hy n hn hm
    obtain ⟨lx, sx⟩ := members x hx
    obtain ⟨ly, sy⟩ := members y hy
    exact hxy.2 lx ly n (sx hn) (sy hm)

/-- A record among the others. -/
theorem GustList.around (h : GustList (before ++ g :: after)) : ∀ x ∈ before ++ after, g.Apart x :=
  (List.pairwise_cons.mp ((List.pairwise_middle Gust.Apart.symm).mp h.apart)).1

/-- A record in the place of another one of its id, that shares no member with the others. -/
theorem GustList.replace (h : GustList (before ++ g :: after)) (id : g'.id = g.id)
    (members : g'.live = true → ∀ n ∈ g'.members, ∀ x ∈ before ++ after, x.live = true → n ∉ x.members) :
    GustList (before ++ g' :: after) where
  size := by simpa using h.size
  range x hx := by
    rcases List.mem_append.mp hx with hx | hx
    · exact h.range x (by simp [hx])
    · rcases List.mem_cons.mp hx with rfl | hx
      · rw [id]; exact h.range g (by simp)
      · exact h.range x (by simp [hx])
  apart := by
    obtain ⟨-, others⟩ := List.pairwise_cons.mp ((List.pairwise_middle Gust.Apart.symm).mp h.apart)
    refine (List.pairwise_middle Gust.Apart.symm).mpr (List.pairwise_cons.mpr ⟨fun x hx => ?_, others⟩)
    exact ⟨by rw [id]; exact (h.around x hx).1, fun hg hx' n hn => members hg n hn x hx hx'⟩

/-- A record with a new id at the tail, that shares no member with the others. -/
theorem GustList.append (h : GustList gs) (size : gs.length < 16) (range : 1 ≤ g.id ∧ g.id ≤ 65535)
    (id : ∀ x ∈ gs, x.id ≠ g.id) (members : ∀ n ∈ g.members, ∀ x ∈ gs, x.live = true → n ∉ x.members) :
    GustList (gs ++ [g]) where
  size := by simp; omega
  range x hx := by
    rcases List.mem_append.mp hx with hx | hx
    · exact h.range x hx
    · obtain rfl := List.mem_singleton.mp hx
      exact range
  apart := by
    refine List.pairwise_append.mpr ⟨h.apart, List.pairwise_singleton .., fun x hx y hy => ?_⟩
    obtain rfl := List.mem_singleton.mp hy
    exact ⟨id x hx, fun lx _ n hn hm => members n hm x hx lx hn⟩

/-! ## The record of a member, and the nearest record (R57, R58, R60) -/

/-- The one record of which a mast is a member. -/
theorem memberOf_eq_some_iff (h : GustList gs) {slot : Nat} :
    memberOf slot gs = some g ↔ g ∈ gs ∧ g.live = true ∧ slot ∈ g.members := by
  have found : ∀ {x}, memberOf slot gs = some x → x ∈ gs ∧ x.live = true ∧ slot ∈ x.members := fun hx =>
    ⟨List.mem_of_find?_eq_some hx, by simpa using List.find?_some hx⟩
  refine ⟨found, fun ⟨hg, hl, hm⟩ => ?_⟩
  cases hx : memberOf slot gs with
  | none => exact absurd (List.find?_eq_none.mp hx g hg) (by simp [hl, hm])
  | some x =>
    obtain ⟨hx, hxl, hxm⟩ := found hx
    by_contra hne
    have symm : Std.Symm Gust.Apart := ⟨fun _ _ => Gust.Apart.symm⟩
    have apart := h.apart.forall hx hg fun e => hne (congrArg some e)
    exact apart.2 hxl hl slot hxm hm

theorem memberOf_eq_none_iff {slot : Nat} :
    memberOf slot gs = none ↔ ∀ g ∈ gs, g.live = true → slot ∉ g.members := by
  simp [memberOf, List.find?_eq_none]

theorem nearestGust_eq_none_iff {dir : Nat} : nearestGust dir gs = none ↔ gs = [] := by
  cases gs with
  | nil => simp [nearestGust]
  | cons x gs =>
    unfold nearestGust
    split
    · simp
    · split <;> simp

theorem nearestGust_mem {dir : Nat} : ∀ {gs : List Gust} {g : Gust}, nearestGust dir gs = some g → g ∈ gs
  | [], _, h => by simp [nearestGust] at h
  | x :: gs, g, h => by
    unfold nearestGust at h
    split at h
    · simp_all
    · rename_i y hy
      split at h
      · simp_all
      · obtain rfl := Option.some.inj h
        exact List.mem_cons_of_mem _ (nearestGust_mem hy)

/-- The nearest record: strictly nearer than those before it, and no farther than those after it. -/
theorem nearestGust_at {dir : Nat}
    (hbefore : ∀ x ∈ before, angleBetween g.direction dir < angleBetween x.direction dir)
    (hafter : ∀ x ∈ after, angleBetween g.direction dir ≤ angleBetween x.direction dir) :
    nearestGust dir (before ++ g :: after) = some g := by
  induction before with
  | nil =>
    rw [List.nil_append, nearestGust]
    split
    · rfl
    · rename_i y hy
      exact if_pos (hafter y (nearestGust_mem hy))
  | cons b before ih =>
    rw [List.cons_append, nearestGust, ih fun x hx => hbefore x (by simp [hx])]
    exact if_neg (Nat.not_le.mpr (hbefore b (by simp)))

/-- Among the records that qualify. -/
theorem nearestGust_filter_at {dir : Nat} {p : Gust → Bool} (hg : p g = true)
    (hbefore : ∀ x ∈ before, p x = true → angleBetween g.direction dir < angleBetween x.direction dir)
    (hafter : ∀ x ∈ after, p x = true → angleBetween g.direction dir ≤ angleBetween x.direction dir) :
    nearestGust dir ((before ++ g :: after).filter p) = some g := by
  rw [List.filter_append, List.filter_cons_of_pos hg]
  refine nearestGust_at (fun x hx => ?_) (fun x hx => ?_)
  · obtain ⟨hx, hp⟩ := List.mem_filter.mp hx
    exact hbefore x hx hp
  · obtain ⟨hx, hp⟩ := List.mem_filter.mp hx
    exact hafter x hx hp

end

end Sys2Proof.Machine

/-! # A gusting mast (R56 to R61) -/

namespace Sys2Proof.Machine

/-- The state with another gust list. -/
def State.withGusts (l : List Gust) (s : State) : State := { s with wgt := { s.wgt with gusts := l } }

/-! ## A mast enters a record (R58, R60, R61) -/

/-- A record that a mast enters, before it is confirmed. -/
def Gust.joined (round : Round) (slot peak : Nat) (merged : Bool) (g : Gust) : Gust :=
  { g.entered round slot peak merged with state := g.state }

/-- An entry confirms an OPEN record that has a member already (R61). -/
theorem Gust.entered_state {round : Round} {slot peak : Nat} {merged : Bool} {g : Gust} :
    (g.entered round slot peak merged).state = g.state ↔ ¬ (g.state = .opened ∧ 1 ≤ g.members.length) := by
  by_cases h : g.state = .opened ∧ 1 ≤ g.members.length
  · simp [Gust.entered, h]
  · simp [Gust.entered, h]

/-- A record entered stays not CLOSED. -/
theorem Gust.entered_live {round : Round} {slot peak : Nat} {merged : Bool} {g : Gust} (h : g.live = true) :
    (g.entered round slot peak merged).live = true := by
  by_cases hc : g.state = .opened ∧ 1 ≤ g.members.length
  · simp [Gust.live, Gust.entered, hc]
  · have state : (g.entered round slot peak merged).state = g.state := Gust.entered_state.mpr hc
    rwa [Gust.live, state]

section
variable {s : State} {before after : List Gust} {g : Gust} (slot peak : Nat)

theorem State.updGust_at (h : GustList s.wgt.gusts) (hs : s.wgt.gusts = before ++ g :: after) (f : Gust → Gust) :
    s.updGust g.id f = s.withGusts (before ++ f g :: after) := by
  have changed : updateKey (fun x : Gust => x.id) g.id f s.wgt.gusts = before ++ f g :: after := by
    rw [hs]
    exact updateKey_at (key := fun x : Gust => x.id) (hs ▸ h.ids)
  rw [State.updGust, changed, State.withGusts]

theorem State.gust_at (h : GustList s.wgt.gusts) (hs : s.wgt.gusts = before ++ g :: after) :
    s.gust g.id = some g := by
  rw [State.gust, hs]
  exact findKey_at (key := fun x : Gust => x.id) (hs ▸ h.ids)

/-- The confirmation that an entry calls for, with its notice (R61). -/
theorem State.confirmGust_joined {round : Round} {merged : Bool} (h : GustList s.wgt.gusts)
    (hs : s.wgt.gusts = before ++ g.joined round slot peak merged :: after) :
    s.confirmGust g.id slot =
      (if (g.entered round slot peak merged).state = g.state then s
       else s.raiseGust .confirmed none (some slot) (g.entered round slot peak merged)).withGusts
        (before ++ g.entered round slot peak merged :: after) := by
  have found : s.gust g.id = some (g.joined round slot peak merged) := State.gust_at h hs
  have two : 2 ≤ (g.joined round slot peak merged).members.length ↔ 1 ≤ g.members.length := by
    simp [Gust.joined, Gust.entered]
  unfold State.confirmGust
  rw [found]
  dsimp only
  by_cases hc : g.state = .opened ∧ 1 ≤ g.members.length
  · have confirmed : { g.joined round slot peak merged with state := GustState.confirmed } =
        g.entered round slot peak merged := by
      simp [Gust.joined, Gust.entered, hc]
    rw [if_pos ⟨hc.1, two.mpr hc.2⟩, if_neg (fun e => Gust.entered_state.mp e hc),
      show g.id = (g.joined round slot peak merged).id from rfl, State.updGust_at h hs,
      confirmed]
    rfl
  · have stays : g.joined round slot peak merged = g.entered round slot peak merged := by
      rw [Gust.joined, ← Gust.entered_state.mpr hc]
    rw [if_neg fun e => hc ⟨e.1, two.mp e.2⟩, if_pos (Gust.entered_state.mpr hc), ← stays, ← hs]
    rfl

/-- A mast that is a member of no other record enters one. -/
theorem GustList.enter {g' : Gust} (h : GustList (before ++ g :: after)) (id : g'.id = g.id)
    (members : g'.members = g.members ++ [slot]) (live : g'.live = true → g.live = true)
    (free : ∀ x ∈ before ++ g :: after, x.live = true → slot ∉ x.members) :
    GustList (before ++ g' :: after) := by
  refine h.replace id fun hl n hn x hx lx => ?_
  rw [members] at hn
  rcases List.mem_append.mp hn with hn | hn
  · exact (h.around x hx).2 (live hl) lx n hn
  · obtain rfl := List.mem_singleton.mp hn
    exact free x (by simp at hx ⊢; tauto) lx

variable (h : GustList s.wgt.gusts) (hs : s.wgt.gusts = before ++ g :: after)
  (free : ∀ x ∈ s.wgt.gusts, x.live = true → slot ∉ x.members)
include h hs free

/-- A join (R58, R61). -/
theorem State.joinGust_at {g' : Gust} (hg : g' = g.entered s.flc.round slot peak false) :
    s.joinGust g.id slot peak =
      (if g'.state = g.state then s else s.raiseGust .confirmed none (some slot) g').withGusts
        (before ++ g' :: after) := by
  have put : { g.active s.flc.round peak with members := g.members ++ [slot] } =
      g.joined s.flc.round slot peak false := by simp [Gust.joined, Gust.entered, Gust.active]
  have list : GustList (before ++ g.joined s.flc.round slot peak false :: after) :=
    GustList.enter (g := g) slot (hs ▸ h) rfl rfl (fun hl => hl) (hs ▸ free)
  rw [State.joinGust, State.updGust_at h hs, put, State.confirmGust_joined slot peak list rfl, ← hg]
  split <;> rfl

/-- A merge, its notice before the one of the confirmation (R60, R61). -/
theorem State.mergeGust_at {g' : Gust} (hg : g' = g.entered s.flc.round slot peak true) :
    s.mergeGust g slot peak =
      (if g'.state = g.state then s.raiseGust .merged none (some slot) g'
       else (s.raiseGust .merged none (some slot) { g' with state := g.state }).raiseGust .confirmed none
        (some slot) g').withGusts (before ++ g' :: after) := by
  have put : { g.active s.flc.round peak with members := g.members ++ [slot], merged := true } =
      g.joined s.flc.round slot peak true := by simp [Gust.joined, Gust.entered, Gust.active]
  have list : GustList (before ++ g.joined s.flc.round slot peak true :: after) :=
    GustList.enter (g := g) slot (hs ▸ h) rfl rfl (fun hl => hl) (hs ▸ free)
  have shown : g.joined s.flc.round slot peak true = { g' with state := g.state } := by rw [hg]; rfl
  rw [State.mergeGust]
  dsimp only
  rw [put, State.updGust_at h hs, State.confirmGust_joined (s := State.raiseGust .merged none (some slot)
    (g.joined s.flc.round slot peak true) (s.withGusts _)) slot peak list rfl, ← hg, shown]
  split
  · rename_i hstate
    rw [show { g' with state := g.state } = g' by rw [← hstate]]
    rfl
  · rfl

end

/-! ## A mast opens a record (R59) -/

theorem idAfter_eq {n : Nat} (h : n ≤ 65535) : idAfter n = if n = 65535 then 1 else n + 1 := by
  unfold idAfter
  split <;> split <;> omega

/-- A record opened, under an id that is in range, free, and the next id where that is free. -/
theorem State.appendGust_spec {s : State} (next : 1 ≤ s.wgt.nextId ∧ s.wgt.nextId ≤ 65535)
    (room : s.wgt.gusts.length < 16) (slot dir peak : Nat) : ∃ id, (1 ≤ id ∧ id ≤ 65535)
      ∧ (∀ x ∈ s.wgt.gusts, x.id ≠ id)
      ∧ ((∀ x ∈ s.wgt.gusts, x.id ≠ s.wgt.nextId) → id = s.wgt.nextId)
      ∧ (s.appendGust slot dir peak).wgt.gusts = s.wgt.gusts ++ [Gust.openedBy s id slot dir peak]
      ∧ (s.appendGust slot dir peak).wgt.nextId = idAfter id
      ∧ (s.appendGust slot dir peak).pif =
          (s.raiseGust .opened none none (Gust.openedBy s id slot dir peak)).pif := by
  have absent : ∀ {n : Nat}, n ∉ s.wgt.gusts.map (fun x => x.id) ↔ ∀ x ∈ s.wgt.gusts, x.id ≠ n := by simp
  refine ⟨_, freeId_range 16 next, ?_, fun hfree => freeId_of_not_mem (absent.mpr hfree), rfl, rfl, rfl⟩
  exact absent.mp (freeId_not_mem next (by simpa using room) (by decide))

/-- The oldest CLOSED record of a list. -/
theorem firstClosed_at {before after : List Gust} {g : Gust} (hg : g.state = .closed)
    (hbefore : ∀ x ∈ before, x.state ≠ .closed) : firstClosed (before ++ g :: after) = some g := by
  have none_before : before.find? (fun x => x.state == .closed) = none :=
    List.find?_eq_none.mpr fun x hx => by simpa using hbefore x hx
  rw [firstClosed, List.find?_append, none_before]
  simp [hg]

theorem firstClosed_eq_none_iff {gs : List Gust} : firstClosed gs = none ↔ ∀ x ∈ gs, x.state ≠ .closed := by
  simp [firstClosed, List.find?_eq_none]

/-- The state once the oldest CLOSED record has made room, with its notice (R59). -/
def State.roomMade (g : Gust) (l : List Gust) (s : State) : State :=
  (s.raiseGust .removed (some .room) none g).withGusts l

section
variable {s : State} {before after : List Gust} {g : Gust} (slot dir peak : Nat)

theorem State.openGust_room (room : s.wgt.gusts.length < 16) :
    s.openGust slot dir peak = s.appendGust slot dir peak := if_pos room

theorem State.openGust_replaces (full : 16 ≤ s.wgt.gusts.length) (h : GustList s.wgt.gusts)
    (hs : s.wgt.gusts = before ++ g :: after) (hc : firstClosed s.wgt.gusts = some g) :
    s.openGust slot dir peak = (s.roomMade g (before ++ after)).appendGust slot dir peak := by
  have removed : removeKey (fun x : Gust => x.id) g.id s.wgt.gusts = before ++ after := by
    rw [hs]
    exact removeKey_at (key := fun x : Gust => x.id) (hs ▸ h.ids)
  rw [State.openGust, if_neg (Nat.not_lt.mpr full), hc]
  dsimp only
  rw [removed]
  rfl

theorem State.openGust_merges (full : 16 ≤ s.wgt.gusts.length) (live : ∀ x ∈ s.wgt.gusts, x.state ≠ .closed)
    (hn : nearestGust dir s.wgt.gusts = some g) : s.openGust slot dir peak = s.mergeGust g slot peak := by
  have all_live : s.wgt.gusts.filter Gust.live = s.wgt.gusts :=
    List.filter_eq_self.mpr fun x hx => Gust.live_iff.mpr (live x hx)
  rw [State.openGust, if_neg (Nat.not_lt.mpr full), firstClosed_eq_none_iff.mpr live, all_live, hn]

end

/-! ## A mast that gusts (R57 to R60) -/

section
variable {s : State} {g : Gust} {slot dir peak : Nat}

theorem State.gustMember_member (h : memberOf slot s.wgt.gusts = some g) :
    s.gustMember slot dir peak = s.updGust g.id (Gust.active s.flc.round peak) := by
  rw [State.gustMember, h]

theorem State.gustMember_joins (hm : memberOf slot s.wgt.gusts = none)
    (hn : nearestGust dir (s.wgt.gusts.filter (Gust.joinable s.flc.round dir)) = some g) :
    s.gustMember slot dir peak = s.joinGust g.id slot peak := by rw [State.gustMember, hm, hn]

theorem State.gustMember_opens (hm : memberOf slot s.wgt.gusts = none)
    (hn : nearestGust dir (s.wgt.gusts.filter (Gust.joinable s.flc.round dir)) = none) :
    s.gustMember slot dir peak = s.openGust slot dir peak := by rw [State.gustMember, hm, hn]

end

/-- What a gusting mast makes of the records and the next id: it refreshes the record of which it is a member,
enters another one, or opens one next to those that are kept. -/
inductive GustTaken (s : State) (slot dir peak : Nat) : List Gust → Nat → Prop
  | refreshed {before after : List Gust} {g : Gust} (hs : s.wgt.gusts = before ++ g :: after)
      (live : g.live = true) (member : slot ∈ g.members) :
      GustTaken s slot dir peak (before ++ g.active s.flc.round peak :: after) s.wgt.nextId
  | entered {before after : List Gust} {g : Gust} (merged : Bool) (hs : s.wgt.gusts = before ++ g :: after)
      (live : g.live = true) (free : ∀ x ∈ s.wgt.gusts, x.live = true → slot ∉ x.members) :
      GustTaken s slot dir peak (before ++ g.entered s.flc.round slot peak merged :: after) s.wgt.nextId
  | opened {kept : List Gust} {id : Nat} (sub : kept.Sublist s.wgt.gusts)
      (live : ∀ x ∈ s.wgt.gusts, x.live = true → x ∈ kept) (room : kept.length < 16)
      (range : 1 ≤ id ∧ id ≤ 65535) (fresh : ∀ x ∈ kept, x.id ≠ id)
      (free : ∀ x ∈ s.wgt.gusts, x.live = true → slot ∉ x.members) :
      GustTaken s slot dir peak (kept ++ [Gust.openedBy s id slot dir peak]) (idAfter id)

section
variable {s : State} {slot dir peak : Nat}

/-- A record opened by a mast that is a member of none. -/
theorem State.openGust_taken (h : s.GustsOk) (free : ∀ x ∈ s.wgt.gusts, x.live = true → slot ∉ x.members) :
    GustTaken s slot dir peak (s.openGust slot dir peak).wgt.gusts (s.openGust slot dir peak).wgt.nextId := by
  by_cases room : s.wgt.gusts.length < 16
  · obtain ⟨id, range, fresh, -, gusts, next, -⟩ := State.appendGust_spec h.next room slot dir peak
    rw [State.openGust_room slot dir peak room, gusts, next]
    exact .opened (List.Sublist.refl _) (fun _ hx _ => hx) room range fresh free
  · have full : 16 ≤ s.wgt.gusts.length := Nat.not_lt.mp room
    cases hc : firstClosed s.wgt.gusts with
    | some g =>
      obtain ⟨before, after, hs⟩ := List.append_of_mem (List.mem_of_find?_eq_some hc)
      have closed : g.state = .closed := by simpa using List.find?_some hc
      have size := h.size
      have room' : (before ++ after).length < 16 := by
        rw [hs] at size
        simp at size ⊢
        omega
      obtain ⟨id, range, fresh, -, gusts, next, -⟩ := State.appendGust_spec
        (s := s.roomMade g (before ++ after)) h.next room' slot dir peak
      rw [State.openGust_replaces slot dir peak full h.list hs hc, gusts, next]
      refine .opened ?_ (fun x hx hl => ?_) room' range fresh free
      · rw [hs]
        exact (List.Sublist.refl before).append (List.sublist_cons_self g after)
      · rw [hs] at hx
        have other : x ≠ g := fun e => Gust.live_iff.mp (e ▸ hl) closed
        exact List.mem_append.mpr (by simpa [other] using hx)
    | none =>
      have live := firstClosed_eq_none_iff.mp hc
      cases hn : nearestGust dir s.wgt.gusts with
      | none =>
        rw [nearestGust_eq_none_iff.mp hn] at full
        exact absurd full (by decide)
      | some g =>
        obtain ⟨before, after, hs⟩ := List.append_of_mem (nearestGust_mem hn)
        have hg : g.live = true := Gust.live_iff.mpr (live g (nearestGust_mem hn))
        rw [State.openGust_merges slot dir peak full live hn, State.mergeGust_at slot peak h.list hs free rfl]
        have taken := GustTaken.entered (dir := dir) (peak := peak) true hs hg free
        split <;> exact taken

/-- A gusting mast does one of the three (R57 to R60). -/
theorem State.gustMember_taken (h : s.GustsOk) :
    GustTaken s slot dir peak (s.gustMember slot dir peak).wgt.gusts
      (s.gustMember slot dir peak).wgt.nextId := by
  cases hm : memberOf slot s.wgt.gusts with
  | some g =>
    obtain ⟨hg, live, member⟩ := (memberOf_eq_some_iff h.list).mp hm
    obtain ⟨before, after, hs⟩ := List.append_of_mem hg
    rw [State.gustMember_member hm, State.updGust_at h.list hs]
    exact .refreshed hs live member
  | none =>
    have free := memberOf_eq_none_iff.mp hm
    cases hn : nearestGust dir (s.wgt.gusts.filter (Gust.joinable s.flc.round dir)) with
    | some g =>
      obtain ⟨hg, hj⟩ := List.mem_filter.mp (nearestGust_mem hn)
      obtain ⟨before, after, hs⟩ := List.append_of_mem hg
      have live : g.live = true := by
        unfold Gust.joinable at hj
        simp at hj
        exact hj.1.1
      rw [State.gustMember_joins hm hn, State.joinGust_at slot peak h.list hs free rfl]
      have taken := GustTaken.entered (dir := dir) (peak := peak) false hs live free
      split <;> exact taken
    | none =>
      rw [State.gustMember_opens hm hn]
      exact State.openGust_taken h free

/-- A gusting mast keeps the gust list (R55). -/
theorem State.GustsOk.gustMember (h : s.GustsOk) : (s.gustMember slot dir peak).GustsOk := by
  have list := h.list
  have taken := State.gustMember_taken (slot := slot) (dir := dir) (peak := peak) h
  refine State.gustsOk_iff.mpr ?_
  generalize (s.gustMember slot dir peak).wgt.gusts = l, (s.gustMember slot dir peak).wgt.nextId = n at taken ⊢
  cases taken with
  | refreshed hs live member =>
    rw [hs] at list
    exact ⟨list.replace rfl fun hl n hn x hx lx => (list.around x hx).2 hl lx n hn, h.next⟩
  | entered merged hs live free =>
    rw [hs] at list free
    exact ⟨list.enter slot rfl rfl (fun _ => live) free, h.next⟩
  | opened sub live room range fresh free =>
    refine ⟨(list.sublist sub).append room range fresh fun n hn x hx lx => ?_, idAfter_range _⟩
    obtain rfl := List.mem_singleton.mp hn
    exact free x (sub.subset hx) lx

end

end Sys2Proof.Machine

/-! # Every step keeps the gust list -/

namespace Sys2Proof.Machine

/-! ## The round close and the apply -/

/-- A sequence of notices leaves the WGT. -/
theorem foldl_raiseGust_wgt (event : GustEvent) (reason : Option RemoveReason) (f : State → Gust → Gust)
    (l : List Gust) (s : State) :
    (l.foldl (fun t g => t.raiseGust event reason none (f t g)) s).wgt = s.wgt :=
  foldl_keeps (g := fun t => t.wgt) (by exact fun _ _ => rfl) l s

section
variable {s : State}

theorem State.closeGusts_wgt (s : State) : s.closeGusts.wgt = { s.wgt with
    gusts := s.wgt.gusts.map (fun g => if g.closes s.flc.round then g.shut s.flc.round else g) } :=
  foldl_raiseGust_wgt _ _ (fun t g => g.shut t.flc.round) _ _

theorem State.ageGusts_wgt (s : State) : s.ageGusts.wgt = { s.wgt with
    gusts := s.wgt.gusts.filter (fun g => !g.aged s.flc.round) } :=
  foldl_raiseGust_wgt _ _ (fun _ g => g) _ _

theorem State.leaveGusts_wgt (n : Nat) (s : State) : (s.leaveGusts n).wgt = { s.wgt with
    gusts := s.wgt.gusts.map (Gust.leave s.flc.round n) } :=
  foldl_raiseGust_wgt _ _ (fun t g => g.shut t.flc.round) _ _

/-- A closed record is not live. -/
theorem Gust.shut_live (round : Round) (g : Gust) : (g.shut round).live = false := rfl

/-- The masts of a round close, each on the list that those before it have left (R56). -/
theorem State.GustsOk.gustMembership (h : s.GustsOk) : s.gustMembership.GustsOk := by
  refine foldl_holds (P := State.GustsOk) (fun t (m : Mast) ht => ?_) _ h
  split
  · exact ht.gustMember
  · exact ht

theorem State.GustsOk.closeGusts (h : s.GustsOk) : s.closeGusts.GustsOk := by
  refine h.ofList ?_ (by rw [State.closeGusts_wgt])
  rw [State.closeGusts_wgt]
  refine h.list.map (fun g => ?_) (fun g hg => ?_)
  · split <;> rfl
  · split at hg
    · exact absurd hg (by simp [Gust.shut_live])
    · rename_i hc
      rw [if_neg hc]
      exact ⟨hg, fun _ hn => hn⟩

theorem State.GustsOk.ageGusts (h : s.GustsOk) : s.ageGusts.GustsOk := by
  refine h.ofList ?_ (by rw [State.ageGusts_wgt])
  rw [State.ageGusts_wgt]
  exact h.list.sublist List.filter_sublist

/-- A slot that leaves the members of its record (R66). -/
theorem State.GustsOk.leaveGusts (h : s.GustsOk) (n : Nat) : (s.leaveGusts n).GustsOk := by
  refine h.ofList ?_ (by rw [State.leaveGusts_wgt])
  rw [State.leaveGusts_wgt]
  refine h.list.map (fun g => ?_) (fun g hg => ?_)
  · unfold Gust.leave
    repeat' split
    all_goals rfl
  · unfold Gust.leave at hg ⊢
    split at hg
    · rename_i hl
      obtain ⟨live, -⟩ := Bool.and_eq_true_iff.mp hl
      split at hg
      · exact absurd hg (by simp [Gust.shut_live])
      · rename_i hm
        rw [if_pos hl, if_neg hm]
        exact ⟨live, List.filter_sublist.subset⟩
    · rename_i hl
      rw [if_neg hl]
      exact ⟨hg, fun _ hn => hn⟩

/-- The lead mast and the wind-blind flag (R50). -/
theorem State.chooseLead_wgt (s : State) : s.chooseLead.wgt = { s.wgt with
    site := windSiteOf s.wgt.masts, windBlind := (windSiteOf s.wgt.masts).lead.isNone } := by
  unfold State.chooseLead State.updateBlind
  split <;> rename_i hblind hlead <;> dsimp only at hblind hlead <;> simp [hblind, hlead]

/-- The lead mast and the judgement of the masts leave the gust list. -/
theorem State.GustsOk.judged (h : s.GustsOk) : s.pushMasts.chooseLead.judgeMasts.GustsOk := by
  have wgt := s.pushMasts.chooseLead_wgt
  have lead : s.pushMasts.chooseLead.GustsOk :=
    h.ofList (by rw [wgt]; exact h.list) (by rw [wgt]; rfl)
  exact lead.ofList lead.list rfl

theorem State.GustsOk.closeWind (h : s.GustsOk) : s.closeWind.GustsOk := by
  have aged := h.judged.gustMembership.closeGusts.ageGusts
  exact aged.ofList aged.list rfl

/-- The apply at the WGT (R66). -/
theorem State.GustsOk.applyMast (h : s.GustsOk) (n : Nat) (before after : Option (Kind × Identity)) :
    (s.applyMast n before after).GustsOk := by
  have masts : ∀ f, (s.updMast n f).GustsOk := fun f => h.ofList h.list rfl
  have dropped : (s.dropMast n).GustsOk := h.ofList h.list rfl
  have created : (s.createMast n).GustsOk := h.ofList h.list rfl
  unfold State.applyMast
  split
  · split
    · exact h
    · exact (masts _).leaveGusts n
  · exact dropped.leaveGusts n
  · exact created
  · exact h

theorem State.GustsOk.changeOccupant (h : s.GustsOk) (n : Nat) (before after : Option (Kind × Identity)) :
    (s.changeOccupant n before after).GustsOk :=
  ((h.applyMast n before after).ofKeeps (State.applyGauge_keeps ..)).ofKeeps (State.applyMonitor_keeps ..)

/-- Of the removals one of a station alone reaches the WGT. -/
theorem State.GustsOk.applyOut (h : s.GustsOk) (x : Item) : (s.applyOut x).GustsOk := by
  cases x with
  | remove k =>
    cases k with
    | station n => exact (h.ofKeeps (State.dropStation_keeps ..)).changeOccupant ..
    | pile n => exact (h.ofKeeps (State.dropPile_keeps ..)).ofKeeps (State.dropWind_keeps ..)
    | zone n => exact (h.ofKeeps (State.dropZone_keeps ..)).ofKeeps (State.dropZoneResult_keeps ..)
    | path p z => exact h.ofKeeps (State.dropPath_keeps ..)
    | site => exact h
  | _ => exact h

/-- Of the puts one of a station alone reaches the WGT. -/
theorem State.GustsOk.applyPut (h : s.GustsOk) (x : Item) : (s.applyPut x).GustsOk := by
  cases x with
  | remove k => exact h
  | station c => exact (h.ofKeeps (State.applyStation_keeps ..)).changeOccupant ..
  | pile c => exact (h.ofKeeps (State.applyPile_keeps ..)).ofKeeps (State.applyWind_keeps ..)
  | zone c => exact (h.ofKeeps (State.applyZone_keeps ..)).ofKeeps (State.applyZoneResult_keeps ..)
  | path c => exact h.ofKeeps (State.applyPath_keeps ..)
  | site p => exact h.ofWgt rfl

theorem State.GustsOk.applySet (h : s.GustsOk) : s.applySet.GustsOk := by
  have items : (s.applyItems s.cau.items).GustsOk :=
    foldl_holds (P := State.GustsOk) (fun _ x ht => ht.applyPut x) _
      (foldl_holds (P := State.GustsOk) (fun _ x ht => ht.applyOut x) _ h)
  unfold State.applySet
  split
  · split
    · exact h.ofKeeps (State.freeSet_keeps ..)
    · exact (items.ofKeeps (State.record_keeps ..)).ofKeeps (State.freeSet_keeps ..)
  · exact h
  · exact h
  · exact h

theorem State.GustsOk.closing (h : s.GustsOk) (p : Progress) : (s.closing p).GustsOk :=
  State.GustsOk.applySet (s := s.atClose p) (h.ofWgt rfl)

theorem State.GustsOk.closeRound (h : s.GustsOk) : s.closeRound.GustsOk := by
  unfold State.closeRound
  split
  · exact h
  · rename_i p _
    split
    · have wind := ((h.closing p).ofKeeps (State.closeLoop_keeps _)).closeWind
      exact (wind.ofKeeps (State.closeSite_keeps _)).ofKeeps (State.assess_keeps _)
    · exact h

/-! ## The readings, RESTART and the commands -/

/-- A MAST reading touches the mast records alone (R46). -/
theorem State.GustsOk.handOff (h : s.GustsOk) (n code : Nat) (r : Reading) (fresh : Bool) :
    (s.handOff n code r fresh).GustsOk := by
  cases r with
  | mast speed direction => exact h.ofList h.list rfl
  | dust c => exact h.ofWgt rfl
  | gauge rh rain => exact h.ofWgt rfl

theorem State.GustsOk.delivered (h : s.GustsOk) (n : Nat) (f : StationFrame) (hA hB : Bool) :
    (s.delivered n f hA hB).GustsOk := by
  cases hx : s.station n with
  | none =>
    have still : s.delivered n f hA hB = s := by simp [State.delivered, hx]
    rwa [still]
  | some x =>
    rw [State.delivered_eq hx rfl]
    have entered := h.ofKeeps (State.enterVerdict_keeps s n x (x.afterVerdict s.flc.round f hA hB))
    split
    · exact entered.handOff ..
    · exact entered

theorem State.GustsOk.passVerdict (h : s.GustsOk) (n ring : Nat) (v : Verdict) :
    (s.passVerdict n ring v).GustsOk := by
  cases v with
  | delivered f hA hB => exact (h.ofKeeps (State.noteVerdict_keeps ..)).delivered ..
  | missing => exact h.ofKeeps (State.missed_keeps n s)
  | clash =>
    have reclassed : ({ s with flc := s.flc.reclassBoth 1 } : State).GustsOk := h.ofWgt rfl
    exact reclassed.ofKeeps (State.missed_keeps ..)

theorem State.GustsOk.endSlot (h : s.GustsOk) (n : Nat) : (s.endSlot n).GustsOk := by
  unfold State.endSlot
  split
  · exact h
  · rename_i p _
    split
    · have ended : ({ s.reach (p.start + slotEndTime n) with
          flc.progress := some { p with slotsEnded := n } } : State).GustsOk := h.ofWgt rfl
      dsimp only
      split
      · exact ended
      · exact ended.passVerdict ..
    · exact h

/-- RESTART empties the list and keeps the next id (R67). -/
theorem State.GustsOk.restartWind (h : s.GustsOk) : s.restartWind.GustsOk := by
  have empty : GustList [] := ⟨by decide, by simp, List.Pairwise.nil⟩
  unfold State.restartWind
  dsimp only
  split <;> exact h.ofList empty rfl

theorem restartCommand_gustsOk (h : s.GustsOk) (a : Asked) : (restartCommand a s).GustsOk := by
  have answered := ((h.ofKeeps (State.restartLoop_keeps s)).ofKeeps (State.markRestart_keeps a.port _)).ofKeeps
    (State.reply_keeps a .done [[(s.restartLoop.markRestart a.port).wrl.epoch]] _)
  have winds := (answered.ofKeeps (State.restartStations_keeps _)).restartWind
  exact (((winds.ofKeeps (State.restartSite_keeps _)).ofKeeps (State.restartRisk_keeps _)).ofKeeps
    (State.restartZones_keeps _)).ofKeeps (State.restartSet_keeps _)

theorem runCommand_gustsOk (h : s.GustsOk) (c : Command) (a : Asked) : (runCommand c a s).GustsOk := by
  cases c with
  | restart => exact restartCommand_gustsOk h a
  | stage => exact h.ofKeeps (stageCommand_keeps ..)
  | discard => exact h.ofKeeps (discardCommand_keeps ..)
  | propose => exact h.ofKeeps (proposeCommand_keeps ..)
  | accept => exact h.ofKeeps (acceptCommand_keeps ..)
  | refuse => exact h.ofKeeps (refuseCommand_keeps ..)
  | status => exact h.ofKeeps (statusCommand_keeps ..)
  | readZone => exact h.ofKeeps (readZoneCommand_keeps ..)
  | readPile => exact h.ofKeeps (readPileCommand_keeps ..)
  | readStations => exact h.ofKeeps (readStationsCommand_keeps ..)
  | readStrangers => exact h.ofKeeps (readStrangersCommand_keeps ..)
  | readGusts => exact h.ofKeeps (readGustsCommand_keeps ..)
  | readPaths => exact h.ofKeeps (readPathsCommand_keeps ..)
  | readConfigItem => exact h.ofKeeps (readConfigItemCommand_keeps ..)
  | readLoop => exact h.ofKeeps (readLoopCommand_keeps ..)
  | readLogNext => exact h.ofKeeps (readLogNextCommand_keeps ..)
  | readLogAt => exact h.ofKeeps (readLogAtCommand_keeps ..)
  | reportWetting => exact h.ofKeeps (reportWettingCommand_keeps ..)
  | reportActivity => exact h.ofKeeps (reportActivityCommand_keeps ..)
  | floor => exact h.ofKeeps (floorCommand_keeps ..)
  | ackAlert => exact h.ofKeeps (ackAlertCommand_keeps ..)
  | silence => exact h.ofKeeps (silenceCommand_keeps ..)
  | service => exact h.ofKeeps (serviceCommand_keeps ..)
  | test => exact h.ofKeeps (testCommand_keeps ..)
  | clearLine => exact h.ofKeeps (clearLineCommand_keeps ..)
  | ackLoss => exact h.ofKeeps (ackLossCommand_keeps ..)

theorem judgeCommand_gustsOk (h : s.GustsOk) (c : Option Command) (a : Asked) :
    (judgeCommand c a s).GustsOk := by
  have answered : ∀ r, (s.reply a r []).GustsOk := fun r => h.ofKeeps (State.reply_keeps ..)
  unfold judgeCommand
  split
  · exact answered _
  · split
    · exact answered _
    · split
      · exact runCommand_gustsOk h ..
      · exact answered _

theorem State.GustsOk.updPort (h : s.GustsOk) (port : Port) (f : PortState → PortState) :
    (s.updPort port f).GustsOk := h.ofKeeps (State.updPort_keeps ..)

theorem State.GustsOk.issue (h : s.GustsOk) (port : Port) (tag : Byte) (c : Command) :
    (s.issue port tag c).GustsOk := by
  rw [State.issue_eq]
  exact judgeCommand_gustsOk (h.ofKeeps (State.held_keeps ..)) ..

theorem State.GustsOk.takeContent (h : s.GustsOk) (port : Port) (content : List Byte) (releases : Bool) :
    (s.takeContent port content releases).GustsOk := by
  unfold State.takeContent
  split
  · exact h.ofKeeps (State.reply_keeps ..)
  · exact judgeCommand_gustsOk h ..

/-- A frame that is received may be a RESTART (R172). -/
theorem State.GustsOk.receiveFrame (h : s.GustsOk) (port : Port) (bytes : List Byte) (e : Bool) :
    (s.receiveFrame port bytes e).GustsOk := by
  have hunting : (s.setReceiver port .hunting).GustsOk := h.updPort ..
  have heard := hunting.ofKeeps (State.restartWatch_keeps port _)
  unfold State.receiveFrame State.judgeFrame State.holdContent
  split
  · exact h.ofKeeps (State.openFrame_keeps ..)
  · dsimp only
    split
    · exact hunting
    · split
      · exact (heard.updPort ..).takeContent ..
      · exact heard.updPort ..
      · exact heard.updPort ..

/-- So may the waiting command that is taken when a frame has gone out (R172, R176). -/
theorem State.GustsOk.completeFrame (h : s.GustsOk) (port : Port) : (s.completeFrame port).GustsOk := by
  have released : ∀ {t : State}, t.GustsOk → (t.releaseHolding port).GustsOk := fun ht => by
    unfold State.releaseHolding
    dsimp only
    split
    · exact ht.updPort ..
    · exact (ht.updPort ..).takeContent ..
  unfold State.completeFrame
  split
  · exact h
  · have sent : ∀ e f, ((s.reach e).updPort port f).GustsOk := fun e f =>
      (h.ofKeeps (State.reach_keeps e s)).updPort ..
    dsimp only
    split
    · exact released (sent _ _)
    · exact sent _ _

/-- The gust list is empty after POWER, and the next id is 1 (R69). -/
theorem State.reset_gustsOk : State.reset.GustsOk :=
  ⟨by decide, by decide, by simp [State.reset, Wgt.afterPower], List.Pairwise.nil, List.Pairwise.nil⟩

theorem State.GustsOk.ofNext {u t : State} (he : (.next u : Host.Outcome State Fault Refusal) = .next t)
    (hu : u.GustsOk) : t.GustsOk := by
  cases he
  exact hu

/-- Every command keeps the gust list: POWER, the end of a slot, a round close and a RESTART, in a row or in a
frame, reach the WGT, and nothing else does. -/
theorem exec_gustsOk (i : Instr) {t : State} (h : s.GustsOk) (he : exec i s = .next t) : t.GustsOk := by
  cases i
  case power => exact .ofNext he (State.reset_gustsOk.ofWgt rfl)
  case slotEnd n => exact .ofNext he (h.endSlot n)
  case roundClose => exact .ofNext he h.closeRound
  case portFrame port bytes e => exact .ofNext he (h.receiveFrame port bytes e)
  case transmitComplete port => exact .ofNext he (h.completeFrame port)
  case listenPeriodEnd => exact .ofNext he (h.ofKeeps (State.endListen_keeps s))
  case roundStart => exact .ofNext he (h.ofKeeps (State.startRound_keeps s))
  case masterSilenceExpiry port => exact .ofNext he (h.ofKeeps (State.expireWatch_keeps port s))
  case short n => exact .ofNext he (h.ofKeeps (State.shortLine_keeps n s))
  case lineCheck sense => exact .ofNext he (h.ofKeeps (State.checkLines_keeps sense s))
  case floorExpiry n role => exact .ofNext he (h.ofKeeps (State.expireFloor_keeps n role s))
  case silenceExpiry n => exact .ofNext he (h.ofKeeps (State.expireSilence_keeps n s))
  case testEnd n => exact .ofNext he (h.ofKeeps (State.completeTest_keeps n s))
  case foreignBeaconHeard => exact .ofNext he (h.ofKeeps (State.hearForeign_keeps s))
  case backOffEnd => exact .ofNext he (h.ofKeeps (State.endBackOff_keeps s))
  case phaseBOut => exact .ofNext he (h.ofKeeps (State.startPhaseB_keeps s))
  case loopCopy side w e bytes => exact .ofNext he (h.ofKeeps (State.takeCopy_keeps side w e bytes s))
  case retryWaitEnd n => exact .ofNext he (h.ofKeeps (State.endRetry_keeps n s))
  case patternPhaseChange g => exact .ofNext he (h.ofKeeps (State.changePhase_keeps g s))
  case cleanCountTick => exact .ofNext he (h.ofKeeps (State.cleanTick_keeps s))
  case idleExpiry => exact .ofNext he (h.ofKeeps (State.expireIdle_keeps s))
  case proposalExpiry => exact .ofNext he (h.ofKeeps (State.expireProposal_keeps s))
  case portFrameTimeout port => exact .ofNext he (h.ofKeeps (State.timeoutFrame_keeps port s))
  case portOpeningFlag port => exact .ofNext he (h.ofKeeps (State.openFrame_keeps port s))
  case portFrameOverlength port => exact .ofNext he (h.ofKeeps (State.discardLong_keeps port s))
  all_goals exact .ofNext he (h.issue ..)

end

/-- Settles O59: a step is the execution of one command, from the queue or from the clock. -/
theorem stepKeepsTheGustList : Obligations.StepKeepsTheGustList := by
  intro s t h hstep
  unfold step at hstep
  split at hstep
  · unfold idle at hstep
    split at hstep
    · cases hstep
      exact h
    · exact exec_gustsOk _ h hstep
  · rename_i c rest _
    have waiting : ({ s with pending := rest } : State).GustsOk := h.ofWgt rfl
    exact exec_gustsOk c waiting hstep

end Sys2Proof.Machine

/-! # What a round close makes of the masts (R47 to R53) -/

namespace Sys2Proof.Machine

/-! ## The ring push and the mean (R47, R48) -/

/-- An absent reading and an invalid direction push an absent entry (R47). -/
theorem ringEntry_absent {r : Option MastReading} (h : ∀ x, r = some x → 360 ≤ x.direction) (heater : Bool) :
    ringEntry r = none ∧ heaterAfter heater r = heater := by
  cases r with
  | none => exact ⟨rfl, rfl⟩
  | some x =>
    have invalid := Nat.not_lt.mpr (h x rfl)
    exact ⟨if_neg invalid, if_neg invalid⟩

/-- A reading with a direction below 360 is pushed (R47). -/
theorem ringEntry_present {r : MastReading} (h : r.direction < 360) (heater : Bool) :
    ringEntry (some r) = some { speed := r.speed, direction := r.direction }
    ∧ heaterAfter heater (some r) = r.heater := ⟨if_pos h, if_pos h⟩

/-- A pushed entry has the speed of the reading. -/
theorem ringEntry_speed {r : Option MastReading} {x : Sample} (h : ringEntry r = some x) :
    ∃ y, r = some y ∧ x.speed = y.speed := by
  cases r with
  | none => cases h
  | some y =>
    unfold ringEntry at h
    dsimp only at h
    split at h
    · cases h
      exact ⟨y, rfl, rfl⟩
    · cases h

theorem accAfter_eq_none_iff {acc : Option Nat} {entry : Option Sample} :
    accAfter acc entry = none ↔ acc = none ∧ entry = none := by
  cases acc <;> cases entry <;> simp [accAfter]

/-- A step of the accumulator stays within 384,000 (R48): 750 x 512, where what it loses is what it gains. -/
theorem accAfter_le {acc : Option Nat} {entry : Option Sample} (hacc : ∀ a, acc = some a → a ≤ 384000)
    (hentry : ∀ x, entry = some x → x.speed ≤ 750) : ∀ a, accAfter acc entry = some a → a ≤ 384000 := by
  intro a ha
  cases entry with
  | none => exact hacc a (by simpa [accAfter] using ha)
  | some x =>
    have speed := hentry x rfl
    cases acc with
    | none =>
      have seed : x.speed * 512 = a := by simpa [accAfter] using ha
      omega
    | some b =>
      have moved : b - b / 512 + x.speed = a := by simpa [accAfter] using ha
      have bound := hacc b rfl
      omega

/-! ## The values of a ring (R49) -/

theorem presentEntries_eq (ring : List (Option Sample)) : presentEntries ring = ring.filterMap id := by
  induction ring with
  | nil => rfl
  | cons entry ring ih => cases entry <;> simp [presentEntries, ih]

theorem peakOf_eq_none_iff {xs : List Sample} : peakOf xs = none ↔ xs = [] := by
  cases xs with
  | nil => simp [peakOf]
  | cons x xs =>
    unfold peakOf
    split <;> simp

/-- The peak is the speed of an entry that no other one exceeds. -/
theorem peakOf_spec : ∀ {xs : List Sample} {q : Nat}, peakOf xs = some q →
    (∃ x ∈ xs, x.speed = q) ∧ ∀ x ∈ xs, x.speed ≤ q
  | [], _, h => by cases h
  | x :: xs, q, h => by
    unfold peakOf at h
    split at h
    · rename_i hn
      obtain rfl := Option.some.inj h
      simp [peakOf_eq_none_iff.mp hn]
    · rename_i p hp
      obtain ⟨⟨y, hy, hyp⟩, hle⟩ := peakOf_spec hp
      obtain rfl := Option.some.inj h
      refine ⟨?_, fun z hz => ?_⟩
      · rcases Nat.le_total p x.speed with hmax | hmax
        · exact ⟨x, List.mem_cons_self .., (Nat.max_eq_left hmax).symm⟩
        · exact ⟨y, List.mem_cons_of_mem _ hy, hyp.trans (Nat.max_eq_right hmax).symm⟩
      · rcases List.mem_cons.mp hz with rfl | hz
        · exact Nat.le_max_left ..
        · exact (hle z hz).trans (Nat.le_max_right ..)

theorem newestWith_eq_none_iff {p : Nat} : ∀ {xs : List Sample},
    newestWith p xs = none ↔ ∀ x ∈ xs, x.speed ≠ p
  | [] => by simp [newestWith]
  | x :: xs => by
    have ih := newestWith_eq_none_iff (p := p) (xs := xs)
    unfold newestWith
    split
    · rename_i d hd
      rw [hd] at ih
      simp at ih ⊢
      exact fun _ => ih
    · rename_i hn
      have absent := ih.mp hn
      by_cases hx : x.speed = p
      · simp [hx]
      · simpa [hx] using absent

/-- The newest entry of a speed stands before none of that speed. -/
theorem newestWith_spec {p d : Nat} : ∀ {xs : List Sample}, newestWith p xs = some d →
    ∃ before x later, xs = before ++ x :: later ∧ x.speed = p ∧ d = x.direction ∧ ∀ y ∈ later, y.speed ≠ p
  | [], h => by cases h
  | x :: xs, h => by
    unfold newestWith at h
    split at h
    · rename_i e he
      obtain ⟨before, y, later, hxs, hy, hd, hlater⟩ := newestWith_spec (h ▸ he)
      exact ⟨x :: before, y, later, by rw [hxs, List.cons_append], hy, hd, hlater⟩
    · rename_i hn
      split at h
      · rename_i hx
        exact ⟨[], x, xs, rfl, hx, (Option.some.inj h).symm, newestWith_eq_none_iff.mp hn⟩
      · cases h

theorem newestDir_eq : ∀ xs : List Sample, newestDir xs = xs.getLast?.map (fun x => x.direction)
  | [] => rfl
  | [_] => rfl
  | _ :: y :: rest => (newestDir_eq (y :: rest)).trans (by rw [List.getLast?_cons_cons])

/-! ## The lead mast (R50) -/

theorem leadOf_eq_none_iff {ms : List Mast} : leadOf ms = none ↔ ∀ m ∈ ms, m.summary.available = false := by
  induction ms with
  | nil => simp [leadOf]
  | cons m ms ih =>
    unfold leadOf
    split
    · rename_i hn
      simpa using fun _ => ih.mp hn
    · rename_i x hx
      have some_available : ¬ ∀ y ∈ ms, y.summary.available = false := fun h => by simp [ih.mpr h] at hx
      have lead : (if m.summary.available ∧ x.summary.mean.getD 0 ≤ m.summary.mean.getD 0 then some m
          else some x) ≠ none := by split <;> simp
      exact iff_of_false lead fun h => some_available fun y hy => h y (List.mem_cons_of_mem _ hy)

/-- The lead mast is available, and every other available mast has a lower mean, or the same one and a higher
slot (R50). -/
theorem leadOf_spec : ∀ {ms : List Mast} {m : Mast}, ms.Pairwise (fun x y => x.slot < y.slot) →
    leadOf ms = some m → m ∈ ms ∧ m.summary.available = true
      ∧ ∀ x ∈ ms, x.summary.available = true → x.summary.mean.getD 0 < m.summary.mean.getD 0
          ∨ (x.summary.mean.getD 0 = m.summary.mean.getD 0 ∧ m.slot ≤ x.slot)
  | [], _, _, h => by cases h
  | a :: ms, m, hsorted, h => by
    obtain ⟨ha, hms⟩ := List.pairwise_cons.mp hsorted
    unfold leadOf at h
    split at h
    · rename_i hn
      have others := leadOf_eq_none_iff.mp hn
      split at h
      · rename_i hav
        cases h
        refine ⟨List.mem_cons_self .., hav, fun x hx hxa => ?_⟩
        rcases List.mem_cons.mp hx with rfl | hx
        · exact .inr ⟨rfl, Nat.le_refl _⟩
        · exact absurd (others x hx) (by simp [hxa])
      · cases h
    · rename_i y hy
      obtain ⟨hmem, hav, hmost⟩ := leadOf_spec hms hy
      split at h
      · rename_i hc
        cases h
        refine ⟨List.mem_cons_self .., hc.1, fun x hx hxa => ?_⟩
        rcases List.mem_cons.mp hx with rfl | hx
        · exact .inr ⟨rfl, Nat.le_refl _⟩
        · have least := hmost x hx hxa
          have slot := ha x hx
          omega
      · rename_i hc
        cases h
        refine ⟨List.mem_cons_of_mem _ hmem, hav, fun x hx hxa => ?_⟩
        rcases List.mem_cons.mp hx with rfl | hx
        · exact .inl (Nat.lt_of_not_le fun hle => hc ⟨hxa, hle⟩)
        · exact hmost x hx hxa

/-! ## The disagreement and the gust condition (R51, R53) -/

/-- The counters that a round close holds (R51). -/
theorem disagreeAfter_held {site : WindSite} {m : Mast}
    (h : site.lead = none ∨ site.lead = some m.slot ∨ m.summary.available = false
      ∨ m.summary.mean.getD 0 < 30) : disagreeAfter site m = m.disagree := by
  unfold disagreeAfter
  split
  · rename_i lead _ _ hlead _ _
    refine if_neg fun hc => ?_
    obtain ⟨hav, hslot, hmean⟩ := hc
    rw [hlead] at h
    rcases h with h | h | h | h
    · cases h
    · exact hslot (Option.some.inj h).symm
    · simp [hav] at h
    · omega
  · rfl

/-- The counters that it moves (R51). -/
theorem disagreeAfter_moved {site : WindSite} {m : Mast} {lead leadDir dir : Nat} (hlead : site.lead = some lead)
    (hslot : m.slot ≠ lead) (hav : m.summary.available = true) (hmean : 30 ≤ m.summary.mean.getD 0)
    (hsite : site.leadDir = some leadDir) (hdir : m.summary.latestDir = some dir) :
    disagreeAfter site m = if 60 < angleBetween dir leadDir then min 15 (m.disagree + 1) else 0 := by
  simp only [disagreeAfter, hlead, hsite, hdir, countTo]
  exact if_pos ⟨hav, hslot, hmean⟩

theorem gustCondition_iff {gThr gExc : Nat} {x : MastSummary} :
    gustCondition gThr gExc x = true ↔ x.available = true
      ∧ ∃ q mean, x.peak = some q ∧ x.mean = some mean ∧ gThr ≤ q ∧ mean + gExc ≤ q := by
  unfold gustCondition
  split
  · rename_i p m ha hp hm
    simp [ha, hp, hm]
  · rename_i h
    refine iff_of_false (by simp) ?_
    rintro ⟨ha, q, mean, hq, hmean, -⟩
    exact h q mean ha hq hmean

end Sys2Proof.Machine

/-! # The round close of the wind -/

namespace Sys2Proof.Machine

/-! ## What the gust list's update leaves of the WGT (R56) -/

/-- The WGT but for its gust list. -/
def Wgt.withoutGusts (w : Wgt) : Wgt := { w with gusts := [], nextId := 0 }

/-- A WGT that differs in the gust list alone. -/
theorem Wgt.eq_of_withoutGusts {w v : Wgt} (h : v.withoutGusts = w.withoutGusts) :
    v = { w with gusts := v.gusts, nextId := v.nextId } := by
  obtain ⟨⟩ := v
  obtain ⟨⟩ := w
  simpa [Wgt.withoutGusts] using h

section
variable (s : State) (slot dir peak : Nat)

theorem State.confirmGust_withoutGusts (id : Nat) :
    (s.confirmGust id slot).wgt.withoutGusts = s.wgt.withoutGusts := by
  unfold State.confirmGust
  split
  · rfl
  · split <;> rfl

theorem State.openGust_withoutGusts : (s.openGust slot dir peak).wgt.withoutGusts = s.wgt.withoutGusts := by
  unfold State.openGust
  split
  · rfl
  · split
    · rfl
    · split
      · exact State.confirmGust_withoutGusts ..
      · rfl

theorem State.gustMember_withoutGusts :
    (s.gustMember slot dir peak).wgt.withoutGusts = s.wgt.withoutGusts := by
  unfold State.gustMember
  split
  · rfl
  · split
    · exact State.confirmGust_withoutGusts ..
    · exact State.openGust_withoutGusts ..

theorem State.gustMembership_withoutGusts : s.gustMembership.wgt.withoutGusts = s.wgt.withoutGusts := by
  refine foldl_keeps (g := fun t => t.wgt.withoutGusts) (fun t (m : Mast) => ?_) _ s
  split
  · exact State.gustMember_withoutGusts ..
  · rfl

theorem State.closeGusts_withoutGusts : s.closeGusts.wgt.withoutGusts = s.wgt.withoutGusts := by
  rw [State.closeGusts_wgt]; rfl

theorem State.ageGusts_withoutGusts : s.ageGusts.wgt.withoutGusts = s.wgt.withoutGusts := by
  rw [State.ageGusts_wgt]; rfl

end

/-! ## The masts of a round close (R47 to R54) -/

/-- The masts after the ring push, with the values of R49. -/
def State.measured (s : State) : List Mast := s.wgt.masts.map (fun m => m.push.measure)

/-- The site part of the summary that a round close makes (R50, R54). -/
def State.windSite (s : State) : WindSite := windSiteOf s.measured

/-- A mast after the gust condition (R51 to R53). -/
def State.judgedMast (s : State) (m : Mast) : Mast :=
  m.push.measure.judge s.windSite s.cau.site.gThr s.cau.site.gExc

/-- The state on which the gust list is updated (R56). -/
def State.judged (s : State) : State := s.pushMasts.chooseLead.judgeMasts

/-- A mast at the end of a round close, with its counted gust (R64). -/
def State.closedMast (s : State) (m : Mast) : Mast :=
  { s.judgedMast m with
    summary := { (s.judgedMast m).summary with
      counted := countedGust s.windSite.available s.closeWind.wgt.gusts m.slot } }

section
variable (s : State) (m : Mast)

@[simp] theorem State.closedMast_slot : (s.closedMast m).slot = m.slot := rfl

@[simp] theorem State.closedMast_reading : (s.closedMast m).reading = none := rfl

@[simp] theorem State.closedMast_ring : (s.closedMast m).ring = m.ring.drop 1 ++ [ringEntry m.reading] := rfl

@[simp] theorem State.closedMast_acc : (s.closedMast m).acc = accAfter m.acc (ringEntry m.reading) := rfl

@[simp] theorem State.closedMast_heater : (s.closedMast m).heater = heaterAfter m.heater m.reading := rfl

@[simp] theorem State.closedMast_disagree : (s.closedMast m).disagree = disagreeAfter s.windSite m.push.measure := rfl

/-- The values of R49 stand in the summary as they were measured. -/
theorem State.closedMast_measured :
    (s.closedMast m).summary.present = m.push.measure.summary.present
    ∧ (s.closedMast m).summary.available = m.push.measure.summary.available
    ∧ (s.closedMast m).summary.peak = m.push.measure.summary.peak
    ∧ (s.closedMast m).summary.gustDir = m.push.measure.summary.gustDir
    ∧ (s.closedMast m).summary.latestDir = m.push.measure.summary.latestDir
    ∧ (s.closedMast m).summary.mean = m.push.measure.summary.mean := ⟨rfl, rfl, rfl, rfl, rfl, rfl⟩

theorem State.closedMast_mean :
    (s.closedMast m).summary.mean = (accAfter m.acc (ringEntry m.reading)).map (fun a => a / 512) := rfl

theorem State.closedMast_counted : (s.closedMast m).summary.counted =
    countedGust s.windSite.available s.closeWind.wgt.gusts m.slot := rfl

end

section
variable (s : State)

theorem State.judged_wgt : s.judged.wgt = { s.wgt with
    masts := s.wgt.masts.map s.judgedMast, site := s.windSite, windBlind := s.windSite.lead.isNone } := by
  have wgt := s.pushMasts.chooseLead_wgt
  have cau : s.pushMasts.chooseLead.cau = s.cau := (State.chooseLead_keeps _).cau (by decide)
  have judged : s.judged.wgt = { s.pushMasts.chooseLead.wgt with
      masts := s.pushMasts.chooseLead.wgt.masts.map (Mast.judge s.pushMasts.chooseLead.wgt.site
        s.pushMasts.chooseLead.cau.site.gThr s.pushMasts.chooseLead.cau.site.gExc) } := rfl
  have masts : s.pushMasts.wgt.masts = s.measured := rfl
  rw [judged, wgt, cau]
  dsimp only
  rw [masts, State.measured, List.map_map]
  rfl

/-- The state at the end of the gust list's update, before the counting (R57 to R63). -/
def State.gustsUpdated : State := s.judged.gustMembership.closeGusts.ageGusts

theorem State.gustsUpdated_wgt : s.gustsUpdated.wgt = { s.judged.wgt with
    gusts := s.gustsUpdated.wgt.gusts, nextId := s.gustsUpdated.wgt.nextId } := by
  refine Wgt.eq_of_withoutGusts ?_
  rw [State.gustsUpdated, State.ageGusts_withoutGusts, State.closeGusts_withoutGusts,
    State.gustMembership_withoutGusts]

theorem State.countGusts_wgt : s.countGusts.wgt = { s.wgt with masts := s.wgt.masts.map (fun m =>
    { m with summary := { m.summary with counted := countedGust s.wgt.site.available s.wgt.gusts m.slot } }) } :=
  rfl

theorem State.closeWind_counted : s.closeWind.wgt =
    { s.gustsUpdated.countGusts.wgt with lastClose := some s.gustsUpdated.countGusts.flc.round } := by
  simp only [State.closeWind, State.gustsUpdated, State.judged]

theorem State.closeWind_gusts : s.closeWind.wgt.gusts = s.gustsUpdated.wgt.gusts := by
  rw [State.closeWind_counted, State.countGusts_wgt]

theorem State.closeWind_site : s.closeWind.wgt.site = s.windSite := by
  rw [State.closeWind_counted, State.countGusts_wgt, State.gustsUpdated_wgt, State.judged_wgt]

theorem State.closeWind_blind : s.closeWind.wgt.windBlind = s.windSite.lead.isNone := by
  rw [State.closeWind_counted, State.countGusts_wgt, State.gustsUpdated_wgt, State.judged_wgt]

theorem State.closeWind_masts : s.closeWind.wgt.masts = s.wgt.masts.map s.closedMast := by
  have masts : s.gustsUpdated.wgt.masts = s.wgt.masts.map s.judgedMast := by
    rw [State.gustsUpdated_wgt, State.judged_wgt]
  have site : s.gustsUpdated.wgt.site = s.windSite := by rw [State.gustsUpdated_wgt, State.judged_wgt]
  rw [State.closeWind_counted, State.countGusts_wgt]
  dsimp only
  rw [masts, site, ← State.closeWind_gusts, List.map_map]
  rfl

/-- A mast record after a round close. -/
theorem State.closeWind_mast (n : Nat) : s.closeWind.mast n = (s.mast n).map s.closedMast := by
  have found : ∀ l : List Mast, findKey (fun m : Mast => m.slot) n (l.map s.closedMast)
      = (findKey (fun m : Mast => m.slot) n l).map s.closedMast := fun l => by
    induction l with
    | nil => rfl
    | cons m l ih =>
      by_cases h : m.slot = n <;> simp [findKey, h, ih]
  rw [State.mast, State.closeWind_masts]
  exact found _

end

theorem Flc.tallied_round (f : Flc) : f.tallied.round = f.round := by
  simp only [Flc.tallied, Flc.updateCounters, Flc.estimate, Flc.endCounts, Flc.reclassBoth]

/-- The FLC keeps its round through a round close (R19). -/
theorem State.closeLoop_round (s : State) : s.closeLoop.flc.round = s.flc.round := by
  rw [State.closeLoop_eq, State.withFlc_flc]
  exact s.flc.tallied.settled_tally.round.trans s.flc.tallied_round

/-- What a round close makes of the WGT, and of the parameters in force (R3, R66). -/
theorem State.closeRound_wind {s : State} {p : Progress} (hr : s.flc.mode.runs = true)
    (hp : s.flc.progress = some p) (hc : p.closed = false) : ∃ v : State, v.wgt = (s.closing p).wgt
      ∧ v.flc.round = s.flc.round ∧ s.closeRound.wgt = v.closeWind.wgt ∧ s.closeRound.cau = v.cau := by
  refine ⟨(s.closing p).closeLoop, (State.closeLoop_keeps _).wgt (by decide), ?_, ?_, ?_⟩
  · rw [State.closeLoop_round, State.closing_flc]
  · rw [State.closeRound_open hr hp hc, (State.assess_keeps _).wgt (by decide),
      (State.closeSite_keeps _).wgt (by decide)]
  · rw [State.closeRound_open hr hp hc, (State.assess_keeps _).cau (by decide),
      (State.closeSite_keeps _).cau (by decide), (State.closeWind_keeps _).cau (by decide)]

theorem State.mast_congr {s t : State} (h : t.wgt = s.wgt) (n : Nat) : t.mast n = s.mast n := by
  rw [State.mast, h, State.mast]

/-- Settles O16: the new entry is present or absent with the reading, and the accumulator follows it. -/
theorem roundCloseShiftsTheRings : Obligations.RoundCloseShiftsTheRings := by
  intro s p hr hp hc
  obtain ⟨v, before, -, after, -⟩ := State.closeRound_wind hr hp hc
  refine ⟨s.closeRound, rfl, fun n => ?_⟩
  rw [State.mast_congr after n, State.closeWind_mast, State.mast_congr before n]
  refine ⟨fun h => by rw [h]; rfl, fun m hm => ⟨v.closedMast m, by rw [hm]; rfl, ?_⟩⟩
  rw [State.closedMast_reading, State.closedMast_ring, State.closedMast_acc, State.closedMast_heater,
    State.closedMast_mean]
  refine ⟨rfl, fun hinvalid => ?_, fun r hreading hvalid => ?_, rfl, fun hacc hspeed => ?_, ?_⟩
  · obtain ⟨entry, heater⟩ := ringEntry_absent hinvalid m.heater
    rw [entry]
    exact ⟨rfl, rfl, heater⟩
  · obtain ⟨entry, heater⟩ := ringEntry_present hvalid m.heater
    rw [hreading, entry]
    exact ⟨rfl, heater, fun h => by rw [h]; rfl, fun a h => by rw [h]; rfl⟩
  · refine accAfter_le hacc fun x hx => ?_
    obtain ⟨r, hreading, speed⟩ := ringEntry_speed hx
    exact speed ▸ hspeed r hreading
  · rintro hset ⟨e, he⟩ hunset
    obtain ⟨acc, entry⟩ := accAfter_eq_none_iff.mp hunset
    rw [entry] at he
    have old : some e ∈ m.ring.drop 1 := by simpa using he
    exact hset ⟨e, List.mem_of_mem_drop old⟩ acc

end Sys2Proof.Machine

/-! # The judgement of the wind (R49 to R54, R64) -/

namespace Sys2Proof.Machine

/-! ## The values of a mast (R49, R52, R53) -/

/-- The values of a mast at the end of a round close. -/
theorem State.closedMast_judged (s : State) (m : Mast) :
    MastJudged s.windSite.leadDir s.cau.site.gThr s.cau.site.gExc (s.closedMast m) := by
  obtain ⟨xs, hxs⟩ : ∃ xs, xs = presentEntries m.push.ring := ⟨_, rfl⟩
  have entries : (s.closedMast m).ring.filterMap id = xs := by rw [hxs, presentEntries_eq]; rfl
  have peak : (s.closedMast m).summary.peak = peakOf xs := by rw [hxs]; rfl
  have dir : (s.closedMast m).summary.gustDir = (peakOf xs).bind (fun p => newestWith p xs) := by rw [hxs]; rfl
  have latest : (s.closedMast m).summary.latestDir = newestDir xs := by rw [hxs]; rfl
  constructor
  case present => rw [entries, hxs]; rfl
  case available => rfl
  case none_ =>
    intro empty
    rw [entries] at empty
    rw [peak, dir, latest, empty]
    exact ⟨rfl, rfl, rfl⟩
  case peak =>
    intro x hx
    rw [entries] at hx
    rw [peak]
    cases hq : peakOf xs with
    | none =>
      rw [peakOf_eq_none_iff.mp hq] at hx
      exact absurd hx List.not_mem_nil
    | some q => exact ⟨q, rfl, (peakOf_spec hq).2 x hx⟩
  case gustDir =>
    intro q hq
    rw [peak] at hq
    obtain ⟨⟨x, hx, hxq⟩, -⟩ := peakOf_spec hq
    rw [entries, dir, hq, Option.bind_some]
    cases hd : newestWith q xs with
    | none => exact absurd hxq (newestWith_eq_none_iff.mp hd x hx)
    | some d =>
      obtain ⟨before, y, later, split, speed, rfl, newest⟩ := newestWith_spec hd
      exact ⟨before, y, later, split, speed, rfl, newest⟩
  case latestDir => rw [latest, entries, newestDir_eq]
  case fields => exact ⟨rfl, rfl, rfl⟩
  case effective =>
    intro available
    exact ⟨if_pos available, if_pos available⟩
  case absent =>
    intro unavailable
    have shut : ¬ m.push.measure.summary.available = true := Bool.eq_false_iff.mp unavailable
    exact ⟨if_neg shut, if_neg shut⟩
  case gusting => exact gustCondition_iff

/-- An available mast has a latest direction and a direction of its peak (R49). -/
theorem State.closedMast_directions {s : State} {m : Mast} (h : (s.closedMast m).summary.available = true) :
    (s.closedMast m).summary.latestDir ≠ none ∧ (s.closedMast m).summary.gustDir ≠ none := by
  have judged := s.closedMast_judged m
  have four : 4 ≤ (s.closedMast m).summary.present := by
    rw [judged.available] at h
    exact of_decide_eq_true h
  rw [judged.present] at four
  constructor
  · rw [judged.latestDir]
    intro hn
    rw [Option.map_eq_none_iff, List.getLast?_eq_none_iff] at hn
    rw [hn] at four
    exact absurd four (by decide)
  · obtain ⟨x, hx⟩ := List.exists_mem_of_length_pos (Nat.lt_of_lt_of_le (by decide) four)
    obtain ⟨q, hq, -⟩ := judged.peak x hx
    obtain ⟨before, y, later, -, -, hd, -⟩ := judged.gustDir q hq
    rw [hd]
    exact Option.some_ne_none _

/-! ## The counted gust (R64) -/

/-- A mast is in the counted gust of the record of which it is a member. -/
theorem countedGust_eq_some_iff {gs : List Gust} (h : GustList gs) {available slot id : Nat} :
    countedGust available gs slot = some id ↔ ∃ g ∈ gs, g.id = id ∧ slot ∈ g.members
      ∧ (g.state = .confirmed ∨ (g.state = .opened ∧ available = 1)) := by
  unfold countedGust
  split
  · rename_i hm
    refine iff_of_false (by simp) ?_
    rintro ⟨g, hg, -, member, counts⟩
    have live : g.live = true := Gust.live_iff.mpr (by rcases counts with h | ⟨h, -⟩ <;> simp [h])
    exact memberOf_eq_none_iff.mp hm g hg live member
  · rename_i g hm
    obtain ⟨hg, live, member⟩ := (memberOf_eq_some_iff h).mp hm
    have only : ∀ x ∈ gs, slot ∈ x.members → x.live = true → x = g := fun x hx hn hl => by
      have found := (memberOf_eq_some_iff h).mpr ⟨hx, hl, hn⟩
      rw [hm] at found
      exact (Option.some.inj found).symm
    have counted : (∃ x ∈ gs, x.id = id ∧ slot ∈ x.members
        ∧ (x.state = .confirmed ∨ (x.state = .opened ∧ available = 1)))
        ↔ g.id = id ∧ (g.state = .confirmed ∨ (g.state = .opened ∧ available = 1)) := by
      constructor
      · rintro ⟨x, hx, hid, hn, counts⟩
        have live : x.live = true := Gust.live_iff.mpr (by rcases counts with h | ⟨h, -⟩ <;> simp [h])
        rw [← only x hx hn live]
        exact ⟨hid, counts⟩
      · rintro ⟨hid, counts⟩
        exact ⟨g, hg, hid, member, counts⟩
    rw [counted]
    cases hstate : g.state with
    | confirmed => simp
    | opened => by_cases ha : available = 1 <;> simp [ha]
    | closed => exact absurd hstate (Gust.live_iff.mp live)

/-! ## The lead mast and the disagreement (R50, R51) -/

theorem windSiteOf_available (ms : List Mast) : (windSiteOf ms).available = availableCount ms := by
  unfold windSiteOf
  split <;> rfl

/-- A site without a lead mast has no available mast. -/
theorem windSiteOf_blind {ms : List Mast} (h : (windSiteOf ms).lead = none) :
    (∀ m ∈ ms, m.summary.available = false) ∧ (windSiteOf ms).available = 0
      ∧ (windSiteOf ms).leadMean = none ∧ (windSiteOf ms).leadDir = none := by
  cases hl : leadOf ms with
  | some m => simp [windSiteOf, hl] at h
  | none =>
    have absent := leadOf_eq_none_iff.mp hl
    refine ⟨absent, ?_, by simp [windSiteOf, hl], by simp [windSiteOf, hl]⟩
    rw [windSiteOf_available, availableCount, List.filter_eq_nil_iff.mpr fun m hm => by simp [absent m hm]]
    rfl

/-- The lead mast with its mean and latest direction. -/
theorem windSiteOf_lead {ms : List Mast} {n : Nat} (h : (windSiteOf ms).lead = some n) :
    ∃ m, leadOf ms = some m ∧ m.slot = n ∧ (windSiteOf ms).leadMean = m.summary.mean
      ∧ (windSiteOf ms).leadDir = m.summary.latestDir := by
  cases hl : leadOf ms with
  | none => simp [windSiteOf, hl] at h
  | some m => exact ⟨m, rfl, by simpa [windSiteOf, hl] using h, by simp [windSiteOf, hl], by simp [windSiteOf, hl]⟩

section
variable {s : State}

/-- The mast records stand in the order of their slots (R45). -/
theorem State.TablesOk.masts_sorted (h : s.TablesOk) : s.wgt.masts.Pairwise (fun x y => x.slot < y.slot) := by
  have slots : (s.slotsOf .mast).Pairwise (· < ·) := List.pairwise_map.mpr (h.stations.filter _)
  rw [← h.masts] at slots
  exact List.pairwise_map.mp slots

/-- The available masts at the end of a round close are those that were counted. -/
theorem State.closeWind_available (s : State) :
    s.windSite.available = (s.closeWind.wgt.masts.filter (fun m => m.summary.available)).length := by
  rw [State.windSite, windSiteOf_available, availableCount, State.measured, State.closeWind_masts,
    List.filter_map, List.length_map, List.filter_map, List.length_map]
  rfl

/-- The lead mast among the masts at the end of a round close (R50). -/
theorem State.closeWind_lead {n : Nat} (sorted : s.wgt.masts.Pairwise (fun x y => x.slot < y.slot))
    (h : s.windSite.lead = some n) : ∃ m, s.mast n = some m ∧ (s.closedMast m).summary.available = true
      ∧ s.windSite.leadMean = (s.closedMast m).summary.mean
      ∧ s.windSite.leadDir = (s.closedMast m).summary.latestDir
      ∧ ∀ x ∈ s.closeWind.wgt.masts, x.summary.available = true →
          x.summary.mean.getD 0 < (s.closedMast m).summary.mean.getD 0
          ∨ (x.summary.mean.getD 0 = (s.closedMast m).summary.mean.getD 0 ∧ n ≤ x.slot) := by
  obtain ⟨y, hy, rfl, mean, dir⟩ := windSiteOf_lead h
  have measured : s.measured.Pairwise (fun x y => x.slot < y.slot) := List.pairwise_map.mpr sorted
  obtain ⟨hmem, available, most⟩ := leadOf_spec measured hy
  obtain ⟨m, hm, rfl⟩ := List.mem_map.mp hmem
  obtain ⟨-, available', -, -, latest', mean'⟩ := s.closedMast_measured m
  refine ⟨m, findKey_of_mem (key := fun m : Mast => m.slot) sorted hm, available'.trans available,
    mean.trans mean'.symm, dir.trans latest'.symm, fun x hx hav => ?_⟩
  rw [State.closeWind_masts] at hx
  obtain ⟨z, hz, rfl⟩ := List.mem_map.mp hx
  obtain ⟨-, zavailable, -, -, -, zmean⟩ := s.closedMast_measured z
  rw [zmean, mean']
  exact most z.push.measure (List.mem_map_of_mem hz) (zavailable ▸ hav)

/-- A mast is available only where the site has a lead mast with a latest direction. -/
theorem State.closeWind_leadDir {m : Mast} (sorted : s.wgt.masts.Pairwise (fun x y => x.slot < y.slot))
    (hm : m ∈ s.wgt.masts) (h : (s.closedMast m).summary.available = true) : s.windSite.leadDir ≠ none := by
  cases hl : s.windSite.lead with
  | none =>
    obtain ⟨unavailable, -⟩ := windSiteOf_blind hl
    obtain ⟨-, available, -⟩ := s.closedMast_measured m
    rw [available, unavailable m.push.measure (List.mem_map_of_mem hm)] at h
    cases h
  | some n =>
    obtain ⟨y, -, available, -, dir, -⟩ := State.closeWind_lead sorted hl
    rw [dir]
    exact (State.closedMast_directions available).1

end

/-- Settles O17: the values of each mast, the lead mast among those measured, and the counters by R51. -/
theorem roundCloseJudgesTheWind : Obligations.RoundCloseJudgesTheWind := by
  intro s p hr hp hc htables hgusts
  obtain ⟨v, before, -, after, cau⟩ := State.closeRound_wind hr hp hc
  have sorted : v.wgt.masts.Pairwise (fun x y => x.slot < y.slot) := by
    rw [before]
    exact (htables.closing p).masts_sorted
  have list : GustList v.closeWind.wgt.gusts := ((hgusts.closing p).ofWgt before).closeWind.list
  have mast : ∀ n, s.closeRound.mast n = ((s.closing p).mast n).map v.closedMast := fun n => by
    rw [State.mast_congr after n, State.closeWind_mast, State.mast_congr before n]
  refine ⟨s.closeRound, rfl, ?_⟩
  rw [after, cau, State.closeWind_site, State.closeWind_blind]
  refine ⟨fun m hm => ?_, v.closeWind_available, rfl, fun hl => (windSiteOf_blind hl).2, fun n hl => ?_,
    fun n m m' hm hm' => ?_⟩
  · rw [State.closeWind_masts] at hm
    obtain ⟨m, -, rfl⟩ := List.mem_map.mp hm
    refine ⟨v.closedMast_judged m, fun id => ?_⟩
    rw [State.closedMast_counted, State.closedMast_slot]
    exact countedGust_eq_some_iff list
  · obtain ⟨m, hm, lead⟩ := State.closeWind_lead sorted hl
    refine ⟨v.closedMast m, ?_, lead⟩
    rw [mast, ← State.mast_congr before n, hm]
    rfl
  · rw [mast, hm] at hm'
    obtain rfl := Option.some.inj hm'
    obtain ⟨-, available, -, -, latest, mean⟩ := v.closedMast_measured m
    have slot : m.slot = n := (findKey_mem hm).2
    rw [available, latest, mean, State.closedMast_disagree]
    refine ⟨fun held => disagreeAfter_held (slot ▸ held), fun leadDir dir hlead hav hmean hsite hdir => ?_⟩
    cases hl : v.windSite.lead with
    | none =>
      obtain ⟨-, -, -, blind⟩ := windSiteOf_blind hl
      exact absurd (hsite.symm.trans blind) (Option.some_ne_none _)
    | some lead =>
      have other : m.push.measure.slot ≠ lead := fun e => hlead (hl.trans (congrArg some (e.symm.trans slot)))
      exact disagreeAfter_moved hl other hav hmean hsite hdir

end Sys2Proof.Machine

/-! # The gust list at a round close (R57 to R63) -/

namespace Sys2Proof.Machine

/-! ## A mast that gusts, case by case (R57 to R61) -/

/-- What a gusting mast changes of the state: gust records, the next id, and what is sent (R57 to R61). -/
theorem State.gustMember_wgt (slot dir peak : Nat) (s : State) : (s.gustMember slot dir peak).wgt =
    { s.wgt with
      gusts := (s.gustMember slot dir peak).wgt.gusts, nextId := (s.gustMember slot dir peak).wgt.nextId } :=
  Wgt.eq_of_withoutGusts (s.gustMember_withoutGusts slot dir peak)

section
variable {s : State} {slot dir peak : Nat}

/-- A member refreshes its record (R57). -/
theorem State.gustMember_refreshed {before after : List Gust} {g : Gust} (h : s.GustsOk)
    (hs : s.wgt.gusts = before ++ g :: after) (live : g.live = true) (member : slot ∈ g.members) :
    s.gustMember slot dir peak = s.withGusts (before ++ g.active s.flc.round peak :: after) := by
  have found : memberOf slot s.wgt.gusts = some g :=
    (memberOf_eq_some_iff h.list).mpr ⟨by simp [hs], live, member⟩
  rw [State.gustMember_member found, State.updGust_at h.list hs]

/-- A mast that no record qualifies for opens one (R59). -/
theorem State.gustMember_alone (free : ∀ x ∈ s.wgt.gusts, x.live = true → slot ∉ x.members)
    (alone : ∀ x ∈ s.wgt.gusts, x.joinable s.flc.round dir = false) :
    s.gustMember slot dir peak = s.openGust slot dir peak := by
  refine State.gustMember_opens (memberOf_eq_none_iff.mpr free) ?_
  rw [List.filter_eq_nil_iff.mpr fun x hx => by simp [alone x hx]]
  rfl

variable (h : s.GustsOk) (free : ∀ x ∈ s.wgt.gusts, x.live = true → slot ∉ x.members)
include h free

/-- The records and the notice after a join (R58, R61). -/
theorem State.gustMember_joined {before after : List Gust} {g g' : Gust}
    (hs : s.wgt.gusts = before ++ g :: after) (hj : g.joinable s.flc.round dir = true)
    (hbefore : ∀ x ∈ before, x.joinable s.flc.round dir = true →
      angleBetween g.direction dir < angleBetween x.direction dir)
    (hafter : ∀ x ∈ after, x.joinable s.flc.round dir = true →
      angleBetween g.direction dir ≤ angleBetween x.direction dir)
    (hg : g' = g.entered s.flc.round slot peak false) :
    (s.gustMember slot dir peak).wgt.gusts = before ++ g' :: after
    ∧ (s.gustMember slot dir peak).wgt.nextId = s.wgt.nextId
    ∧ (s.gustMember slot dir peak).pif = (if g'.state = g.state then s else s.raise .routine
        (.gust (g'.notice .confirmed none s.flc.round (some slot)))).pif := by
  have nearest : nearestGust dir (s.wgt.gusts.filter (Gust.joinable s.flc.round dir)) = some g := by
    rw [hs]
    exact nearestGust_filter_at hj hbefore hafter
  rw [State.gustMember_joins (memberOf_eq_none_iff.mpr free) nearest,
    State.joinGust_at slot peak h.list hs free hg]
  split <;> exact ⟨rfl, rfl, rfl⟩

/-- The records and the notices after a merge (R60, R61). -/
theorem State.gustMember_merged {before after : List Gust} {g g' : Gust}
    (alone : ∀ x ∈ s.wgt.gusts, x.joinable s.flc.round dir = false) (full : 16 ≤ s.wgt.gusts.length)
    (hs : s.wgt.gusts = before ++ g :: after) (unclosed : ∀ x ∈ s.wgt.gusts, x.state ≠ .closed)
    (hbefore : ∀ x ∈ before, angleBetween g.direction dir < angleBetween x.direction dir)
    (hafter : ∀ x ∈ after, angleBetween g.direction dir ≤ angleBetween x.direction dir)
    (hg : g' = g.entered s.flc.round slot peak true) :
    (s.gustMember slot dir peak).wgt.gusts = before ++ g' :: after
    ∧ (s.gustMember slot dir peak).wgt.nextId = s.wgt.nextId
    ∧ (g'.state = g.state → (s.gustMember slot dir peak).pif = (s.raise .routine
        (.gust (g'.notice .merged none s.flc.round (some slot)))).pif)
    ∧ (g'.state ≠ g.state → (s.gustMember slot dir peak).pif = ((s.raise .routine
        (.gust ({ g' with state := g.state }.notice .merged none s.flc.round (some slot)))).raise .routine
        (.gust (g'.notice .confirmed none s.flc.round (some slot)))).pif) := by
  have nearest : nearestGust dir s.wgt.gusts = some g := by
    rw [hs]
    exact nearestGust_at hbefore hafter
  rw [State.gustMember_alone free alone, State.openGust_merges slot dir peak full unclosed nearest,
    State.mergeGust_at slot peak h.list hs free hg]
  split
  · rename_i same
    exact ⟨rfl, rfl, fun _ => rfl, fun changed => absurd same changed⟩
  · rename_i changed
    exact ⟨rfl, rfl, fun same => absurd same changed, fun _ => rfl⟩

/-- The records and the notice after an opening in a list with room (R59). -/
theorem State.gustMember_opened (alone : ∀ x ∈ s.wgt.gusts, x.joinable s.flc.round dir = false)
    (room : s.wgt.gusts.length < 16) :
    ∃ id, (s.gustMember slot dir peak).wgt.gusts = s.wgt.gusts ++ [Gust.openedBy s id slot dir peak]
      ∧ (∀ x ∈ s.wgt.gusts, x.id ≠ id)
      ∧ ((∀ x ∈ s.wgt.gusts, x.id ≠ s.wgt.nextId) → id = s.wgt.nextId)
      ∧ (s.gustMember slot dir peak).wgt.nextId = (if id = 65535 then 1 else id + 1)
      ∧ (s.gustMember slot dir peak).pif = (s.raise .routine
          (.gust ((Gust.openedBy s id slot dir peak).notice .opened none s.flc.round none))).pif := by
  obtain ⟨id, ⟨-, range⟩, fresh, first, gusts, next, pif⟩ := State.appendGust_spec h.next room slot dir peak
  rw [State.gustMember_alone free alone, State.openGust_room slot dir peak room]
  exact ⟨id, gusts, fresh, first, next.trans (idAfter_eq range), pif⟩

/-- The records and the notices after an opening in the place of the oldest CLOSED record (R59). -/
theorem State.gustMember_replaced {before after : List Gust} {g : Gust}
    (alone : ∀ x ∈ s.wgt.gusts, x.joinable s.flc.round dir = false) (full : 16 ≤ s.wgt.gusts.length)
    (hs : s.wgt.gusts = before ++ g :: after) (closed : g.state = .closed)
    (unclosed : ∀ x ∈ before, x.state ≠ .closed) :
    ∃ id, (s.gustMember slot dir peak).wgt.gusts = before ++ after ++ [Gust.openedBy s id slot dir peak]
      ∧ (∀ x ∈ before ++ after, x.id ≠ id)
      ∧ ((∀ x ∈ before ++ after, x.id ≠ s.wgt.nextId) → id = s.wgt.nextId)
      ∧ (s.gustMember slot dir peak).wgt.nextId = (if id = 65535 then 1 else id + 1)
      ∧ (s.gustMember slot dir peak).pif = ((s.raise .routine
          (.gust (g.notice .removed (some .room) s.flc.round none))).raise .routine
          (.gust ((Gust.openedBy s id slot dir peak).notice .opened none s.flc.round none))).pif := by
  have oldest : firstClosed s.wgt.gusts = some g := by
    rw [hs]
    exact firstClosed_at closed unclosed
  have room : (before ++ after).length < 16 := by
    have size := h.size
    rw [hs] at size
    simp at size ⊢
    omega
  obtain ⟨id, ⟨-, range⟩, fresh, first, gusts, next, pif⟩ := State.appendGust_spec
    (s := s.roomMade g (before ++ after)) h.next room slot dir peak
  rw [State.gustMember_alone free alone, State.openGust_replaces slot dir peak full h.list hs oldest]
  exact ⟨id, gusts, fresh, first, next.trans (idAfter_eq range), pif⟩

end

/-! ## A gusting mast is a member of an active record (R57 to R60) -/

/-- A record that is not CLOSED, active in a round, with a member and a peak no lower than the member's. -/
def Gust.ActiveWith (round : Round) (slot peak : Nat) (g : Gust) : Prop :=
  g.live = true ∧ slot ∈ g.members ∧ g.lastActive = round ∧ peak ≤ g.peak

/-- A mast is a member of a record that is active in a round. -/
def Enrolled (round : Round) (slot peak : Nat) (gs : List Gust) : Prop :=
  ∃ g ∈ gs, g.ActiveWith round slot peak

section
variable {round : Round} {n q slot dir peak : Nat}

theorem Gust.ActiveWith.active {g : Gust} (h : g.ActiveWith round n q) :
    (g.active round peak).ActiveWith round n q := by
  obtain ⟨live, member, -, high⟩ := h
  exact ⟨live, member, rfl, high.trans (Nat.le_max_left ..)⟩

theorem Gust.ActiveWith.entered {g : Gust} {merged : Bool} (h : g.ActiveWith round n q) :
    (g.entered round slot peak merged).ActiveWith round n q := by
  obtain ⟨live, member, -, high⟩ := h
  exact ⟨Gust.entered_live live, List.mem_append_left _ member, rfl, high.trans (Nat.le_max_left ..)⟩

/-- A record that is replaced by one with its members and its activity. -/
theorem Enrolled.replace {before after : List Gust} {g g' : Gust} (h : Enrolled round n q (before ++ g :: after))
    (hg : g.ActiveWith round n q → g'.ActiveWith round n q) : Enrolled round n q (before ++ g' :: after) := by
  obtain ⟨x, hx, hactive⟩ := h
  rcases List.mem_append.mp hx with hx | hx
  · exact ⟨x, List.mem_append_left _ hx, hactive⟩
  · rcases List.mem_cons.mp hx with rfl | hx
    · exact ⟨g', by simp, hg hactive⟩
    · exact ⟨x, by simp [hx], hactive⟩

section
variable {s : State} {l : List Gust} {next : Nat}

/-- A gusting mast ends as a member of a record that is active now. -/
theorem GustTaken.enrolls (h : GustTaken s slot dir peak l next) : Enrolled s.flc.round slot peak l := by
  cases h with
  | @refreshed before after g _ live member =>
    exact ⟨g.active s.flc.round peak, by simp, live, member, rfl, Nat.le_max_right ..⟩
  | @entered before after g merged _ live _ =>
    exact ⟨g.entered s.flc.round slot peak merged, by simp, Gust.entered_live live,
      List.mem_append_right _ (List.mem_singleton_self _), rfl, Nat.le_max_right ..⟩
  | @opened kept id _ _ _ _ _ _ =>
    exact ⟨Gust.openedBy s id slot dir peak, by simp, rfl, List.mem_singleton_self _, rfl, Nat.le_refl _⟩

/-- The masts before it stay members of theirs. -/
theorem GustTaken.keeps (h : GustTaken s slot dir peak l next) (e : Enrolled s.flc.round n q s.wgt.gusts) :
    Enrolled s.flc.round n q l := by
  cases h with
  | refreshed hs live member =>
    rw [hs] at e
    exact e.replace Gust.ActiveWith.active
  | entered merged hs live free =>
    rw [hs] at e
    exact e.replace Gust.ActiveWith.entered
  | opened sub stays room range fresh free =>
    obtain ⟨g, hg, hactive⟩ := e
    exact ⟨g, List.mem_append_left _ (stays g hg hactive.1), hactive⟩

end

end

/-- One mast of the membership step (R56). -/
def State.takeGust (s : State) (m : Mast) : State :=
  match m.summary.gusting, m.summary.peak, m.summary.effGust with
  | true, some peak, some dir => s.gustMember m.slot dir peak
  | _, _, _ => s

theorem State.gustMembership_eq (s : State) : s.gustMembership = s.wgt.masts.foldl State.takeGust s := rfl

/-- A mast that gusts has a peak and an effective direction in its summary. -/
def Mast.GustsWith (m : Mast) (dir peak : Nat) : Prop :=
  m.summary.gusting = true ∧ m.summary.peak = some peak ∧ m.summary.effGust = some dir

section
variable {s : State} {m : Mast}

theorem State.takeGust_of_gusts {dir peak : Nat} (h : m.GustsWith dir peak) :
    s.takeGust m = s.gustMember m.slot dir peak := by
  obtain ⟨gusting, hpeak, hdir⟩ := h
  simp only [State.takeGust, gusting, hpeak, hdir]

/-- Each mast either gusts, or leaves the state. -/
theorem State.takeGust_cases (s : State) (m : Mast) :
    (∃ dir peak, s.takeGust m = s.gustMember m.slot dir peak) ∨ s.takeGust m = s := by
  unfold State.takeGust
  split
  · exact .inl ⟨_, _, rfl⟩
  · exact .inr rfl

theorem State.takeGust_flc (s : State) (m : Mast) : (s.takeGust m).flc = s.flc := by
  rcases s.takeGust_cases m with ⟨dir, peak, e⟩ | e
  · rw [e]
    exact (State.gustMember_keeps ..).flc (by decide)
  · rw [e]

theorem State.GustsOk.takeGust (h : s.GustsOk) : (s.takeGust m).GustsOk := by
  rcases s.takeGust_cases m with ⟨dir, peak, e⟩ | e
  · rw [e]
    exact h.gustMember
  · rwa [e]

theorem State.takeGust_keeps (h : s.GustsOk) {n q : Nat} (e : Enrolled s.flc.round n q s.wgt.gusts) :
    Enrolled s.flc.round n q (s.takeGust m).wgt.gusts := by
  rcases s.takeGust_cases m with ⟨dir, peak, eq⟩ | eq
  · rw [eq]
    exact (State.gustMember_taken h).keeps e
  · rwa [eq]

end

/-- Masts that are taken keep those enrolled before them. -/
theorem foldl_takeGust_keeps {round : Round} {n q : Nat} : ∀ (ms : List Mast) {s : State}, s.GustsOk →
    s.flc.round = round → Enrolled round n q s.wgt.gusts →
    Enrolled round n q (ms.foldl State.takeGust s).wgt.gusts
  | [], _, _, _, e => e
  | _ :: ms, s, h, hround, e =>
    foldl_takeGust_keeps ms h.takeGust (by rw [State.takeGust_flc, hround])
      (hround ▸ State.takeGust_keeps h (hround ▸ e))

/-- Every one that gusts is enrolled. -/
theorem foldl_takeGust_enrolls {round : Round} {m : Mast} {dir peak : Nat} (hgusts : m.GustsWith dir peak) :
    ∀ (ms : List Mast) {s : State}, s.GustsOk → s.flc.round = round → m ∈ ms →
      Enrolled round m.slot peak (ms.foldl State.takeGust s).wgt.gusts
  | [], _, _, _, hm => absurd hm List.not_mem_nil
  | a :: ms, s, h, hround, hm => by
    have taken : (s.takeGust a).flc.round = round := by rw [State.takeGust_flc, hround]
    rcases List.mem_cons.mp hm with rfl | hm
    · refine foldl_takeGust_keeps ms h.takeGust taken ?_
      rw [State.takeGust_of_gusts hgusts, ← hround]
      exact (State.gustMember_taken h).enrolls
    · exact foldl_takeGust_enrolls hgusts ms h.takeGust taken hm

/-! ## Closing and ageing (R62, R63) -/

theorem Gust.closes_eq_false_iff {round : Round} {g : Gust} :
    g.closes round = false ↔ (g.live = true → (round - g.lastActive).toNat < 8) := by
  rw [Gust.closes, Bool.and_eq_false_imp]
  exact forall_congr' fun _ => decide_eq_false_iff_not.trans Nat.not_le

section
variable (s : State)

/-- A record that is active now is not closed. -/
theorem State.closeGusts_enrolled {n q : Nat} (e : Enrolled s.flc.round n q s.wgt.gusts) :
    Enrolled s.flc.round n q s.closeGusts.wgt.gusts := by
  obtain ⟨g, hg, live, member, active, high⟩ := e
  have stays : g.closes s.flc.round = false := Gust.closes_eq_false_iff.mpr fun _ => by simp [active]
  rw [State.closeGusts_wgt]
  exact ⟨g, List.mem_map.mpr ⟨g, hg, by simp [stays]⟩, live, member, active, high⟩

/-- No record stays unclosed 8 rounds after its last activity. -/
theorem State.closeGusts_recent {g : Gust} (hg : g ∈ s.closeGusts.wgt.gusts) (live : g.live = true) :
    (s.flc.round - g.lastActive).toNat < 8 := by
  rw [State.closeGusts_wgt] at hg
  obtain ⟨x, -, rfl⟩ := List.mem_map.mp hg
  by_cases hc : x.closes s.flc.round = true
  · rw [if_pos hc, Gust.shut_live] at live
    cases live
  · rw [if_neg hc] at live ⊢
    exact Gust.closes_eq_false_iff.mp (Bool.eq_false_iff.mpr hc) live

theorem State.mem_ageGusts {g : Gust} :
    g ∈ s.ageGusts.wgt.gusts ↔ g ∈ s.wgt.gusts ∧ g.aged s.flc.round = false := by
  rw [State.ageGusts_wgt]
  simp

theorem Gust.aged_of_live {round : Round} {g : Gust} (live : g.live = true) : g.aged round = false := by
  unfold Gust.aged
  split
  · rename_i closed _
    exact absurd closed (Gust.live_iff.mp live)
  · rfl

/-- A CLOSED record that is not aged. -/
theorem Gust.recent_of_not_aged {round c : Round} {g : Gust} (h : g.aged round = false)
    (closed : g.state = .closed) (hc : g.closedRound = some c) : (round - c).toNat < 240 := by
  have young : decide (240 ≤ roundsSince c round) = false := by simpa only [Gust.aged, closed, hc] using h
  exact Nat.not_le.mp (of_decide_eq_false young)

/-- No record that is active is removed. -/
theorem State.ageGusts_enrolled {round : Round} {n q : Nat} (e : Enrolled round n q s.wgt.gusts) :
    Enrolled round n q s.ageGusts.wgt.gusts := by
  obtain ⟨g, hg, live, active⟩ := e
  exact ⟨g, s.mem_ageGusts.mpr ⟨hg, Gust.aged_of_live live⟩, live, active⟩

/-! ## The gust list at the end of a round close -/

theorem State.judged_flc : s.judged.flc = s.flc :=
  ((State.judgeMasts_keeps _).flc (by decide)).trans
    (((State.chooseLead_keeps _).flc (by decide)).trans ((State.pushMasts_keeps _).flc (by decide)))

theorem State.membership_flc : s.judged.gustMembership.flc = s.flc :=
  ((State.gustMembership_keeps _).flc (by decide)).trans s.judged_flc

theorem State.closing_gusts_flc : s.judged.gustMembership.closeGusts.flc = s.flc :=
  ((State.closeGusts_keeps _).flc (by decide)).trans s.membership_flc

/-- A mast that gusts is a member of a record that is active in the round. -/
theorem State.gustsUpdated_enrolled {m : Mast} {dir peak : Nat} (h : s.GustsOk)
    (hm : m ∈ s.judged.wgt.masts) (hgusts : m.GustsWith dir peak) :
    Enrolled s.flc.round m.slot peak s.gustsUpdated.wgt.gusts := by
  have enrolled : Enrolled s.flc.round m.slot peak s.judged.gustMembership.wgt.gusts := by
    rw [State.gustMembership_eq]
    exact foldl_takeGust_enrolls hgusts _ h.judged (congrArg Flc.round s.judged_flc) hm
  rw [← s.membership_flc] at enrolled
  have stays := State.ageGusts_enrolled _ (State.closeGusts_enrolled _ enrolled)
  rwa [s.membership_flc] at stays

/-- A record that is not CLOSED was active in the 8 rounds up to this one (R62). -/
theorem State.gustsUpdated_recent {g : Gust} (hg : g ∈ s.gustsUpdated.wgt.gusts) (live : g.live = true) :
    (s.flc.round - g.lastActive).toNat < 8 := by
  obtain ⟨hclosed, -⟩ := (State.mem_ageGusts _).mp hg
  rw [← s.membership_flc]
  exact State.closeGusts_recent _ hclosed live

/-- A CLOSED record was closed in the 240 rounds up to this one (R63). -/
theorem State.gustsUpdated_young {g : Gust} {c : Round} (hg : g ∈ s.gustsUpdated.wgt.gusts)
    (closed : g.state = .closed) (hc : g.closedRound = some c) : (s.flc.round - c).toNat < 240 := by
  obtain ⟨-, young⟩ := (State.mem_ageGusts _).mp hg
  rw [s.closing_gusts_flc] at young
  exact Gust.recent_of_not_aged young closed hc

/-- A mast whose summary says that it gusts took part in the membership step, with the peak of its summary and an
effective direction: its own, or the lead mast's (R52, R56). -/
theorem State.judgedMast_gusts {m : Mast} (sorted : s.wgt.masts.Pairwise (fun x y => x.slot < y.slot))
    (hm : m ∈ s.wgt.masts) (gusting : (s.closedMast m).summary.gusting = true) :
    ∃ dir peak, (s.judgedMast m).GustsWith dir peak ∧ (s.closedMast m).summary.peak = some peak := by
  have judged := s.closedMast_judged m
  obtain ⟨available, peak, -, hpeak, -⟩ := judged.gusting.mp gusting
  obtain ⟨effective, -⟩ := judged.effective available
  have directed : (s.closedMast m).summary.effGust ≠ none := by
    rw [effective]
    split
    · exact State.closeWind_leadDir sorted hm available
    · exact (State.closedMast_directions available).2
  obtain ⟨dir, hdir⟩ := Option.ne_none_iff_exists'.mp directed
  exact ⟨dir, peak, ⟨gusting, hpeak, hdir⟩, hpeak⟩

end

/-- Settles O18: a gusting mast by the records that it finds, and the round close by membership, closing and
ageing in turn. -/
theorem gustsAreJoinedOpenedAndMerged : Obligations.GustsAreJoinedOpenedAndMerged := by
  refine ⟨fun s slot dir peak t h ht => ?_, fun s p hr hp hc htables hgusts => ?_⟩
  · subst ht
    refine ⟨State.gustMember_keeps .., State.gustMember_wgt .., fun before g after hs live member => ?_,
      fun hfree => ?_⟩
    · rw [State.gustMember_refreshed h hs (Gust.live_iff.mpr live) member]
      exact ⟨rfl, rfl, rfl⟩
    · have free : ∀ x ∈ s.wgt.gusts, x.live = true → slot ∉ x.members := fun x hx hl =>
        hfree x hx (Gust.live_iff.mp hl)
      exact ⟨fun before g g' after => State.gustMember_joined h free, fun alone =>
        ⟨State.gustMember_opened h free alone,
          fun before g after => State.gustMember_replaced h free alone,
          fun before g g' after => State.gustMember_merged h free alone⟩⟩
  · obtain ⟨v, before, round, after, -⟩ := State.closeRound_wind hr hp hc
    have sorted : v.wgt.masts.Pairwise (fun x y => x.slot < y.slot) := by
      rw [before]
      exact (htables.closing p).masts_sorted
    have list : v.GustsOk := (hgusts.closing p).ofWgt before
    refine ⟨s.closeRound, rfl, ?_⟩
    rw [after, ← round, State.closeWind_masts, State.closeWind_gusts]
    refine ⟨fun m hm gusting => ?_, fun g hg live => v.gustsUpdated_recent hg (Gust.live_iff.mpr live),
      fun g hg closed c => v.gustsUpdated_young hg closed⟩
    obtain ⟨m₀, hm₀, rfl⟩ := List.mem_map.mp hm
    obtain ⟨dir, peak, gusts, hpeak⟩ := State.judgedMast_gusts v sorted hm₀ gusting
    have taken : v.judgedMast m₀ ∈ v.judged.wgt.masts := by
      rw [State.judged_wgt]
      exact List.mem_map_of_mem hm₀
    obtain ⟨g, hg, live, member, active, high⟩ := v.gustsUpdated_enrolled list taken gusts
    rw [hpeak]
    exact ⟨g, hg, Gust.live_iff.mp live, member, active, high⟩

end Sys2Proof.Machine

/-! # The terminal's reports on piles (R81, R82) -/

namespace Sys2Proof.Machine

theorem State.pile_congr {s t : State} (h : t.spm = s.spm) (n : Nat) : t.pile n = s.pile n := by
  rw [State.pile, h, State.pile]

section
variable {s : State} {pile : Byte} {a : Asked} {p : Pile} (hr : 1 ≤ pile.toNat ∧ pile.toNat ≤ 24)
include hr

theorem reportWettingCommand_absent (hp : s.pile pile.toNat = none) :
    reportWettingCommand pile a s = s.reply a .unknownItem [] := by
  simp [reportWettingCommand, inRange, hr, hp]

theorem reportWettingCommand_configured (hp : s.pile pile.toNat = some p) :
    reportWettingCommand pile a s =
      (s.updPile pile.toNat (fun q => { q with dryness := 0, sub := 0, wetting := some (s.wrl.epoch, s.flc.round) })
        ).reply a .done [bytes1 pile.toNat ++ bytes1 p.dryness] := by
  simp [reportWettingCommand, inRange, hr, hp]

theorem reportActivityCommand_configured {activity : Byte} {act : Activity} (hp : s.pile pile.toNat = some p)
    (ha : reportedActivity activity.toNat = some act) :
    reportActivityCommand pile activity a s =
      (s.updPile pile.toNat (fun q => { q with activity := act })).reply a .done
        [bytes1 pile.toNat ++ bytes1 p.activity.code] := by
  simp [reportActivityCommand, inRange, hr, hp, ha]

end

/-- A row that changes one pile, its number apart, and then answers. -/
theorem RowResult.ofPile {s : State} {port : Port} {tag : Byte} {c : Command} {n : Nat} {p : Pile} {f : Pile → Pile}
    (r : Result) (units : List (List Byte)) (hf : ∀ q, (f q).cfg.pile = q.cfg.pile) (hp : s.pile n = some p)
    {t : State} (ht : t = ((s.held port (c.content tag)).updPile n f).reply (rowAsked s port tag c) r units) :
    RowResult [.spm] s port tag c r units t ∧ t.pile n = some (f p) ∧ (∀ m, m ≠ n → t.pile m = s.pile m)
      ∧ t.spm = { s.spm with piles := t.spm.piles } := by
  have pile : ∀ m, t.pile m = if m = n then (s.pile m).map f else s.pile m := fun m => by
    rw [ht, State.pile_congr (State.reply_spm ..), State.pile_updPile _ _ _ _ hf,
      State.pile_congr (State.held_spm ..)]
  have spm : t.spm = ((s.held port (c.content tag)).updPile n f).spm := by rw [ht, State.reply_spm]
  refine ⟨?_, by rw [pile, if_pos rfl, hp]; rfl, fun m hm => by rw [pile, if_neg hm], ?_⟩
  · rw [ht]
    exact .ofReply ((State.updPile_keeps ..).mono (by decide)) (.ofPif (State.updPile_pif ..))
  · rw [spm, State.updPile, State.held_spm]

/-- Settles O35: the row of a report runs its command, and the one pile changes before the answer. -/
theorem reportsReachOnePile : Obligations.ReportsReachOnePile := by
  have piles : ∀ (s : State) tag c n, (s.held .t (Command.content tag c)).pile n = s.pile n := fun s tag c =>
    State.pile_congr (State.held_spm ..)
  refine ⟨fun s tag pile p ht hlow hhigh hp => ?_, fun s tag pile activity p a ht hlow hhigh hp ha => ?_,
    fun s tag pile ht hlow hhigh hp => ?_⟩
  · refine ⟨_, exec_runs .t tag (.reportWetting pile) s ht rfl rfl, ?_⟩
    refine RowResult.ofPile
      (f := fun q => { q with dryness := 0, sub := 0, wetting := some (s.wrl.epoch, s.flc.round) }) .done _ (fun _ => rfl) hp ?_
    rw [runCommand, reportWettingCommand_configured ⟨hlow, hhigh⟩ ((piles ..).trans hp), State.held_wrl,
      State.held_flc]
  · refine ⟨_, exec_runs .t tag (.reportActivity pile activity) s ht rfl rfl, ?_⟩
    refine RowResult.ofPile (f := fun q => { q with activity := a }) .done _ (fun _ => rfl) hp ?_
    rw [runCommand, reportActivityCommand_configured ⟨hlow, hhigh⟩ ((piles ..).trans hp) ha]
  · refine ⟨_, exec_runs .t tag (.reportWetting pile) s ht rfl rfl, ?_⟩
    rw [runCommand, reportWettingCommand_absent ⟨hlow, hhigh⟩ ((piles ..).trans hp)]
    exact .plain ..

end Sys2Proof.Machine

/-! # The site and the piles at a round close (R71 to R80) -/

namespace Sys2Proof.Machine

/-- The entry of a key in a table whose entries all change and keep their keys. -/
theorem findKey_map {α β : Type} {key : α → Nat} {key' : β → Nat} {f : α → β} (hf : ∀ a, key' (f a) = key a)
    (n : Nat) (l : List α) : findKey key' n (l.map f) = (findKey key n l).map f := by
  induction l with
  | nil => rfl
  | cons a l ih => by_cases h : key a = n <;> simp [findKey, hf, h, ih]

/-! ## What the assessment leaves of the SPM (R84) -/

/-- A pile without what an assessment stores with it (R84). -/
def Pile.unassessed (p : Pile) : Pile := { p with values := none, estimated := false, advice := .none }

theorem Pile.kept_of_unassessed {p q : Pile} (h : p.unassessed = q.unassessed) :
    p.cfg = q.cfg ∧ p.dryness = q.dryness ∧ p.sub = q.sub ∧ p.activity = q.activity ∧ p.wetting = q.wetting := by
  simpa only [Pile.unassessed, Pile.mk.injEq, and_true] using h

/-- The SPM without what an assessment stores. -/
def Spm.unassessed (b : Spm) : Spm := { b with piles := b.piles.map Pile.unassessed }

/-- An SPM that differs in what an assessment stores. -/
theorem Spm.eq_of_unassessed {b c : Spm} (h : c.unassessed = b.unassessed) : c = { b with piles := c.piles } := by
  obtain ⟨⟩ := c
  obtain ⟨⟩ := b
  simp only [Spm.unassessed, Spm.mk.injEq] at h ⊢
  tauto

section
variable (s : State) (n : Nat)

theorem State.storePile_unassessed (v : PileValues) (estimated : Bool) (leadMean : Nat) :
    (s.storePile n v estimated leadMean).spm.unassessed = s.spm.unassessed := by
  have stored : ∀ f : Pile → Pile, (∀ p, (f p).unassessed = p.unassessed) →
      (s.updPile n f).spm.unassessed = s.spm.unassessed := fun f hf =>
    congrArg (fun l => { s.spm with piles := l }) (map_updateKey_of fun p _ _ => hf p)
  unfold State.storePile
  split
  · rfl
  · dsimp only
    split
    · exact stored _ fun _ => rfl
    · exact stored _ fun _ => rfl

theorem State.assessPile_unassessed : (s.assessPile n).spm.unassessed = s.spm.unassessed := by
  unfold State.assessPile
  split
  · rfl
  · split
    · rfl
    · exact State.storePile_unassessed ..

theorem State.assess_unassessed : s.assess.spm.unassessed = s.spm.unassessed := by
  have delivered : ∀ t : State, t.assessZones.deliverZones.spm = t.spm := fun t => by
    rw [(State.deliverZones_keeps _).spm (by decide), (State.assessZones_keeps _).spm (by decide)]
  unfold State.assess
  dsimp only
  rw [delivered]
  split
  · rfl
  · rw [(State.assessPaths_keeps _).spm (by decide)]
    exact foldl_keeps (g := fun t => t.spm.unassessed) (fun t n => t.assessPile_unassessed n) _ s

theorem State.assess_spm : s.assess.spm = { s.spm with piles := s.assess.spm.piles } :=
  Spm.eq_of_unassessed s.assess_unassessed

variable {s n}

/-- A pile keeps its configured part, dryness, activity and last wetting through an assessment. -/
theorem State.assess_pile {q : Pile} (hq : s.pile n = some q) :
    ∃ q', s.assess.pile n = some q' ∧ q'.unassessed = q.unassessed := by
  have found : ∀ t : State, findKey (fun p : Pile => p.cfg.pile) n t.spm.unassessed.piles
      = (t.pile n).map Pile.unassessed := fun t => findKey_map (fun _ => rfl) n _
  have same := found s.assess
  rw [State.assess_unassessed, found, hq] at same
  exact Option.map_eq_some_iff.mp same.symm

end

/-! ## The ages and the site values (R71, R78) -/

theorem currentAge_iff {age : Option Nat} : currentAge age = true ↔ ∃ a, age = some a ∧ a ≤ 8 := by
  cases age <;> simp [currentAge]

/-- A gauge that is current holds a reading (R71). -/
theorem Gauge.ageAt_reading {round : Round} {g : Gauge} (h : (g.ageAt round).current = true) :
    ∃ r, (g.ageAt round).reading = some r := by
  obtain ⟨a, ha, -⟩ := currentAge_iff.mp h
  obtain ⟨r, hr, -⟩ := Option.map_eq_some_iff.mp ha
  exact ⟨r, hr⟩

theorem mem_currentReadings {r : GaugeReading} {gs : List Gauge} :
    r ∈ currentReadings gs ↔ ∃ g ∈ gs, g.current = true ∧ g.reading = some r := by
  induction gs with
  | nil => simp [currentReadings]
  | cons g gs ih =>
    unfold currentReadings
    split
    · rename_i x hcurrent hreading
      simp [ih, hcurrent, hreading, eq_comm (a := x)]
    · rename_i h
      have other : ¬ (g.current = true ∧ g.reading = some r) := fun ⟨hc, hr⟩ => h r hc hr
      simp [ih, other]

theorem length_currentReadings {gs : List Gauge} (h : ∀ g ∈ gs, g.current = true → ∃ r, g.reading = some r) :
    (currentReadings gs).length = (gs.filter (fun g => g.current)).length := by
  induction gs with
  | nil => rfl
  | cons g gs ih =>
    have rest := ih fun x hx => h x (List.mem_cons_of_mem _ hx)
    cases hc : g.current with
    | false => simp [currentReadings, hc, rest]
    | true =>
      obtain ⟨r, hr⟩ := h g (List.mem_cons_self ..) hc
      simp [currentReadings, hc, hr, rest]

theorem lowestHumidity_eq_none_iff {rs : List GaugeReading} : lowestHumidity rs = none ↔ rs = [] := by
  cases rs with
  | nil => simp [lowestHumidity]
  | cons r rs =>
    unfold lowestHumidity
    split <;> simp

/-- The lowest humidity is that of a reading, and of no reading is it lower (R71). -/
theorem lowestHumidity_spec : ∀ {rs : List GaugeReading} {h : Nat}, lowestHumidity rs = some h →
    (∃ r ∈ rs, r.humidity = h) ∧ ∀ r ∈ rs, h ≤ r.humidity
  | [], _, hl => by cases hl
  | r :: rs, h, hl => by
    unfold lowestHumidity at hl
    split at hl
    · rename_i hn
      obtain rfl := Option.some.inj hl
      simp [lowestHumidity_eq_none_iff.mp hn]
    · rename_i k hk
      obtain ⟨⟨x, hx, hxk⟩, least⟩ := lowestHumidity_spec hk
      obtain rfl := Option.some.inj hl
      refine ⟨?_, fun y hy => ?_⟩
      · rcases Nat.le_total r.humidity k with hle | hle
        · exact ⟨r, List.mem_cons_self .., (Nat.min_eq_left hle).symm⟩
        · exact ⟨x, List.mem_cons_of_mem _ hx, hxk.trans (Nat.min_eq_right hle).symm⟩
      · rcases List.mem_cons.mp hy with rfl | hy
        · exact Nat.min_le_left ..
        · exact (Nat.min_le_right ..).trans (least y hy)

/-- The lowest humidity among the current gauges (R71). -/
theorem lowestHumidity_current {gs : List Gauge} {h : Nat} (hl : lowestHumidity (currentReadings gs) = some h) :
    (∃ g ∈ gs, g.current = true ∧ g.reading.map (fun r => r.humidity) = some h)
    ∧ ∀ g ∈ gs, g.current = true → ∀ r, g.reading = some r → h ≤ r.humidity := by
  obtain ⟨⟨r, hr, rfl⟩, least⟩ := lowestHumidity_spec hl
  obtain ⟨g, hg, current, reading⟩ := mem_currentReadings.mp hr
  exact ⟨⟨g, hg, current, by rw [reading]; rfl⟩, fun g hg current r reading =>
    least r (mem_currentReadings.mpr ⟨g, hg, current, reading⟩)⟩

/-- Rain is reported where a current gauge reports it (R71). -/
theorem rain_current {gs : List Gauge} : (currentReadings gs).any (fun r => r.rain) = true
    ↔ ∃ g ∈ gs, g.current = true ∧ g.reading.map (fun r => r.rain) = some true := by
  simp only [List.any_eq_true, mem_currentReadings, Option.map_eq_some_iff]
  constructor
  · rintro ⟨r, ⟨g, hg, current, reading⟩, rain⟩
    exact ⟨g, hg, current, r, reading, rain⟩
  · rintro ⟨g, hg, current, r, reading, rain⟩
    exact ⟨r, ⟨g, hg, current, reading⟩, rain⟩

/-! ## The band (R72 to R75) -/

/-- A choice between DAMP, PARCHED and, where neither condition holds, DRY. -/
theorem bandChoice_spec {d p n : Prop} [Decidable d] [Decidable p] (apart : d → ¬ p) (neither : n ↔ ¬ p ∧ ¬ d)
    {c : Band} (hc : c = if d then .damp else if p then .parched else .dry) :
    c ≠ .wet ∧ (c = .damp ↔ d) ∧ (c = .dry ↔ n) ∧ (c = .parched ↔ p) := by
  subst hc
  by_cases hd : d
  · simp [hd, neither, apart hd]
  · by_cases hp : p <;> simp [hd, hp, neither]

/-- The candidate without rain is never WET, and is the one of the band's row (R73). -/
theorem candidateBand_spec {p : SiteParams} (hp : p.tParch < p.tDamp) (band : Band) (h : Nat) :
    candidateBand p band h ≠ .wet ∧ BandRow p h (candidateBand p band h) band := by
  cases band with
  | wet => exact bandChoice_spec (by omega) (by omega) rfl
  | damp => exact bandChoice_spec (by omega) (by omega) rfl
  | dry => exact bandChoice_spec (by omega) (by omega) rfl
  | parched => exact bandChoice_spec (by omega) (by omega) rfl

/-- The band part of the SPM put to new values. -/
def Spm.withBand (band : Band) (pending : Option Band) (persistence noGauge : Nat) (b : Spm) : Spm :=
  { b with band := band, pendingBand := pending, persistence := persistence, noGauge := noGauge }

/-- What a candidate makes of the SPM: taken at once where it is the band in force or WET, started where it is
not the pending one, counted up to 239 closes, and taken at the 240th (R74). -/
structure BandFollows (c : Band) (b b' : Spm) : Prop where
  taken : c = b.band ∨ c = .wet → b' = b.withBand c none 0 b.noGauge
  started : c ≠ b.band → c ≠ .wet → b.pendingBand ≠ some c → b' = b.withBand b.band (some c) 1 b.noGauge
  counted : c ≠ b.band → c ≠ .wet → b.pendingBand = some c → b.persistence + 1 < 240 →
    b' = b.withBand b.band (some c) (b.persistence + 1) b.noGauge
  changed : c ≠ b.band → c ≠ .wet → b.pendingBand = some c → 240 ≤ b.persistence + 1 →
    b' = b.withBand c none 0 b.noGauge
  kept : b' = b.withBand b'.band b'.pendingBand b'.persistence b.noGauge

section
variable {s : State}

theorem State.actCandidate_follows (c : Band) (s : State) : BandFollows c s.spm (s.actCandidate c).spm := by
  constructor
  case taken =>
    intro h
    unfold State.actCandidate
    split
    · rename_i hc; subst hc; rfl
    · rename_i hc
      rw [if_pos (h.resolve_left hc), h.resolve_left hc]
      rfl
  case started =>
    intro hc hw hp
    rw [State.actCandidate, if_neg hc, if_neg hw, if_neg hp]
    rfl
  case counted =>
    intro hc hw hp hlt
    rw [State.actCandidate, if_neg hc, if_neg hw, if_pos hp, if_neg (Nat.not_le.mpr hlt), Spm.withBand, ← hp]
  case changed =>
    intro hc hw hp hle
    rw [State.actCandidate, if_neg hc, if_neg hw, if_pos hp, if_pos hle]
    rfl
  case kept =>
    unfold State.actCandidate
    repeat' split
    all_goals rfl

/-- The candidate of a close with a current gauge (R73). -/
def State.candidate (h : Nat) (s : State) : Band := if s.spm.rain then .wet else candidateBand s.cau.site s.spm.band h

theorem State.evaluateBand_gauges {h : Nat} (hl : s.spm.lowestRh = some h) :
    s.evaluateBand = ({ s with spm.noGauge := 0 } : State).actCandidate (s.candidate h) := by
  rw [State.evaluateBand, hl]
  rfl

/-- The no-gauge hold counts to 2,400 and then makes the band DRY, once (R75). -/
theorem State.evaluateBand_noGauge (hl : s.spm.lowestRh = none) :
    s.evaluateBand.spm = s.spm.withBand
      (if min 2400 (s.spm.noGauge + 1) = 2400 ∧ s.spm.noGauge ≠ 2400 then .dry else s.spm.band) none 0
      (min 2400 (s.spm.noGauge + 1)) := by
  have hold : s.evaluateBand = s.noGaugeClose := by rw [State.evaluateBand, hl]
  rw [hold]
  by_cases expired : min 2400 (s.spm.noGauge + 1) = 2400 ∧ s.spm.noGauge ≠ 2400
  · rw [if_pos expired]
    by_cases dry : s.spm.band = .dry
    · rw [← dry]
      exact congrArg State.spm (if_neg fun h => h.2.2 dry)
    · exact congrArg State.spm (if_pos ⟨expired.1, expired.2, dry⟩)
  · rw [if_neg expired]
    exact congrArg State.spm (if_neg fun h => expired ⟨h.1, h.2.1⟩)

/-- The evaluation of the band leaves the readings and the piles (R72). -/
theorem State.evaluateBand_spm (s : State) : s.evaluateBand.spm =
    s.spm.withBand s.evaluateBand.spm.band s.evaluateBand.spm.pendingBand s.evaluateBand.spm.persistence
      s.evaluateBand.spm.noGauge := by
  cases hl : s.spm.lowestRh with
  | none =>
    rw [State.evaluateBand_noGauge hl]
    rfl
  | some h =>
    rw [State.evaluateBand_gauges hl, (State.actCandidate_follows ..).kept]
    rfl

end

/-! ## The dryness step (R80) -/

theorem Pile.dry_kept (interval : Option Nat) (p : Pile) :
    p.dry interval = { p with dryness := (p.dry interval).dryness, sub := (p.dry interval).sub } := by
  unfold Pile.dry
  split
  · rfl
  · split <;> rfl

theorem Pile.dry_some (i : Nat) (p : Pile) :
    (i ≤ p.sub + 1 → (p.dry (some i)).dryness = min 255 (p.dryness + 1) ∧ (p.dry (some i)).sub = 0)
    ∧ (p.sub + 1 < i → (p.dry (some i)).dryness = p.dryness ∧ (p.dry (some i)).sub = p.sub + 1) := by
  refine ⟨fun h => ?_, fun h => ?_⟩
  · rw [Pile.dry, if_pos h]
    exact ⟨rfl, rfl⟩
  · rw [Pile.dry, if_neg (Nat.not_le.mpr h)]
    exact ⟨rfl, rfl⟩

/-! ## The round close of the site -/

/-- The state after the evaluation of the band (R72). -/
def State.evaluated (s : State) : State := ((s.ageSite).noticeGauges s.spm.gaugesAtClose).evaluateBand

section
variable (s : State)

theorem State.noticeGauges_spm (before : Nat) : (s.noticeGauges before).spm = s.spm :=
  (State.noticeGauges_keeps ..).spm (by decide)

theorem State.noticeGauges_cau (before : Nat) : (s.noticeGauges before).cau = s.cau :=
  (State.noticeGauges_keeps ..).cau (by decide)

theorem State.evaluated_spm : s.evaluated.spm =
    s.ageSite.spm.withBand s.evaluated.spm.band s.evaluated.spm.pendingBand s.evaluated.spm.persistence
      s.evaluated.spm.noGauge := by
  have evaluated := State.evaluateBand_spm (s.ageSite.noticeGauges s.spm.gaugesAtClose)
  rwa [State.noticeGauges_spm] at evaluated

theorem State.closeSite_spm : s.closeSite.spm = { s.evaluated.spm with
    piles := s.spm.piles.map (Pile.dry (dryInterval s.cau.site.interval s.evaluated.spm.band)) } := by
  have cau : s.evaluated.cau = s.cau := by
    rw [State.evaluated, (State.evaluateBand_keeps _).cau (by decide), State.noticeGauges_cau]
    rfl
  have piles : s.evaluated.spm.piles = s.spm.piles := by rw [State.evaluated_spm]; rfl
  have closed : s.closeSite.spm = { s.evaluated.spm with
      piles := s.evaluated.spm.piles.map
        (Pile.dry (dryInterval s.evaluated.cau.site.interval s.evaluated.spm.band)) } := rfl
  rw [closed, cau, piles]

theorem State.closeSite_gauges : s.closeSite.spm.gauges = s.spm.gauges.map (Gauge.ageAt s.flc.round) := by
  rw [State.closeSite_spm, State.evaluated_spm]; rfl

theorem State.closeSite_monitors :
    s.closeSite.spm.monitors = s.spm.monitors.map (Monitor.ageAt s.flc.round) := by
  rw [State.closeSite_spm, State.evaluated_spm]; rfl

theorem State.closeSite_gaugesAtClose :
    s.closeSite.spm.gaugesAtClose = (currentReadings s.closeSite.spm.gauges).length := by
  rw [State.closeSite_spm, State.evaluated_spm]; rfl

theorem State.closeSite_lowestRh :
    s.closeSite.spm.lowestRh = lowestHumidity (currentReadings s.closeSite.spm.gauges) := by
  rw [State.closeSite_spm, State.evaluated_spm]; rfl

theorem State.closeSite_rain :
    s.closeSite.spm.rain = (currentReadings s.closeSite.spm.gauges).any (fun r => r.rain) := by
  rw [State.closeSite_spm, State.evaluated_spm]; rfl

/-- The current gauges of a close are counted by their readings (R71). -/
theorem State.closeSite_currentGauges :
    s.closeSite.spm.gaugesAtClose = (s.closeSite.spm.gauges.filter (fun g => g.current)).length := by
  rw [State.closeSite_gaugesAtClose]
  refine length_currentReadings fun g hg current => ?_
  rw [State.closeSite_gauges] at hg
  obtain ⟨x, -, rfl⟩ := List.mem_map.mp hg
  exact Gauge.ageAt_reading current

/-- A close has a lowest humidity where it has a current gauge (R71). -/
theorem State.closeSite_lowestRh_eq_none_iff :
    s.closeSite.spm.lowestRh = none ↔ s.closeSite.spm.gaugesAtClose = 0 := by
  rw [State.closeSite_lowestRh, State.closeSite_gaugesAtClose, lowestHumidity_eq_none_iff, List.length_eq_zero_iff]

/-- The no-gauge hold of a close (R75). -/
theorem State.closeSite_noGauge (h : s.closeSite.spm.gaugesAtClose = 0) :
    s.closeSite.spm.pendingBand = none ∧ s.closeSite.spm.persistence = 0
    ∧ s.closeSite.spm.noGauge = min 2400 (s.spm.noGauge + 1)
    ∧ s.closeSite.spm.band =
        (if s.closeSite.spm.noGauge = 2400 ∧ s.spm.noGauge ≠ 2400 then .dry else s.spm.band) := by
  have lowest : (s.ageSite.noticeGauges s.spm.gaugesAtClose).spm.lowestRh = none := by
    rw [State.noticeGauges_spm]
    have closed := (s.closeSite_lowestRh_eq_none_iff).mpr h
    rwa [State.closeSite_spm, State.evaluated_spm] at closed
  have held := State.evaluateBand_noGauge lowest
  rw [State.noticeGauges_spm, ← State.evaluated] at held
  rw [State.closeSite_spm, held]
  exact ⟨rfl, rfl, rfl, rfl⟩

/-- The candidate of a close with a current gauge (R73). -/
def State.closeCandidate (h : Nat) : Band :=
  if s.closeSite.spm.rain then .wet else candidateBand s.cau.site s.spm.band h

/-- The band of a close with a current gauge follows from the candidate (R73, R74). -/
theorem State.closeSite_follows {h : Nat} (hl : s.closeSite.spm.lowestRh = some h) :
    BandFollows (s.closeCandidate h) { s.ageSite.spm with noGauge := 0 } s.evaluated.spm := by
  obtain ⟨x, hx⟩ : ∃ x, x = s.ageSite.noticeGauges s.spm.gaugesAtClose := ⟨_, rfl⟩
  have spm : x.spm = s.ageSite.spm := by rw [hx, State.noticeGauges_spm]
  have cau : x.cau = s.cau := by rw [hx, State.noticeGauges_cau]; rfl
  have lowest : x.spm.lowestRh = some h := by
    rw [spm]
    rwa [State.closeSite_spm, State.evaluated_spm] at hl
  have candidate : x.candidate h = s.closeCandidate h := by
    rw [State.candidate, State.closeCandidate, State.closeSite_spm, State.evaluated_spm, spm, cau]
    rfl
  have follows := State.actCandidate_follows (x.candidate h) { x with spm.noGauge := 0 }
  rw [← State.evaluateBand_gauges lowest, candidate] at follows
  dsimp only at follows
  rw [spm, hx] at follows
  exact follows

end

/-- The state from which the SPM closes the round (R3). -/
def State.beforeSite (s : State) (p : Progress) : State := (s.closing p).closeLoop.closeWind

section
variable (s : State) (p : Progress)

theorem State.beforeSite_spm : (s.beforeSite p).spm = (s.closing p).spm := by
  rw [State.beforeSite, (State.closeWind_keeps _).spm (by decide), (State.closeLoop_keeps _).spm (by decide)]

theorem State.beforeSite_cau : (s.beforeSite p).cau = (s.closing p).cau := by
  rw [State.beforeSite, (State.closeWind_keeps _).cau (by decide), (State.closeLoop_keeps _).cau (by decide)]

theorem State.beforeSite_round : (s.beforeSite p).flc.round = s.flc.round := by
  rw [State.beforeSite, (State.closeWind_keeps _).flc (by decide), State.closeLoop_round, State.closing_flc]

end

/-- A pile after a round close: the dryness step alone reaches its lasting parts (R80). -/
theorem State.closeSite_pile {s : State} {n : Nat} {q : Pile} (hq : s.pile n = some q) :
    s.closeSite.pile n = some (q.dry (dryInterval s.cau.site.interval s.closeSite.spm.band)) := by
  have number : ∀ i (p : Pile), (p.dry i).cfg.pile = p.cfg.pile := fun i p => by rw [Pile.dry_kept]
  have found := fun i => findKey_map (key' := fun p : Pile => p.cfg.pile) (f := Pile.dry i) (number i) n s.spm.piles
  rw [State.pile, State.closeSite_spm]
  dsimp only
  rw [found, ← State.pile, hq]
  rfl

/-- Settles O19: the SPM's own round close, of which an assessment then changes no part that is named here. -/
theorem roundCloseEvaluatesTheSite : Obligations.RoundCloseEvaluatesTheSite := by
  intro s p u hr hp hc hu hthresholds
  subst hu
  obtain ⟨v, hv⟩ : ∃ v, v = s.beforeSite p := ⟨_, rfl⟩
  have closed : s.closeRound = v.closeSite.assess := hv ▸ State.closeRound_open hr hp hc
  have spm : v.spm = (s.closing p).spm := hv ▸ s.beforeSite_spm p
  have cau : v.cau = (s.closing p).cau := hv ▸ s.beforeSite_cau p
  have round : v.flc.round = s.flc.round := hv ▸ s.beforeSite_round p
  obtain ⟨piles, after⟩ : ∃ piles, s.closeRound.spm = { v.closeSite.spm with piles := piles } :=
    ⟨_, closed ▸ v.closeSite.assess_spm⟩
  refine ⟨s.closeRound, rfl, ?_⟩
  rw [after, ← spm, ← cau, ← round]
  rw [← cau] at hthresholds
  dsimp only
  refine ⟨?_, fun g hg => ?_, ?_, fun m hm => ?_, v.closeSite_currentGauges, v.closeSite_lowestRh_eq_none_iff,
    fun h hl => ?_, ?_, v.closeSite_noGauge, fun h hl => ?_, fun n q hq => ?_⟩
  · rw [State.closeSite_gauges, List.map_map]
    rfl
  · rw [State.closeSite_gauges] at hg
    obtain ⟨x, -, rfl⟩ := List.mem_map.mp hg
    exact ⟨rfl, currentAge_iff⟩
  · rw [State.closeSite_monitors, List.map_map]
    rfl
  · rw [State.closeSite_monitors] at hm
    obtain ⟨x, -, rfl⟩ := List.mem_map.mp hm
    exact ⟨rfl, currentAge_iff⟩
  · rw [State.closeSite_lowestRh] at hl
    exact lowestHumidity_current hl
  · rw [State.closeSite_rain]
    exact rain_current
  · obtain ⟨notWet, row⟩ := candidateBand_spec hthresholds v.spm.band h
    have follows := v.closeSite_follows hl
    have noGauge : v.closeSite.spm.noGauge = 0 := by
      rw [State.closeSite_spm, follows.kept]
      rfl
    refine ⟨noGauge, v.closeCandidate h, fun rain => ?_, fun dry => ?_, fun h => ?_, fun h hw hp => ?_,
      fun h hw hp hlt => ?_, fun h hw hp hle => ?_⟩
    · rw [State.closeCandidate, rain, if_pos rfl]
    · rw [State.closeCandidate, dry]
      exact ⟨notWet, row⟩
    · rw [State.closeSite_spm, follows.taken h]
      exact ⟨rfl, rfl, rfl⟩
    · rw [State.closeSite_spm, follows.started h hw hp]
      exact ⟨rfl, rfl, rfl⟩
    · rw [State.closeSite_spm, follows.counted h hw hp hlt]
      exact ⟨rfl, rfl, rfl⟩
    · rw [State.closeSite_spm, follows.changed h hw hp hle]
      exact ⟨rfl, rfl, rfl⟩
  · have before : v.pile n = some q := (State.pile_congr spm n).trans hq
    obtain ⟨q', hq', same⟩ := State.assess_pile (State.closeSite_pile before)
    rw [closed]
    obtain ⟨cfg, dryness, sub, activity, wetting⟩ := Pile.kept_of_unassessed same
    refine ⟨q', hq', by rw [cfg, Pile.dry_kept], by rw [activity, Pile.dry_kept],
      by rw [wetting, Pile.dry_kept], ?_⟩
    rw [dryness, sub]
    refine ⟨fun wet => ?_, fun i hi => ?_⟩
    · rw [wet]
      exact ⟨rfl, rfl⟩
    · have interval : dryInterval v.cau.site.interval v.closeSite.spm.band = some i := by
        rcases hi with ⟨hb, rfl⟩ | ⟨hb, rfl⟩ | ⟨hb, rfl⟩ <;> rw [hb, dryInterval]
      rw [interval]
      exact q.dry_some i

end Sys2Proof.Machine

/-! # The assessment of a round close (R89, R93 to R102, R105) -/

namespace Sys2Proof.Machine

/-! ## The piles (R94 to R97, R84) -/

@[simp] theorem windChoice_mast (m : Mast) (source : MastSource) : (windChoice m source).mast = m.slot := by
  unfold windChoice
  split <;> rfl

@[simp] theorem windChoice_source (m : Mast) (source : MastSource) : (windChoice m source).source = source := by
  unfold windChoice
  split <;> rfl

theorem State.availableMast_slot {s : State} {n : Nat} {m : Mast} (h : s.availableMast n = some m) : m.slot = n := by
  unfold State.availableMast at h
  split at h
  · cases h
  · rename_i x hx
    split at h
    · cases h
      exact (findKey_mem hx).2
    · cases h

/-- The choice of a mast reads the WGT alone. -/
theorem State.chooseMast_congr {s t : State} (h : t.wgt = s.wgt) (c : PileCfg) : t.chooseMast c = s.chooseMast c := by
  have available : t.availableMast = s.availableMast := by
    funext n
    rw [State.availableMast, State.mast_congr h, State.availableMast]
  rw [State.chooseMast, available, h, State.chooseMast]

/-- The mast of a pile is available and was the first of R94's order. -/
theorem State.chooseMast_spec {s : State} {c : PileCfg} {m : Mast} {source : MastSource}
    (h : s.chooseMast c = some (m, source)) :
    s.availableMast m.slot = some m ∧ WindFrom s c (windChoice m source) := by
  unfold State.chooseMast at h
  unfold WindFrom
  rw [windChoice_source, windChoice_mast]
  split at h
  · rename_i x hx
    obtain ⟨rfl, rfl⟩ := Prod.mk.inj (Option.some.inj h)
    have place := State.availableMast_slot hx
    have available : s.availableMast c.assigned ≠ none := by rw [hx]; exact Option.some_ne_none _
    exact ⟨place ▸ hx, fun _ => ⟨rfl, place⟩, fun hn => absurd hn available, fun hn => absurd hn available⟩
  · rename_i assigned
    split at h
    · rename_i x hx
      obtain ⟨rfl, rfl⟩ := Prod.mk.inj (Option.some.inj h)
      obtain ⟨n, hn, hav⟩ := Option.bind_eq_some_iff.mp hx
      have place := State.availableMast_slot hav
      refine ⟨place ▸ hav, fun hs => by simp [assigned] at hs, fun _ k hk _ => ⟨rfl, ?_⟩, fun _ hall => ?_⟩
      · exact place.trans (Option.some.inj (hn.symm.trans hk))
      · rw [hall n hn] at hav
        cases hav
    · rename_i fallback
      obtain ⟨x, hx, hxm⟩ := Option.map_eq_some_iff.mp h
      obtain ⟨rfl, rfl⟩ := Prod.mk.inj hxm
      obtain ⟨n, hn, hav⟩ := Option.bind_eq_some_iff.mp hx
      have place := State.availableMast_slot hav
      refine ⟨place ▸ hav, fun hs => by simp [assigned] at hs, fun _ k hk hs => ?_, fun _ _ => ⟨rfl, ?_⟩⟩
      · rw [hk, Option.bind_some] at fallback
        rw [fallback] at hs
        cases hs
      · rw [hn, place]

/-- Every pile finds a mast (R94). -/
def State.Sighted (s : State) : Prop := ∀ c, ∃ m source, s.chooseMast c = some (m, source)

theorem State.Sighted.congr {s t : State} (h : s.Sighted) (wgt : t.wgt = s.wgt) : t.Sighted := fun c => by
  rw [State.chooseMast_congr wgt]
  exact h c

/-- A site with an available lead mast has a mast for every pile (R94). -/
theorem State.sighted_of_lead {s : State} {n : Nat} {m : Mast} (lead : s.wgt.site.lead = some n)
    (available : s.availableMast n = some m) : s.Sighted := by
  intro c
  unfold State.chooseMast
  split
  · exact ⟨_, _, rfl⟩
  · split
    · exact ⟨_, _, rfl⟩
    · exact ⟨m, .lead, by rw [lead, Option.bind_some, available]; rfl⟩

/-- The values and the advice that an assessment stores with a pile (R84, R96, R97). -/
def Pile.assessed (site : SiteParams) (leadMean : Nat) (m : Mast) (source : MastSource) (p : Pile) : Pile :=
  { p with
    values := some (pileValues site (windSpeed m) p)
    estimated := source == .lead
    advice := adviceFor (pileValues site (windSpeed m) p) leadMean site.gExc }

/-- A pile stands as an assessment at its mast leaves it, and so does its wind record (R92 to R97, R84). -/
def State.AssessedAt (t : State) (n : Nat) : Prop :=
  ∀ q, t.pile n = some q → ∃ m source, t.chooseMast q.cfg = some (m, source)
    ∧ t.wind n = some (windChoice m source)
    ∧ q = q.assessed t.cau.site (t.wgt.site.leadMean.getD 0) m source

theorem emissionOf_eq (e size : Nat) (a : Activity) :
    emissionOf e size a = e * e * size / 16 * (if a = .idle then 1 else 2) := by
  cases a <;> simp [emissionOf]

/-- What the statement asks of an assessed pile. -/
theorem State.AssessedAt.pileAssessed {t : State} {n : Nat} {q : Pile} (h : t.AssessedAt n) (hq : t.pile n = some q) :
    ∃ w m v, t.wind n = some w ∧ t.availableMast w.mast = some m ∧ q.values = some v
      ∧ PileAssessed t q w v m := by
  obtain ⟨m, source, hm, hw, stored⟩ := h q hq
  obtain ⟨available, from_⟩ := State.chooseMast_spec hm
  obtain ⟨v, hv⟩ : ∃ v, v = pileValues t.cau.site (windSpeed m) q := ⟨_, rfl⟩
  have values : q.values = some v := by rw [stored, hv]; rfl
  have advice : q.advice = adviceFor v (t.wgt.site.leadMean.getD 0) t.cau.site.gExc := by
    rw [hv]; exact congrArg Pile.advice stored
  refine ⟨_, m, v, hw, windChoice_mast m source ▸ available, values, ?_⟩
  constructor
  case from_ => exact from_
  case gust =>
    intro id counted
    rw [hv, windChoice, counted]
    exact ⟨rfl, rfl, rfl, by simp [pileValues, windSpeed, counted]⟩
  case mean =>
    intro counted
    rw [hv, windChoice, counted]
    exact ⟨rfl, rfl, rfl, by simp [pileValues, windSpeed, counted]⟩
  case lift => rw [hv]; rfl
  case excess => rw [hv]; rfl
  case emission => rw [hv]; exact emissionOf_eq ..
  case estimated =>
    rw [windChoice_source]
    exact congrArg Pile.estimated stored
  case wetNow =>
    intro e
    rw [advice, adviceFor, if_pos e]
  case wetSoon =>
    intro e soon
    rw [advice, adviceFor, if_neg (by omega), if_pos soon]
  case none_ =>
    intro e later
    rw [advice, adviceFor, if_neg (by omega), if_neg (by omega)]

theorem State.AssessedAt.congr {s t : State} {n : Nat} (h : s.AssessedAt n) (pile : t.pile n = s.pile n)
    (wind : t.wind n = s.wind n) (wgt : t.wgt = s.wgt) (cau : t.cau = s.cau) : t.AssessedAt n := fun q hq => by
  rw [pile] at hq
  rw [State.chooseMast_congr wgt, wind, wgt, cau]
  exact h q hq

section
variable {s : State} {n : Nat}

theorem State.storePile_pile {v : PileValues} {estimated : Bool} {leadMean : Nat} {p : Pile}
    (hp : s.pile n = some p) :
    (∀ k, k ≠ n → (s.storePile n v estimated leadMean).pile k = s.pile k)
    ∧ (s.storePile n v estimated leadMean).pile n =
        some { p with
          values := some v, estimated := estimated, advice := adviceFor v leadMean s.cau.site.gExc } := by
  obtain ⟨f, hf⟩ : ∃ f : Pile → Pile, f = fun p => { p with
    values := some v, estimated := estimated, advice := adviceFor v leadMean s.cau.site.gExc } := ⟨_, rfl⟩
  have spm : (s.storePile n v estimated leadMean).spm = (s.updPile n f).spm := by
    unfold State.storePile
    rw [hp, hf]
    dsimp only
    split <;> rfl
  have pile : ∀ k, (s.storePile n v estimated leadMean).pile k
      = if k = n then (s.pile k).map f else s.pile k := fun k => by
    rw [State.pile_congr spm, State.pile_updPile _ _ _ _ fun p => by rw [hf]]
  exact ⟨fun k hk => by rw [pile, if_neg hk], by rw [pile, if_pos rfl, hp, hf]; rfl⟩

theorem State.wind_putWind (c : WindChoice) : (∀ k, k ≠ n → (s.putWind n c).wind k = s.wind k)
    ∧ (n ∈ s.rke.winds.map (fun w => w.pile) → (s.putWind n c).wind n = some c) := by
  have found : ∀ k, findKey (fun w : PileWind => w.pile) k (s.putWind n c).rke.winds
      = if k = n then (findKey (fun w : PileWind => w.pile) k s.rke.winds).map (fun w => { w with choice := some c })
        else findKey (fun w : PileWind => w.pile) k s.rke.winds := fun k =>
    findKey_updateKey (key := fun w : PileWind => w.pile) (fun w => { w with choice := some c }) (fun _ => rfl) n k _
  refine ⟨fun k hk => by rw [State.wind, found, if_neg hk, State.wind], fun hn => ?_⟩
  rw [State.wind, found, if_pos rfl]
  cases hw : findKey (fun w : PileWind => w.pile) n s.rke.winds with
  | none => exact absurd hn (findKey_eq_none.mp hw)
  | some w => rfl

theorem State.wind_congr {t : State} (h : t.rke.winds = s.rke.winds) (n : Nat) : t.wind n = s.wind n := by
  rw [State.wind, h, State.wind]

theorem State.storePile_wind (k : Nat) (v : PileValues) (estimated : Bool) (leadMean : Nat) (n : Nat) :
    (s.storePile k v estimated leadMean).wind n = s.wind n :=
  State.wind_congr (congrArg Rke.winds ((State.storePile_keeps ..).rke (by decide))) n

/-- An assessment of a pile, where it is configured and the site has a mast for it. -/
theorem State.assessPile_configured {p : Pile} {m : Mast} {source : MastSource} (hp : s.pile n = some p)
    (hm : s.chooseMast p.cfg = some (m, source)) :
    s.assessPile n = (s.putWind n (windChoice m source)).storePile n (pileValues s.cau.site (windSpeed m) p)
      (source == .lead) (s.wgt.site.leadMean.getD 0) := by
  simp only [State.assessPile, hp, hm]

theorem State.assessPile_absent (hp : s.pile n = none) : s.assessPile n = s := by
  simp only [State.assessPile, hp]

/-- A pile is assessed (R94 to R97, R84). -/
theorem State.assessPile_assessedAt (sighted : s.Sighted) (hw : n ∈ s.rke.winds.map (fun w => w.pile)) :
    (s.assessPile n).AssessedAt n := by
  intro q hq
  have wgt : (s.assessPile n).wgt = s.wgt := (State.assessPile_keeps ..).wgt (by decide)
  have cau : (s.assessPile n).cau = s.cau := (State.assessPile_keeps ..).cau (by decide)
  cases hp : s.pile n with
  | none =>
    rw [State.assessPile_absent hp, hp] at hq
    cases hq
  | some p =>
    obtain ⟨m, source, hm⟩ := sighted p.cfg
    have after := State.assessPile_configured hp hm
    have kept : (s.putWind n (windChoice m source)).pile n = some p := hp
    rw [after, (State.storePile_pile kept).2] at hq
    obtain rfl := Option.some.inj hq
    refine ⟨m, source, (State.chooseMast_congr wgt _).trans hm, ?_, ?_⟩
    · rw [after, State.storePile_wind]
      exact (State.wind_putWind _).2 hw
    · rw [wgt, cau]
      rfl

/-- The assessment of another pile leaves a pile and its wind record. -/
theorem State.assessPile_other (s : State) {k : Nat} (hk : k ≠ n) :
    (s.assessPile n).pile k = s.pile k ∧ (s.assessPile n).wind k = s.wind k := by
  cases hp : s.pile n with
  | none => rw [State.assessPile_absent hp]; exact ⟨rfl, rfl⟩
  | some p =>
    cases hm : s.chooseMast p.cfg with
    | none => simp only [State.assessPile, hp, hm, and_self]
    | some x =>
      obtain ⟨m, source⟩ := x
      rw [State.assessPile_configured hp hm]
      have kept : (s.putWind n (windChoice m source)).pile n = some p := hp
      refine ⟨(State.storePile_pile kept).1 k hk, ?_⟩
      rw [State.storePile_wind]
      exact (State.wind_putWind _).1 k hk

theorem State.AssessedAt.assessPile {k : Nat} (h : s.AssessedAt k) (hk : k ≠ n) : (s.assessPile n).AssessedAt k :=
  h.congr (s.assessPile_other hk).1 (s.assessPile_other hk).2 ((State.assessPile_keeps ..).wgt (by decide))
    ((State.assessPile_keeps ..).cau (by decide))

/-- Every pile of a list is assessed in turn. -/
theorem foldl_assessPile_assessedAt : ∀ (l : List Nat) (s : State), s.Sighted →
    n ∈ s.rke.winds.map (fun w => w.pile) → n ∈ l ∨ s.AssessedAt n →
    (l.foldl (fun s k => s.assessPile k) s).AssessedAt n
  | [], _, _, _, h => h.resolve_left List.not_mem_nil
  | k :: l, s, sighted, hw, h => by
    have winds : (s.assessPile k).rke.winds.map (fun w => w.pile) = s.rke.winds.map (fun w => w.pile) :=
      congrArg (fun x => x.2.2) (s.assessPile_table k).2
    refine foldl_assessPile_assessedAt l _ (sighted.congr ((State.assessPile_keeps ..).wgt (by decide)))
      (winds ▸ hw) ?_
    by_cases hk : n = k
    · exact .inr (hk ▸ State.assessPile_assessedAt sighted (hk ▸ hw))
    · refine h.imp (fun hn => (List.mem_cons.mp hn).resolve_left hk) fun ha => ha.assessPile hk

/-- Stage 2 assesses every pile (R89). -/
theorem State.assessPiles_assessedAt (sighted : s.Sighted) (ht : s.TablesOk) (n : Nat) :
    s.assessPiles.AssessedAt n := by
  intro q hq
  have numbers : n ∈ s.pileNumbers := by
    have same : s.assessPiles.spm.table = s.spm.table :=
      foldl_keeps (g := fun u => u.spm.table) (fun u n => (u.assessPile_table n).1) _ s
    have cfgs : s.assessPiles.spm.piles.map (fun p => p.cfg) = s.spm.piles.map (fun p => p.cfg) :=
      congrArg (fun x => x.2.2) same
    obtain ⟨hmem, hkey⟩ := findKey_mem hq
    have member : q.cfg ∈ s.spm.piles.map (fun p => p.cfg) := cfgs ▸ List.mem_map_of_mem hmem
    obtain ⟨p, hp, e⟩ := List.mem_map.mp member
    exact List.mem_map.mpr ⟨p, hp, by rw [e]; exact hkey⟩
  exact foldl_assessPile_assessedAt _ s sighted (ht.winds ▸ numbers) (.inl numbers) q hq

end

/-! ## The lead mast (R50, R93) -/

/-- After the round close of the WGT, a site that is not wind-blind has a mast for every pile (R50, R94). -/
theorem State.closeWind_sighted {s : State} (sorted : s.wgt.masts.Pairwise (fun x y => x.slot < y.slot))
    (blind : s.closeWind.wgt.windBlind = false) : s.closeWind.Sighted := by
  rw [State.closeWind_blind] at blind
  obtain ⟨n, lead⟩ := Option.isSome_iff_exists.mp (Option.isNone_eq_false_iff.mp blind)
  obtain ⟨m, hm, available, -⟩ := State.closeWind_lead sorted lead
  have mast : s.closeWind.mast n = some (s.closedMast m) := by rw [State.closeWind_mast, hm]; rfl
  refine State.sighted_of_lead (n := n) (m := s.closedMast m) (by rw [State.closeWind_site, lead]) ?_
  rw [State.availableMast, mast]
  exact if_pos available

/-! ## The paths (R98 to R100) -/

theorem pathResult_assessed (c : PathCfg) (emission direction : Nat) :
    PathAssessed c emission direction (pathResult c emission direction) := by
  simp only [PathAssessed, pathResult, angleBetween, downwind, alignment, alignedEmission, pathShare, gt_iff_lt,
    and_self]

/-- The result of a path of an assessed pile. -/
theorem State.assessPath_assessed {s : State} {p : Path} {q : Pile} {w : WindChoice} {v : PileValues}
    (hq : s.pile p.cfg.pile = some q) (hw : s.wind p.cfg.pile = some w) (hv : q.values = some v) :
    ∃ x, (s.assessPath p).result = some x ∧ PathAssessed p.cfg v.emission w.direction x := by
  refine ⟨_, rfl, ?_⟩
  rw [State.emissionAt, hq, hw]
  dsimp only
  rw [hv]
  exact pathResult_assessed ..

/-! ## The modelled sum and the dominant pile (R101, R102) -/

theorem sumShares_eq : ∀ ps : List Path, sumShares ps = (ps.map Path.share).sum
  | [] => rfl
  | p :: ps => by rw [sumShares, sumShares_eq ps, List.map_cons, List.sum_cons]

theorem largestShare_eq_none_iff {ps : List Path} : largestShare ps = none ↔ ps = [] := by
  cases ps with
  | nil => simp [largestShare]
  | cons p ps =>
    unfold largestShare
    split
    · simp
    · split <;> simp

/-- The largest share is that of a path, and every other path has a lower one, or the same one and a higher pile
(R101). -/
theorem largestShare_spec : ∀ {ps : List Path} {x : Path}, ps.Pairwise (fun x y => x.cfg.pile < y.cfg.pile) →
    largestShare ps = some x → x ∈ ps
      ∧ ∀ y ∈ ps, y.share < x.share ∨ (y.share = x.share ∧ x.cfg.pile ≤ y.cfg.pile)
  | [], _, _, h => by cases h
  | p :: ps, x, hsorted, h => by
    obtain ⟨hp, hps⟩ := List.pairwise_cons.mp hsorted
    unfold largestShare at h
    split at h
    · rename_i hn
      cases h
      rw [largestShare_eq_none_iff.mp hn]
      simp
    · rename_i z hz
      obtain ⟨hmem, most⟩ := largestShare_spec hps hz
      split at h
      · rename_i hle
        cases h
        refine ⟨List.mem_cons_self .., fun y hy => ?_⟩
        rcases List.mem_cons.mp hy with rfl | hy
        · exact .inr ⟨rfl, Nat.le_refl _⟩
        · have least := most y hy
          have pile := hp y hy
          omega
      · rename_i hlt
        cases h
        refine ⟨List.mem_cons_of_mem _ hmem, fun y hy => ?_⟩
        rcases List.mem_cons.mp hy with rfl | hy
        · exact .inl (Nat.lt_of_not_le hlt)
        · exact most y hy

/-- The paths of a zone stand in the order of their piles (R90). -/
theorem State.TablesOk.pathsTo_sorted {s : State} (h : s.TablesOk) (n : Nat) :
    (s.pathsTo n).Pairwise (fun x y => x.cfg.pile < y.cfg.pile) := by
  refine (h.paths.filter _).imp_of_mem fun {x y} hx hy order => ?_
  have zone : ∀ z : Path, z ∈ s.pathsTo n → z.cfg.zone = n := fun z hz => by
    simpa using (List.mem_filter.mp hz).2
  have zx := zone x hx
  have zy := zone y hy
  simp only [Path.order, pathOrder] at order
  omega

/-- The dominant pile is that of the path with the largest share, or none where the sum is 0 (R101). -/
theorem dominantPile_spec {ps : List Path} (sorted : ps.Pairwise (fun x y => x.cfg.pile < y.cfg.pile)) :
    (sumShares ps = 0 → dominantPile ps = none)
    ∧ (sumShares ps ≠ 0 → ∃ x ∈ ps, dominantPile ps = some x.cfg.pile
      ∧ ∀ y ∈ ps, y.share < x.share ∨ (y.share = x.share ∧ x.cfg.pile ≤ y.cfg.pile)) := by
  refine ⟨fun h => by rw [dominantPile, if_pos h], fun h => ?_⟩
  cases hx : largestShare ps with
  | none => exact absurd (by rw [largestShare_eq_none_iff.mp hx]; rfl) h
  | some x =>
    obtain ⟨mem, most⟩ := largestShare_spec sorted hx
    exact ⟨x, mem, by rw [dominantPile, if_neg h, hx]; rfl, most⟩

/-- The modelled fields of a zone as an assessment forms them from the shares of its paths, whose exact sum is
`total` (R101, R102). -/
def ZoneResult.FormedIn (s : State) (fm total : Nat) (r : ZoneResult) : Prop :=
  r.sum = min 16777215 total ∧ r.modelled = min 1000 (r.sum * 1000 / fm) ∧ r.blindCount = 0
  ∧ (total = 0 → r.dominant = none ∧ r.gust = none)
  ∧ (total ≠ 0 → ∃ x ∈ s.pathsTo r.zone, r.dominant = some x.cfg.pile
      ∧ r.gust = (s.wind x.cfg.pile).bind (fun w => w.gust)
      ∧ ∀ y ∈ s.pathsTo r.zone, y.share < x.share ∨ (y.share = x.share ∧ x.cfg.pile ≤ y.cfg.pile))

/-- The modelled fields `r` on a wind-blind site become those of `r'`: held for 240 assessments, then 0 (R105). -/
def ZoneResult.HeldIn (r r' : ZoneResult) : Prop :=
  r'.blindCount = min 241 (r.blindCount + 1)
  ∧ (r'.blindCount ≤ 240 → r'.sum = r.sum ∧ r'.dominant = r.dominant ∧ r'.gust = r.gust
      ∧ r'.modelled = r.modelled)
  ∧ (r'.blindCount = 241 → r'.sum = 0 ∧ r'.dominant = none ∧ r'.gust = none ∧ r'.modelled = 0)

theorem ZoneResult.holdModelled_held (r : ZoneResult) : r.HeldIn r.holdModelled := by
  unfold ZoneResult.holdModelled
  dsimp only
  split
  · rename_i held
    exact ⟨rfl, fun _ => ⟨rfl, rfl, rfl, rfl⟩, fun h => absurd h (by dsimp only; omega)⟩
  · rename_i ended
    exact ⟨rfl, fun h => absurd h ended, fun _ => ⟨rfl, rfl, rfl, rfl⟩⟩

/-! ## The zone results (R89, R101 to R106) -/

/-- The modelled part of a zone's result record (R102, R105). -/
def State.modelledPart (s : State) (z : Zone) (r : ZoneResult) : ZoneResult :=
  if s.wgt.windBlind then r.holdModelled else s.formModelled z r

/-- A zone's result record after the assessment. -/
def State.zoneAssessed (s : State) (r : ZoneResult) : ZoneResult :=
  match s.zone r.zone with
  | none => r
  | some z => s.assessZone z r

section
variable {s : State} {z : Zone} {r : ZoneResult}

/-- The modelled fields are not touched by the measured ones (R103 to R106). -/
theorem State.assessZone_modelled (s : State) (z : Zone) (r : ZoneResult) :
    (s.assessZone z r).sum = (s.modelledPart z r).sum
    ∧ (s.assessZone z r).dominant = (s.modelledPart z r).dominant
    ∧ (s.assessZone z r).gust = (s.modelledPart z r).gust
    ∧ (s.assessZone z r).modelled = (s.modelledPart z r).modelled
    ∧ (s.assessZone z r).blindCount = (s.modelledPart z r).blindCount := ⟨rfl, rfl, rfl, rfl, rfl⟩

theorem State.zoneAssessed_configured (hz : s.zone r.zone = some z) : s.zoneAssessed r = s.assessZone z r := by
  rw [State.zoneAssessed, hz]

theorem State.zoneAssessed_zone (s : State) (r : ZoneResult) : (s.zoneAssessed r).zone = r.zone := by
  have modelled : ∀ z, (s.modelledPart z r).zone = r.zone := fun z => by
    unfold State.modelledPart
    split
    · unfold ZoneResult.holdModelled
      dsimp only
      split <;> rfl
    · rfl
  unfold State.zoneAssessed
  split
  · rfl
  · exact modelled _

/-- Stages 4 to 6 write the zone results, and deliver them (R89, R107). -/
theorem State.assessZones_rke (s : State) :
    s.assessZones.deliverZones.rke = { s.rke with zones := s.rke.zones.map s.zoneAssessed } :=
  (State.deliverZones_keeps _).rke (by decide)

theorem State.assessZones_winds (s : State) : s.assessZones.deliverZones.rke.winds = s.rke.winds := by
  rw [State.assessZones_rke]

theorem State.assessZones_paths (s : State) : s.assessZones.deliverZones.rke.paths = s.rke.paths := by
  rw [State.assessZones_rke]

/-- Stages 2 and 3 keep the tables. -/
theorem State.assessPaths_sameTables (s : State) : SameTables s s.assessPiles.assessPaths :=
  ((State.assessPiles_keeps s).sameTables
    (spm := fun _ => foldl_keeps (g := fun u => u.spm.table) (fun u n => (u.assessPile_table n).1) _ s)
    (rke := fun _ => foldl_keeps (g := fun u => u.rke.table) (fun u n => (u.assessPile_table n).2) _ s)).trans
    ((State.assessPaths_keeps _).sameTables (rke := fun _ => State.assessPaths_table _))

/-- Stages 4 to 6 leave the piles, the masts and the parameters. -/
theorem State.assessZones_others (s : State) : s.assessZones.deliverZones.spm = s.spm
    ∧ s.assessZones.deliverZones.wgt = s.wgt ∧ s.assessZones.deliverZones.cau = s.cau := by
  have delivered := State.deliverZones_keeps s.assessZones
  have assessed := State.assessZones_keeps s
  exact ⟨(delivered.spm (by decide)).trans (assessed.spm (by decide)),
    (delivered.wgt (by decide)).trans (assessed.wgt (by decide)),
    (delivered.cau (by decide)).trans (assessed.cau (by decide))⟩

theorem State.assess_sighted (h : s.wgt.windBlind = false) :
    s.assess = s.assessPiles.assessPaths.assessZones.deliverZones := by
  rw [State.assess, h]; rfl

theorem State.assess_blind (h : s.wgt.windBlind = true) : s.assess = s.assessZones.deliverZones := by
  rw [State.assess, h]; rfl

/-- A zone of one of two states with the same zone table stands in the other, configured alike. -/
theorem State.zone_of_table {t : State} (h : t.zwc.table = s.zwc.table) {n : Nat} (hz : t.zone n = some z) :
    ∃ z', s.zone n = some z' ∧ z'.cfg = z.cfg := by
  have found : ∀ u : State, findKey (fun c : ZoneCfg => c.zone) n u.zwc.table = (u.zone n).map (fun z => z.cfg) :=
    fun u => findKey_map (fun _ => rfl) n _
  have same := found t
  rw [h, found, hz] at same
  exact Option.map_eq_some_iff.mp same

/-- The modelled fields of a zone on a site that is not wind-blind (R101, R102). -/
theorem State.zoneAssessed_formed (ht : s.TablesOk) (blind : s.wgt.windBlind = false) (hz : s.zone r.zone = some z)
    {total : Nat} (sum : total = ((s.pathsTo r.zone).map Path.share).sum) :
    (s.zoneAssessed r).FormedIn s z.cfg.fm total := by
  have number : z.cfg.zone = r.zone := (findKey_mem hz).2
  have formed : s.modelledPart z r = s.formModelled z r := by rw [State.modelledPart, blind]; rfl
  obtain ⟨hsum, hdominant, hgust, hmodelled, hcount⟩ := s.assessZone_modelled z r
  obtain ⟨none_, most⟩ := dominantPile_spec (ht.pathsTo_sorted z.cfg.zone)
  have dominant : (s.formModelled z r).dominant = dominantPile (s.pathsTo z.cfg.zone) := rfl
  have gust : (s.formModelled z r).gust =
      ((dominantPile (s.pathsTo z.cfg.zone)).bind s.wind).bind (fun c => c.gust) := rfl
  unfold ZoneResult.FormedIn
  rw [State.zoneAssessed_zone, State.zoneAssessed_configured hz, hdominant, hgust, hmodelled, hcount, hsum, formed,
    dominant, gust]
  rw [← sumShares_eq, ← number] at sum
  rw [← number, sum]
  refine ⟨rfl, rfl, rfl, fun h => by rw [none_ h]; exact ⟨rfl, rfl⟩, fun h => ?_⟩
  obtain ⟨x, mem, dominant, largest⟩ := most h
  exact ⟨x, mem, dominant, by rw [dominant]; rfl, largest⟩

/-- The modelled fields of a zone on a wind-blind site (R105). -/
theorem State.zoneAssessed_held (blind : s.wgt.windBlind = true) (hz : s.zone r.zone = some z) :
    r.HeldIn (s.zoneAssessed r) := by
  have held : s.modelledPart z r = r.holdModelled := by rw [State.modelledPart, blind]; rfl
  obtain ⟨hsum, hdominant, hgust, hmodelled, hcount⟩ := s.assessZone_modelled z r
  unfold ZoneResult.HeldIn
  rw [State.zoneAssessed_configured hz, hdominant, hgust, hmodelled, hcount, hsum, held]
  exact r.holdModelled_held

/-- The zone of a result record (R91). -/
theorem State.TablesOk.zone_of_result (h : s.TablesOk) {n : Nat} (hr : s.zoneResult n = some r) :
    ∃ z, s.zone r.zone = some z := by
  obtain ⟨mem, -⟩ := findKey_mem hr
  have key : r.zone ∈ s.zwc.zones.map (fun z => z.cfg.zone) := h.results ▸ List.mem_map_of_mem mem
  cases hz : s.zone r.zone with
  | none => exact absurd key (findKey_eq_none.mp hz)
  | some z => exact ⟨z, rfl⟩

theorem State.pathsTo_congr {t : State} (h : t.rke.paths = s.rke.paths) (n : Nat) : t.pathsTo n = s.pathsTo n := by
  rw [State.pathsTo, h, State.pathsTo]

end

/-! ## The assessment as a whole (R89, R93) -/

section
variable {s : State} (blind : s.wgt.windBlind = false)
include blind

/-- Every pile is assessed where the site has a lead mast (R94 to R97, R84). -/
theorem State.assess_assessedAt (sighted : s.Sighted) (ht : s.TablesOk) (n : Nat) : s.assess.AssessedAt n := by
  obtain ⟨spm, wgt, cau⟩ := s.assessPiles.assessPaths.assessZones_others
  rw [State.assess_sighted blind]
  exact (State.assessPiles_assessedAt sighted ht n).congr (State.pile_congr spm n)
    (State.wind_congr (State.assessZones_winds _) n) wgt cau

/-- Every path of an assessed pile has its result (R98 to R100). -/
theorem State.assess_pathAssessed {r : Path} {q : Pile} {w : WindChoice} {v : PileValues}
    (hr : r ∈ s.assess.rke.paths) (hq : s.assess.pile r.cfg.pile = some q) (hw : s.assess.wind r.cfg.pile = some w)
    (hv : q.values = some v) : ∃ x, r.result = some x ∧ PathAssessed r.cfg v.emission w.direction x := by
  obtain ⟨spm, -, -⟩ := s.assessPiles.assessPaths.assessZones_others
  rw [State.assess_sighted blind] at hr hq hw
  rw [State.pile_congr spm] at hq
  rw [State.wind_congr (State.assessZones_winds _)] at hw
  rw [State.assessZones_paths] at hr
  obtain ⟨p, -, rfl⟩ := List.mem_map.mp hr
  exact State.assessPath_assessed hq hw hv

/-- Every zone has its modelled fields formed (R101, R102). -/
theorem State.assess_zoneFormed (ht : s.TablesOk) {r : ZoneResult} {z : Zone} {total : Nat}
    (hr : r ∈ s.assess.rke.zones) (hz : s.assess.zone r.zone = some z)
    (sum : total = ((s.assess.pathsTo r.zone).map Path.share).sum) :
    r.FormedIn s.assess z.cfg.fm total := by
  obtain ⟨w, hw⟩ : ∃ w, w = s.assessPiles.assessPaths := ⟨_, rfl⟩
  have assess : s.assess = w.assessZones.deliverZones := hw ▸ State.assess_sighted blind
  have tables : w.TablesOk := hw ▸ ht.ofSame s.assessPaths_sameTables
  have sighted : w.wgt.windBlind = false := by
    rw [hw, (State.assessPaths_keeps _).wgt (by decide), (State.assessPiles_keeps _).wgt (by decide), blind]
  have zones : s.assess.zwc.table = w.zwc.table := by
    rw [assess, State.deliverZones_table, (State.assessZones_keeps w).zwc (by decide)]
  have paths : ∀ n, s.assess.pathsTo n = w.pathsTo n := State.pathsTo_congr (assess ▸ w.assessZones_paths)
  have winds : ∀ n, s.assess.wind n = w.wind n := State.wind_congr (assess ▸ w.assessZones_winds)
  rw [assess, State.assessZones_rke] at hr
  obtain ⟨r, -, rfl⟩ := List.mem_map.mp hr
  rw [State.zoneAssessed_zone] at hz sum
  obtain ⟨z', hz', same⟩ := State.zone_of_table zones hz
  unfold ZoneResult.FormedIn
  simp only [State.zoneAssessed_zone, paths, winds] at sum ⊢
  rw [← same]
  have formed := State.zoneAssessed_formed tables sighted hz' sum
  unfold ZoneResult.FormedIn at formed
  rwa [State.zoneAssessed_zone] at formed

end

/-- On a wind-blind site piles, winds and paths keep theirs, and the zones' modelled fields are held (R93, R105). -/
theorem State.assess_held {s : State} (blind : s.wgt.windBlind = true) (ht : s.TablesOk) :
    s.assess.spm = s.spm ∧ s.assess.rke.winds = s.rke.winds ∧ s.assess.rke.paths = s.rke.paths
    ∧ ∀ n r, s.zoneResult n = some r → ∃ r', s.assess.zoneResult n = some r' ∧ r.HeldIn r' := by
  obtain ⟨spm, -, -⟩ := s.assessZones_others
  have rke := s.assessZones_rke
  rw [← State.assess_blind blind] at spm rke
  refine ⟨spm, by rw [rke], by rw [rke], fun n r hr => ⟨s.zoneAssessed r, ?_, ?_⟩⟩
  · have found := findKey_map (key' := fun r : ZoneResult => r.zone) (f := s.zoneAssessed) s.zoneAssessed_zone n
      s.rke.zones
    rw [State.zoneResult, rke]
    dsimp only
    rw [found, ← State.zoneResult, hr]
    rfl
  · obtain ⟨z, hz⟩ := ht.zone_of_result hr
    exact State.zoneAssessed_held blind hz

/-- The tables from which a round is assessed. -/
theorem State.TablesOk.beforeAssess {s : State} (h : s.TablesOk) (p : Progress) :
    (s.beforeSite p).closeSite.TablesOk :=
  (h.closing p).ofSame ((((State.closeLoop_keeps _).sameTables (srg := fun _ => State.closeLoop_table _)).trans
    ((State.closeWind_keeps _).sameTables (wgt := fun _ => State.closeWind_table _))).trans
    ((State.closeSite_keeps _).sameTables (spm := fun _ => State.closeSite_table _)))

/-- Every pile finds a mast where the round close leaves a lead mast (R50, R94). -/
theorem State.TablesOk.beforeAssess_sighted {s : State} (h : s.TablesOk) {p : Progress}
    (blind : (s.beforeSite p).closeSite.wgt.windBlind = false) : (s.beforeSite p).closeSite.Sighted := by
  have site : (s.beforeSite p).closeSite.wgt = (s.beforeSite p).wgt := (State.closeSite_keeps _).wgt (by decide)
  have loop : (s.closing p).closeLoop.wgt = (s.closing p).wgt := (State.closeLoop_keeps _).wgt (by decide)
  rw [site] at blind
  exact (State.closeWind_sighted (loop ▸ (h.closing p).masts_sorted) blind).congr site

/-- The assessment starts from the results of the round before (R89). -/
theorem State.beforeAssess_rke (s : State) (p : Progress) :
    (s.beforeSite p).closeSite.rke = (s.closing p).rke := by
  rw [(State.closeSite_keeps _).rke (by decide), State.beforeSite, (State.closeWind_keeps _).rke (by decide),
    (State.closeLoop_keeps _).rke (by decide)]

/-- Settles O20: the assessment on the masts, the piles and the tables that the blocks before it leave. -/
theorem roundCloseAssessesPilesAndPaths : Obligations.RoundCloseAssessesPilesAndPaths := by
  intro s p u hr hp hc hu htables
  subst hu
  obtain ⟨y, hy⟩ : ∃ y, y = (s.beforeSite p).closeSite := ⟨_, rfl⟩
  have closed : s.closeRound = y.assess := hy ▸ State.closeRound_open hr hp hc
  have tables : y.TablesOk := hy ▸ htables.beforeAssess p
  have wgt : y.assess.wgt = y.wgt := (State.assess_keeps _).wgt (by decide)
  refine ⟨s.closeRound, rfl, ?_⟩
  rw [closed, wgt]
  refine ⟨fun blind => ?_, fun blind => ?_⟩
  · have sighted : y.Sighted := by
      rw [hy] at blind ⊢
      exact htables.beforeAssess_sighted blind
    exact ⟨fun n q hq => (State.assess_assessedAt blind sighted tables n).pileAssessed hq,
      fun r hr q w v => State.assess_pathAssessed blind hr,
      fun r hr z total => State.assess_zoneFormed blind tables hr⟩
  · obtain ⟨spm, winds, paths, zones⟩ := State.assess_held blind tables
    have rke : y.rke = (s.closing p).rke := hy ▸ s.beforeAssess_rke p
    refine ⟨by rw [winds, rke], by rw [paths, rke], fun n q hq => ?_, fun n r hr => zones n r ?_⟩
    · have before : (s.beforeSite p).pile n = some q := (State.pile_congr (s.beforeSite_spm p) n).trans hq
      rw [State.pile_congr spm, hy]
      exact ⟨_, State.closeSite_pile before, by rw [Pile.dry_kept], by rw [Pile.dry_kept], by rw [Pile.dry_kept]⟩
    · rw [State.zoneResult, rke]
      exact hr

end Sys2Proof.Machine

/-! # What a risk delivery makes of its zone (R115 to R118, R129) -/

namespace Sys2Proof.Machine

/-! ## One zone changes -/

/-- Zone `n` stands as `z` after an operation, and every other zone as before. -/
structure ZoneBecomes (n : Nat) (z : Zone) (s t : State) : Prop where
  zone : t.zone n = some z
  others : ZonesBut n s t

section
variable {n : Nat} {z : Zone} {s t u : State}

theorem ZonesBut.trans (h : ZonesBut n s t) (k : ZonesBut n t u) : ZonesBut n s u :=
  fun m hm => (k m hm).trans (h m hm)

theorem ZoneBecomes.trans {z' : Zone} (h : ZoneBecomes n z s t) (k : ZoneBecomes n z' t u) : ZoneBecomes n z' s u :=
  ⟨k.zone, h.others.trans k.others⟩

theorem State.zone_congr (h : t.zwc = s.zwc) (n : Nat) : t.zone n = s.zone n := by
  rw [State.zone, h, State.zone]

/-- An operation that leaves the zones. -/
theorem ZoneBecomes.ofZwc (h : t.zwc = s.zwc) (hz : s.zone n = some z) : ZoneBecomes n z s t :=
  ⟨(State.zone_congr h n).trans hz, fun m _ => State.zone_congr h m⟩

theorem State.updZone_becomes (hz : s.zone n = some z) (f : Zone → Zone)
    (hf : ∀ z, (f z).cfg = z.cfg := by exact fun _ => rfl) : ZoneBecomes n (f z) s (s.updZone n f) := by
  have zone : ∀ m, (s.updZone n f).zone m = if m = n then (s.zone m).map f else s.zone m := fun m =>
    s.zone_updZone n m f fun z => by rw [hf]
  exact ⟨by rw [zone, if_pos rfl, hz]; rfl, fun m hm => by rw [zone, if_neg hm]⟩

/-! ## The changes, seen from the zone -/

/-- A zone whose running test a level of WARN or ALERT ends (R118 step 3, R128). -/
def Zone.aborted (new : Level) (z : Zone) : Zone :=
  if z.testEnd.isSome ∧ Level.warn.rank ≤ new.rank then { z with testEnd := none } else z

/-- A zone after a change of its level whose entry has the number `seq` (R118). -/
def Zone.changed (new : Level) (cause : LevelCause) (seq : Seq) (z : Zone) : Zone :=
  (z.atLevel new cause seq).aborted new

/-- A zone that has taken the components and counted its rise, after steps 2 to 4 of a delivery of risk `r`; `seq`
is the number of its next LEVEL entry (R116, R117, R120). -/
def Zone.decided (r : Nat) (seq : Seq) (z : Zone) : Zone :=
  match z.riseTo with
  | some l => z.zeroCounters.changed l .risk seq
  | none =>
    if z.fallDecided r then
      if z.highestFloor.rank ≤ z.level.below.rank then { z with dwell := 0 }.changed z.level.below .risk seq
      else { z with dwell := 0 }
    else { z with dwell := z.dwellAfter r }

/-- A zone with the demand that R129 derives from it. -/
def Zone.shown (z : Zone) : Zone := { z with sign := z.signDemand, siren := z.sirenDemand }

/-- A zone after one delivery; `seq` is the number of its next LEVEL entry (R115). -/
def Zone.delivered (d : Delivery) (seq : Seq) (z : Zone) : Zone :=
  (((z.takeComponents d).countRise d.risk).decided d.risk seq).shown

theorem State.abortTest_becomes (hz : s.zone n = some z) (new : Level) :
    ZoneBecomes n (z.aborted new) s (s.abortTest n new) := by
  unfold State.abortTest Zone.aborted
  rw [hz]
  dsimp only
  split
  · have ended := State.updZone_becomes hz (fun z => { z with testEnd := none })
    exact ended.trans (.ofZwc rfl ended.zone)
  · exact .ofZwc rfl hz

theorem State.changeLevel_becomes (hz : s.zone n = some z) (new : Level) (cause : LevelCause) :
    ZoneBecomes n (z.changed new cause s.wrl.nextSeq) s (s.changeLevel n new cause) := by
  have logged : ZoneBecomes n z s (s.record (z.levelEntry new cause)) := .ofZwc rfl hz
  have level : ZoneBecomes n (z.atLevel new cause s.wrl.nextSeq) s
      ((s.record (z.levelEntry new cause)).updZone n (Zone.atLevel new cause s.wrl.nextSeq)) :=
    logged.trans (State.updZone_becomes logged.zone (Zone.atLevel new cause s.wrl.nextSeq))
  have after := level.trans (State.abortTest_becomes level.zone new)
  unfold State.changeLevel
  rw [hz]
  dsimp only
  rw [after.zone]
  exact after.trans (.ofZwc rfl after.zone)

theorem State.decideLevel_becomes (hz : s.zone n = some z) (r : Nat) :
    ZoneBecomes n (z.decided r s.wrl.nextSeq) s (s.decideLevel n r) := by
  unfold State.decideLevel Zone.decided
  rw [hz]
  dsimp only
  cases z.riseTo with
  | some l =>
    have zeroed := State.updZone_becomes hz Zone.zeroCounters
    exact zeroed.trans (State.changeLevel_becomes zeroed.zone ..)
  | none =>
    dsimp only
    split
    · have returned := State.updZone_becomes hz (fun z => { z with dwell := 0 })
      split
      · exact returned.trans (State.changeLevel_becomes returned.zone ..)
      · exact returned
    · exact State.updZone_becomes hz (fun z => { z with dwell := z.dwellAfter r })

theorem State.deriveDemand_becomes (hz : s.zone n = some z) : ZoneBecomes n z.shown s (s.deriveDemand n) := by
  have derived := State.updZone_becomes hz Zone.shown
  unfold State.deriveDemand
  rw [hz]
  exact derived.trans (.ofZwc rfl derived.zone)

/-- A delivery is one event of its zone: every other zone stands as before (R115). -/
theorem State.deliverRisk_becomes {d : Delivery} (hz : s.zone d.zone = some z) :
    ZoneBecomes d.zone (z.delivered d s.wrl.nextSeq) s (s.deliverRisk d) := by
  have taken := State.updZone_becomes hz (fun z => (z.takeComponents d).countRise d.risk)
  have decided := taken.trans (State.decideLevel_becomes taken.zone d.risk)
  exact decided.trans (State.deriveDemand_becomes decided.zone)

/-- A delivery to a zone that is not configured leaves the zones. -/
theorem State.deliverRisk_absent {d : Delivery} (hz : s.zone d.zone = none) (n : Nat) :
    (s.deliverRisk d).zone n = s.zone n := by
  obtain ⟨v, hv⟩ : ∃ v, v = s.updZone d.zone (fun z => (z.takeComponents d).countRise d.risk) := ⟨_, rfl⟩
  have zone : ∀ m, v.zone m = s.zone m := fun m => by
    rw [hv, s.zone_updZone d.zone m _ (by exact fun _ => rfl)]
    split
    · rename_i h; rw [h, hz]; rfl
    · rfl
  have absent : v.zone d.zone = none := (zone _).trans hz
  have decided : v.decideLevel d.zone d.risk = v := by rw [State.decideLevel, absent]
  have derived : v.deriveDemand d.zone = v := by rw [State.deriveDemand, absent]
  rw [State.deliverRisk, ← hv, decided, derived, zone]

theorem State.deliverRisk_others (s : State) (d : Delivery) : ZonesBut d.zone s (s.deliverRisk d) := by
  cases hz : s.zone d.zone with
  | none => exact fun n _ => State.deliverRisk_absent hz n
  | some z => exact (State.deliverRisk_becomes hz).others

end

/-! ## What a delivery leaves of the zone, and the number of its LEVEL entry (R118, R198) -/

/-- A zone without the number of its LEVEL entry. -/
def Zone.unnumbered (z : Zone) : Zone := { z with levelSeq := none }

theorem Zone.eq_of_unnumbered {x y : Zone} (h : x.unnumbered = y.unnumbered) :
    x = { y with levelSeq := x.levelSeq } :=
  congrArg (fun z => { z with levelSeq := x.levelSeq }) h

section
variable (z : Zone)

theorem Zone.changed_unnumbered (new : Level) (cause : LevelCause) (a b : Seq) :
    (z.changed new cause a).unnumbered = (z.changed new cause b).unnumbered := by
  have aborted : ∀ y : Zone, (y.aborted new).unnumbered = y.unnumbered.aborted new := fun y => by
    unfold Zone.aborted
    rw [apply_ite Zone.unnumbered]
    rfl
  rw [Zone.changed, aborted, Zone.changed, aborted]
  rfl

/-- The number of the entry reaches no other part of the zone. -/
theorem Zone.delivered_unnumbered (d : Delivery) (a b : Seq) :
    (z.delivered d a).unnumbered = (z.delivered d b).unnumbered := by
  refine congrArg Zone.shown (?_ : (Zone.decided d.risk a _).unnumbered = (Zone.decided d.risk b _).unnumbered)
  unfold Zone.decided
  split
  · exact Zone.changed_unnumbered ..
  · split
    · split
      · exact Zone.changed_unnumbered ..
      · rfl
    · rfl

@[simp] theorem Zone.changed_level (new : Level) (cause : LevelCause) (seq : Seq) :
    (z.changed new cause seq).level = new := by
  unfold Zone.changed Zone.aborted
  split <;> rfl

theorem Zone.riseTo_above {l : Level} (h : z.riseTo = some l) : z.level.rank < l.rank := by
  unfold Zone.riseTo at h
  split at h
  · rename_i rise; cases h; exact rise.1
  · split at h
    · rename_i rise; cases h; exact rise.1
    · split at h
      · rename_i rise; cases h; exact rise.1
      · cases h

theorem Level.below_ne {l : Level} (h : l ≠ .clear) : l.below ≠ l := by
  cases l with
  | clear => exact absurd rfl h
  | watch => decide
  | warn => decide
  | alert => decide

theorem Zone.fallDecided_ne_clear {r : Nat} (h : z.fallDecided r = true) : z.level ≠ .clear := by
  simp only [Zone.fallDecided, Bool.and_eq_true, bne_iff_ne] at h
  exact h.1

/-- A delivery that does not change the level writes no LEVEL entry (R118). -/
theorem Zone.delivered_levelSeq {d : Delivery} {seq : Seq} (h : (z.delivered d seq).level = z.level) :
    (z.delivered d seq).levelSeq = z.levelSeq := by
  obtain ⟨y, hy⟩ : ∃ y, y = (z.takeComponents d).countRise d.risk := ⟨_, rfl⟩
  have level : y.level = z.level := by rw [hy]; rfl
  have levelSeq : y.levelSeq = z.levelSeq := by rw [hy]; rfl
  have after : z.delivered d seq = (y.decided d.risk seq).shown := by rw [hy]; rfl
  rw [after] at h ⊢
  replace h : (y.decided d.risk seq).level = y.level := h.trans level.symm
  refine Eq.trans (?_ : (y.decided d.risk seq).levelSeq = y.levelSeq) levelSeq
  unfold Zone.decided at h ⊢
  split
  · rename_i l rise
    rw [rise] at h
    have above := y.riseTo_above rise
    rw [← h, Zone.changed_level] at above
    exact absurd above (Nat.lt_irrefl _)
  · rename_i still
    rw [still] at h
    split
    · rename_i fall
      split
      · rename_i free
        dsimp only at h
        rw [if_pos fall, if_pos free, Zone.changed_level] at h
        exact absurd h (Level.below_ne (y.fallDecided_ne_clear fall))
      · rfl
    · rfl

/-- What no decision about the level touches: the configuration, BLIND and NO_MODEL, and the last delivery. -/
def Zone.stored (z : Zone) : ZoneCfg × Bool × Bool × Option LastDelivery := (z.cfg, z.blind, z.noModel, z.last)

theorem Zone.changed_stored (new : Level) (cause : LevelCause) (seq : Seq) :
    (z.changed new cause seq).stored = z.stored := by
  unfold Zone.changed Zone.aborted
  split <;> rfl

/-- A delivery stores its components and nothing else with them (R115 step 1). -/
theorem Zone.delivered_stored (d : Delivery) (seq : Seq) :
    (z.delivered d seq).stored = (z.takeComponents d).stored := by
  have decided : ∀ y : Zone, (y.decided d.risk seq).stored = y.stored := fun y => by
    unfold Zone.decided
    split
    · exact Zone.changed_stored ..
    · split
      · split
        · exact Zone.changed_stored ..
        · rfl
      · rfl
  exact decided _

end

end Sys2Proof.Machine

/-! # The zone results of a round close and their deliveries (R101 to R107, R115) -/

namespace Sys2Proof.Machine

/-! ## The measured part of a result (R103, R104) -/

section
variable {s : State}

/-- The result of a monitor with a current reading (R103). -/
theorem State.monitorResult_current {c : ZoneCfg} {n conc : Nat} {round : Round} {hold : Monitor}
    (hm : s.monitor n = some hold) (current : hold.current = true) (value : hold.value = some (conc, round)) :
    s.monitorResult c n =
      { slot := n, net := some (conc - c.background), index := some (indexOf (conc - c.background) c.fd) } := by
  rw [State.monitorResult, hm]
  dsimp only
  rw [current, value]

/-- A monitor without a current reading has no result (R103). -/
theorem State.monitorResult_old {c : ZoneCfg} {n : Nat}
    (old : ∀ hold, s.monitor n = some hold → hold.current = false) :
    s.monitorResult c n = { slot := n, net := none, index := none } := by
  unfold State.monitorResult
  split
  · rfl
  · rename_i hold hm
    rw [old hold hm]

/-- An index is at most 1000 (R103). -/
theorem State.monitorResult_index_le {c : ZoneCfg} {n i : Nat} (h : (s.monitorResult c n).index = some i) :
    i ≤ 1000 := by
  unfold State.monitorResult at h
  split at h
  · cases h
  · split at h
    · cases h; exact Nat.min_le_left ..
    · cases h

/-- BLIND: monitors are named, and none of them is current (R104). -/
theorem blindOf_iff {l : List MonitorResult} : blindOf l = true ↔ l ≠ [] ∧ ∀ m ∈ l, m.index = none := by
  simp [blindOf]

/-- The measured part of a result as it follows from the holds of a state (R103, R104). -/
structure ZoneResult.MeasuredIn (t : State) (c : ZoneCfg) (r : ZoneResult) : Prop where
  slots : r.monitors.map (fun m => m.slot) = c.monitors
  current : ∀ m ∈ r.monitors, ∀ hold conc round, t.monitor m.slot = some hold → hold.current = true →
    hold.value = some (conc, round) →
      m.net = some (conc - c.background) ∧ m.index = some (min 1000 ((conc - c.background) * 1000 / c.fd))
  old : ∀ m ∈ r.monitors, (∀ hold, t.monitor m.slot = some hold → hold.current = false) →
    m.net = none ∧ m.index = none
  bound : ∀ m ∈ r.monitors, ∀ i, m.index = some i → i ≤ r.measured
  range : r.measured ≤ 1000
  taken : r.measured ≠ 0 → ∃ m ∈ r.monitors, m.index = some r.measured
  blind : r.blind = true ↔ c.monitors ≠ [] ∧ ∀ m ∈ r.monitors, m.index = none

/-- An assessment measures by the monitors that the zone names. -/
theorem State.assessZone_measured (s : State) (z : Zone) (r : ZoneResult) : (s.assessZone z r).MeasuredIn s z.cfg := by
  obtain ⟨rs, hrs⟩ : ∃ rs, rs = z.cfg.monitors.map (s.monitorResult z.cfg) := ⟨_, rfl⟩
  have monitors : (s.assessZone z r).monitors = rs := by rw [hrs]; rfl
  have measured : (s.assessZone z r).measured = highestIndex rs := by rw [hrs]; rfl
  have blind : (s.assessZone z r).blind = blindOf rs := by rw [hrs]; rfl
  have result : ∀ m ∈ rs, m = s.monitorResult z.cfg m.slot := fun m hm => by
    rw [hrs] at hm
    obtain ⟨n, -, rfl⟩ := List.mem_map.mp hm
    rw [State.monitorResult_slot]
  constructor
  case slots =>
    rw [monitors, hrs, List.map_map]
    exact List.map_id'' (fun n => s.monitorResult_slot z.cfg n) _
  case current =>
    intro m hm hold conc round hhold current value
    rw [monitors] at hm
    rw [result m hm, State.monitorResult_current hhold current value]
    exact ⟨rfl, rfl⟩
  case old =>
    intro m hm old
    rw [monitors] at hm
    rw [result m hm, State.monitorResult_old old]
    exact ⟨rfl, rfl⟩
  case bound =>
    intro m hm i hi
    rw [monitors] at hm
    rw [measured]
    exact le_highestIndex hm hi
  case range =>
    rw [measured]
    by_cases zero : highestIndex rs = 0
    · omega
    · obtain ⟨m, hm, hi⟩ := exists_highestIndex zero
      rw [result m hm] at hi
      exact State.monitorResult_index_le hi
  case taken =>
    rw [monitors, measured]
    exact exists_highestIndex
  case blind =>
    rw [monitors, blind, blindOf_iff, hrs, ne_eq, List.map_eq_nil_iff]

theorem ZoneResult.MeasuredIn.congr {t : State} {c : ZoneCfg} {r : ZoneResult} (h : r.MeasuredIn s c)
    (spm : t.spm = s.spm) : r.MeasuredIn t c := by
  have monitor : ∀ n, t.monitor n = s.monitor n := fun n => by rw [State.monitor, spm, State.monitor]
  constructor
  case slots => exact h.slots
  case current => simpa only [monitor] using h.current
  case old => simpa only [monitor] using h.old
  case bound => exact h.bound
  case range => exact h.range
  case taken => exact h.taken
  case blind => exact h.blind

/-! ## The deliveries (R107) -/

/-- The deliveries of a list of results to zones that differ from `n` leave that zone. -/
theorem foldl_deliverRisk_other {n : Nat} (round : Round) : ∀ (l : List ZoneResult) (s : State),
    n ∉ l.map (fun r => r.zone) → (l.foldl (fun t r => t.deliverRisk (r.delivery round)) s).zone n = s.zone n
  | [], _, _ => rfl
  | r :: l, s, h => by
    rw [List.map_cons, List.mem_cons, not_or] at h
    obtain ⟨hr, hl⟩ := h
    exact (foldl_deliverRisk_other round l _ hl).trans (s.deliverRisk_others (r.delivery round) n hr)

/-- Each of a list of results for different zones reaches its zone as one delivery. -/
theorem foldl_deliverRisk_zone {r : ZoneResult} {z : Zone} (round : Round) (l : List ZoneResult) :
    ∀ s : State, (l.map (fun r => r.zone)).Nodup → r ∈ l → s.zone r.zone = some z →
    ∃ seq, (l.foldl (fun t r => t.deliverRisk (r.delivery round)) s).zone r.zone =
      some (z.delivered (r.delivery round) seq) := by
  induction l with
  | nil => exact fun _ _ hr _ => absurd hr List.not_mem_nil
  | cons x l ih =>
    intro s distinct hr hz
    rw [List.map_cons, List.nodup_cons] at distinct
    obtain ⟨hx, hl⟩ := distinct
    rw [List.foldl_cons]
    rcases List.mem_cons.mp hr with rfl | hr
    · refine ⟨s.wrl.nextSeq, (foldl_deliverRisk_other round l _ hx).trans ?_⟩
      exact (State.deliverRisk_becomes (d := r.delivery round) hz).zone
    · have other : r.zone ≠ x.zone := fun e => hx (e ▸ List.mem_map_of_mem hr)
      exact ih _ hl hr ((s.deliverRisk_others (x.delivery round) _ other).trans hz)

/-- The result records stand for different zones (R91). -/
theorem State.TablesOk.results_nodup (h : s.TablesOk) : (s.rke.zones.map (fun r => r.zone)).Nodup := by
  rw [h.results]
  exact List.pairwise_map.mpr (h.zones.imp fun lt => Nat.ne_of_lt lt)

/-- Every result record stands for a configured zone (R91). -/
theorem State.TablesOk.zone_of_mem (h : s.TablesOk) {r : ZoneResult} (hr : r ∈ s.rke.zones) :
    ∃ z, s.zone r.zone = some z := by
  have key : r.zone ∈ s.zwc.zones.map (fun z => z.cfg.zone) := h.results ▸ List.mem_map_of_mem hr
  exact Option.ne_none_iff_exists'.mp fun absent => findKey_eq_none.mp absent key

/-- What stages 4 to 6 make of the zones: every result record is assessed, and its zone takes it as one delivery
(R89, R107, R115). -/
theorem State.assessZones_delivered (h : s.TablesOk) {r : ZoneResult}
    (hr : r ∈ s.assessZones.deliverZones.rke.zones) :
    ∃ x z seq, s.zone r.zone = some z ∧ r = s.assessZone z x
      ∧ s.assessZones.deliverZones.zone r.zone = some (z.delivered (r.delivery s.flc.round) seq) := by
  have tables : s.assessZones.TablesOk :=
    h.ofSame ((State.assessZones_keeps s).sameTables (rke := fun _ => s.assessZones_table))
  have rke : s.assessZones.deliverZones.rke = s.assessZones.rke := (State.deliverZones_keeps _).rke (by decide)
  rw [rke] at hr
  obtain ⟨x, hx, rfl⟩ : ∃ x ∈ s.rke.zones, s.zoneAssessed x = r := List.mem_map.mp hr
  obtain ⟨z, hz⟩ := h.zone_of_mem hx
  have zone : s.zone (s.zoneAssessed x).zone = some z := by rw [State.zoneAssessed_zone, hz]
  obtain ⟨seq, delivered⟩ :=
    foldl_deliverRisk_zone (z := z) s.flc.round _ s.assessZones tables.results_nodup hr zone
  exact ⟨x, z, seq, zone, State.zoneAssessed_configured hz, delivered⟩

end

/-! ## The assessment as a whole -/

/-- The state from which the zones are assessed: stages 2 and 3 are passed over on a wind-blind site (R89, R93). -/
def State.beforeZones (s : State) : State := if s.wgt.windBlind then s else s.assessPiles.assessPaths

section
variable (s : State)

theorem State.assess_eq : s.assess = s.beforeZones.assessZones.deliverZones := rfl

theorem State.beforeZones_keeps : KeepsBut [.rke, .spm, .pif] s s.beforeZones := by
  unfold State.beforeZones
  split
  · exact .refl _ _
  · exact (State.assessPaths_keeps _).andThen (by decide) (State.assessPiles_keeps s)

theorem State.beforeZones_sameTables : SameTables s s.beforeZones := by
  unfold State.beforeZones
  split
  · exact .refl s
  · exact s.assessPaths_sameTables

end

/-- Every zone result that an assessment leaves is the assessment of its zone, which takes it as one delivery (R89,
R107, R115). -/
theorem State.assess_delivered {s : State} (h : s.TablesOk) {r : ZoneResult} (hr : r ∈ s.assess.rke.zones) :
    ∃ x z seq, s.zone r.zone = some z ∧ r = s.beforeZones.assessZone z x
      ∧ s.assess.zone r.zone = some (z.delivered (r.delivery s.flc.round) seq) := by
  have before := s.beforeZones_keeps
  rw [State.assess_eq] at hr ⊢
  rw [← State.zone_congr (before.zwc (by decide)), ← before.flc (by decide)]
  exact State.assessZones_delivered (h.ofSame s.beforeZones_sameTables) hr

/-- The measured part of a zone result follows from the holds that the assessment leaves (R103, R104). -/
theorem State.assess_measured (s : State) (z : Zone) (x : ZoneResult) :
    (s.beforeZones.assessZone z x).MeasuredIn s.assess z.cfg := by
  obtain ⟨spm, -, -⟩ := s.beforeZones.assessZones_others
  exact (s.beforeZones.assessZone_measured z x).congr spm

/-- The ranges of the modelled fields on a site that is not wind-blind (R101, R102). -/
theorem ZoneResult.FormedIn.ranges {s : State} {fm total : Nat} {r : ZoneResult} (h : r.FormedIn s fm total) :
    r.modelled ≤ 1000 ∧ r.sum ≤ 16777215 ∧ r.blindCount = 0 := by
  obtain ⟨sum, modelled, blindCount, -, -⟩ := h
  exact ⟨modelled ▸ Nat.min_le_left .., sum ▸ Nat.min_le_left .., blindCount⟩

/-! ## A round close without an apply (R163) -/

theorem State.inForce_eq {s t : State} (tables : SameTables s t) (cau : t.cau = s.cau) : t.inForce = s.inForce := by
  have stations := tables.srg
  have piles := congrArg (fun x => x.2.2) tables.spm
  have zones := tables.zwc
  have paths := congrArg (fun x => x.1) tables.rke
  simp only [Srg.table, Spm.table, Zwc.table, Rke.table] at stations piles zones paths
  rw [State.inForce, stations, piles, zones, paths, cau, State.inForce]

theorem State.applySet_of_not_accepted {s : State} (h : s.cau.state ≠ .accepted) : s.applySet = s := by
  unfold State.applySet
  split
  · rename_i accepted; exact absurd accepted h
  · rfl
  · rfl
  · rfl

/-- A round close with no accepted set keeps the configuration in force and the set. -/
theorem State.closeRound_unapplied {s : State} {p : Progress} (hr : s.flc.mode.runs = true)
    (hp : s.flc.progress = some p) (hc : p.closed = false) (h : s.cau.state ≠ .accepted) :
    s.closeRound.inForce = s.inForce ∧ s.closeRound.cau = s.cau := by
  have closing : s.closing p = s.atClose p := State.applySet_of_not_accepted h
  have tables : SameTables (s.closing p) s.closeRound := by
    rw [State.closeRound_open hr hp hc]
    exact State.afterApply_tables _
  have cau : s.closeRound.cau = (s.closing p).cau := by
    rw [State.closeRound_open hr hp hc, (State.assess_keeps _).cau (by decide),
      (State.closeSite_keeps _).cau (by decide), ← State.beforeSite, s.beforeSite_cau]
  rw [State.inForce_eq tables cau, cau, closing]
  exact ⟨rfl, rfl⟩

/-- Settles O21: a zone's result is what the assessment forms of the holds, and the zone differs from one delivery
of it to the zone that the apply left in the number of its LEVEL entry alone. -/
theorem roundCloseDeliversEveryZone : Obligations.RoundCloseDeliversEveryZone := by
  intro s p hr hp hc htables
  refine ⟨s.closeRound, rfl, State.closeRound_unapplied hr hp hc, fun r hmem => ?_, htables.closeRound.results.symm⟩
  obtain ⟨y, hy⟩ : ∃ y, y = (s.beforeSite p).closeSite := ⟨_, rfl⟩
  have tables : y.TablesOk := hy ▸ htables.beforeAssess p
  have round : y.flc.round = s.flc.round := by
    rw [hy, (State.closeSite_keeps _).flc (by decide), s.beforeSite_round]
  have zwc : y.zwc = (s.closing p).zwc := by
    rw [hy, (State.closeSite_keeps _).zwc (by decide), State.beforeSite, (State.closeWind_keeps _).zwc (by decide),
      (State.closeLoop_keeps _).zwc (by decide)]
  have wgt : y.assess.wgt = y.wgt := (State.assess_keeps _).wgt (by decide)
  have blind : y.beforeZones.wgt = y.wgt := y.beforeZones_keeps.wgt (by decide)
  have timed : y.beforeZones.flc = y.flc := y.beforeZones_keeps.flc (by decide)
  have closed : s.closeRound = y.assess := hy ▸ State.closeRound_open hr hp hc
  rw [closed] at hmem ⊢
  obtain ⟨x, z, seq, hz, hx, delivered⟩ := State.assess_delivered tables hmem
  rw [round] at delivered
  have measured : r.MeasuredIn y.assess z.cfg := hx ▸ y.assess_measured z x
  have before : (s.closing p).zone r.zone = some z := (State.zone_congr zwc _).symm.trans hz
  have fresh := (State.deliverRisk_becomes (d := r.delivery s.flc.round) before).zone
  have stored := z.delivered_stored (r.delivery s.flc.round) seq
  simp only [Zone.stored, Zone.takeComponents, Prod.mk.injEq] at stored
  obtain ⟨cfg, blindFlag, noModel, last⟩ := stored
  refine ⟨by rw [hx, ← round, ← timed]; rfl, by rw [hx]; rfl, measured.range, by rw [hx, wgt, ← blind]; rfl,
    fun sighted => ?_, _, delivered, blindFlag, noModel, last, ?_⟩
  · rw [wgt] at sighted
    exact (State.assess_zoneFormed sighted tables hmem delivered rfl).ranges
  · rw [cfg]
    exact ⟨measured.slots,
      fun m hm => ⟨measured.current m hm, measured.old m hm, measured.bound m hm⟩, measured.taken, measured.blind,
      z, _, before, fresh, Zone.eq_of_unnumbered (z.delivered_unnumbered ..), z.delivered_levelSeq⟩

end Sys2Proof.Machine

/-! # What moves no zone's level (R117, R118, R134) -/

namespace Sys2Proof.Machine

/-! ## Zones that keep their level -/

/-- A zone as an event leaves it that neither moves its level nor sets a floor. -/
structure Zone.LevelKept (z z' : Zone) : Prop where
  number : z'.cfg.zone = z.cfg.zone
  level : z'.level = z.level
  floors : z'.highestFloor.rank ≤ z.highestFloor.rank

/-- Every zone keeps its place in the table and its level, and none gains a floor. -/
def LevelsKept (s t : State) : Prop := List.Forall₂ Zone.LevelKept s.zwc.zones t.zwc.zones

theorem Level.rank_higher (x y : Level) : (x.higher y).rank = max x.rank y.rank := by
  unfold Level.higher
  split <;> omega

theorem Zone.highestFloor_rank (z : Zone) :
    z.highestFloor.rank = max (floorLevel z.tFloor).rank (floorLevel z.qFloor).rank := Level.rank_higher ..

section
variable {s t u : State}

theorem LevelsKept.trans (h : LevelsKept s t) (k : LevelsKept t u) : LevelsKept s u := by
  unfold LevelsKept at h k ⊢
  generalize s.zwc.zones = xs at h
  generalize t.zwc.zones = ys at h k
  generalize u.zwc.zones = zs at k
  induction h generalizing zs with
  | nil => cases k; exact .nil
  | cons hxy _ ih =>
    cases k with
    | cons hyz k =>
      exact .cons ⟨hyz.number.trans hxy.number, hyz.level.trans hxy.level, hyz.floors.trans hxy.floors⟩ (ih _ k)

/-- An operation that leaves the zones. -/
theorem LevelsKept.ofZwc (h : t.zwc = s.zwc) : LevelsKept s t := by
  rw [LevelsKept, h]
  exact List.forall₂_same.mpr fun z _ => ⟨rfl, rfl, le_rfl⟩

/-- An operation whose changes do not reach the ZWC. -/
theorem KeepsBut.levelsKept {ps : List Part} (k : KeepsBut ps s t)
    (h : Part.zwc ∉ ps := by decide) : LevelsKept s t := .ofZwc (k.zwc h)

/-- One more operation that leaves the zones. -/
theorem LevelsKept.andZwc (h : LevelsKept s t) (k : u.zwc = t.zwc) : LevelsKept s u := h.trans (.ofZwc k)

theorem LevelsKept.foldl {α : Type} {f : State → α → State} (h : ∀ s a, LevelsKept s (f s a)) :
    ∀ (l : List α) (s : State), LevelsKept s (l.foldl f s)
  | [], _ => .ofZwc rfl
  | a :: l, s => (h s a).trans (LevelsKept.foldl h l (f s a))

/-- The numbers and levels of the zones, read off their tables. -/
theorem LevelsKept.levels (h : LevelsKept s t) :
    t.zwc.zones.map (fun z => (z.cfg.zone, z.level)) = s.zwc.zones.map (fun z => (z.cfg.zone, z.level)) := by
  unfold LevelsKept at h
  generalize s.zwc.zones = xs at h
  generalize t.zwc.zones = ys at h
  induction h with
  | nil => rfl
  | cons h _ ih => rw [List.map_cons, List.map_cons, h.number, h.level, ih]

end

/-- What the Q-port's commands on a zone and the ends of silences and tests have in common: the zone changes, the
action is recorded, a LEVEL notice tells of it, and the demand is derived anew (R124 to R128). -/
def State.actOn (n : Nat) (f : Zone → Zone) (action : Action) (event : LevelEvent) (s : State) : State :=
  (((s.updZone n f).record (.action action .q)).raiseZone .routine event n).deriveDemand n

section
variable (s : State) (n : Nat)

/-- A change of one zone that leaves its level and sets no floor. -/
theorem State.updZone_levelsKept (f : Zone → Zone)
    (hf : ∀ z : Zone, z.cfg.zone = n → z.LevelKept (f z) := by exact fun _ _ => ⟨rfl, rfl, le_rfl⟩) :
    LevelsKept s (s.updZone n f) := by
  unfold LevelsKept State.updZone
  induction s.zwc.zones with
  | nil => exact .nil
  | cons z l ih =>
    refine .cons ?_ ih
    split
    · rename_i h; exact hf z h
    · exact ⟨rfl, rfl, le_rfl⟩

/-! ## The output demand and DARK (R129, R130) -/

theorem State.deriveDemand_levelsKept : LevelsKept s (s.deriveDemand n) := by
  unfold State.deriveDemand
  split
  · exact .ofZwc rfl
  · exact (State.updZone_levelsKept ..).andZwc rfl

theorem State.judgeDark_levelsKept : LevelsKept s (s.judgeDark n) := by
  unfold State.judgeDark
  split
  · exact .ofZwc rfl
  · split
    · exact (State.updZone_levelsKept ..).andZwc (State.raiseZone_zwc ..)
    · exact (State.updZone_levelsKept ..).andZwc (State.raiseZone_zwc ..)
    · exact .ofZwc rfl
    · exact .ofZwc rfl

theorem State.faultReport_levelsKept : LevelsKept s (s.faultReport n) := s.judgeDark_levelsKept _

/-! ## The ends of floors, silences and tests (R122, R125, R128) -/

theorem Zone.setFloor_none_highestFloor (role : Port) (z : Zone) :
    (z.setFloor role none).highestFloor.rank ≤ z.highestFloor.rank := by
  simp only [Zone.highestFloor_rank]
  cases role with
  | t => exact max_le_max_right _ (Nat.zero_le _)
  | q => exact max_le_max_left _ (Nat.zero_le _)
  | s => exact le_rfl

theorem State.endFloor_levelsKept (role : Port) (byExpiry : Bool) : LevelsKept s (s.endFloor n role byExpiry) := by
  unfold State.endFloor
  split
  · exact .ofZwc rfl
  · split
    · exact .ofZwc rfl
    · refine LevelsKept.andZwc (s.updZone_levelsKept n _ fun z _ => ?_) (State.raiseZone_zwc ..)
      exact ⟨by cases role <;> rfl, by cases role <;> rfl, z.setFloor_none_highestFloor role⟩

theorem State.actOn_levelsKept (f : Zone → Zone) (action : Action) (event : LevelEvent)
    (hf : ∀ z : Zone, z.LevelKept (f z) := by exact fun _ => ⟨rfl, rfl, le_rfl⟩) :
    LevelsKept s (s.actOn n f action event) := by
  refine LevelsKept.trans ?_ (State.deriveDemand_levelsKept ..)
  exact (s.updZone_levelsKept n f fun z _ => hf z).andZwc (State.raiseZone_zwc ..)

theorem State.expireFloor_levelsKept (role : Port) : LevelsKept s (s.expireFloor n role) := by
  unfold State.expireFloor
  split
  · exact .ofZwc rfl
  · split
    · exact .ofZwc rfl
    · exact (State.reach_keeps ..).levelsKept.trans (State.endFloor_levelsKept ..)

theorem State.expireSilence_levelsKept : LevelsKept s (s.expireSilence n) := by
  unfold State.expireSilence
  split
  · exact .ofZwc rfl
  · split
    · exact .ofZwc rfl
    · exact (State.reach_keeps ..).levelsKept.trans (State.actOn_levelsKept ..)

theorem State.completeTest_levelsKept : LevelsKept s (s.completeTest n) := by
  unfold State.completeTest
  split
  · exact .ofZwc rfl
  · split
    · exact .ofZwc rfl
    · exact (State.reach_keeps ..).levelsKept.trans (State.actOn_levelsKept ..)

/-! ## Master silence and RESTART (R133, R134) -/

theorem Zone.masterSilent_levelKept (port : Port) (z : Zone) : z.LevelKept (z.masterSilent port) := by
  cases port with
  | t =>
    unfold Zone.masterSilent
    dsimp only
    split
    · exact ⟨rfl, rfl, z.setFloor_none_highestFloor .t⟩
    · exact ⟨rfl, rfl, le_rfl⟩
  | q => exact ⟨rfl, rfl, z.setFloor_none_highestFloor .q⟩
  | s => exact ⟨rfl, rfl, le_rfl⟩

theorem State.silenceZone_levelsKept (port : Port) : LevelsKept s (s.silenceZone port n) := by
  unfold State.silenceZone
  split
  · exact .ofZwc rfl
  · split
    · refine LevelsKept.andZwc ?_ (State.raiseZone_zwc ..)
      exact (s.updZone_levelsKept n _ fun z _ => z.masterSilent_levelKept port).trans
        (State.deriveDemand_levelsKept ..)
    · exact .ofZwc rfl

theorem State.silenceZones_levelsKept (port : Port) : LevelsKept s (s.silenceZones port) :=
  .foldl (fun t n => t.silenceZone_levelsKept n port) _ s

theorem State.restartZones_levelsKept : LevelsKept s s.restartZones := by
  have changed : LevelsKept s { s with zwc.zones := s.zwc.zones.map Zone.restarted } :=
    List.forall₂_map_right_iff.mpr (List.forall₂_same.mpr fun z _ => ⟨rfl, rfl, le_rfl⟩)
  exact changed.trans (.foldl (fun t n => t.deriveDemand_levelsKept n) _ _)

/-! ## The output lines (R140 to R146) -/

theorem State.shortLine_levelsKept : LevelsKept s (s.shortLine n) := by
  unfold State.shortLine
  split
  · exact .ofZwc rfl
  · split
    · dsimp only
      split
      · exact .ofZwc rfl
      · refine LevelsKept.andZwc ?_ (State.raiseLine_zwc ..)
        split
        · exact .ofZwc rfl
        · exact (State.updLine_keeps ..).levelsKept.trans (State.faultReport_levelsKept ..)
    · exact .ofZwc rfl

theorem State.putOpen_levelsKept (v : Bool) : LevelsKept s (s.putOpen n v) := by
  have reported : LevelsKept s ((s.updLine n (fun l => { l with openFlag := v })).faultReport n) :=
    (State.updLine_keeps ..).levelsKept.trans (State.faultReport_levelsKept ..)
  unfold State.putOpen
  dsimp only
  split
  · exact reported.andZwc (State.raiseLine_zwc ..)
  · exact reported.andZwc (State.raiseLine_zwc ..)

theorem State.checkLine_levelsKept (sense : BitVec 32) : LevelsKept s (s.checkLine sense n) := by
  have counted : LevelsKept s (s.updLine n (Line.counted (sense.getLsbD (n - 1)))) := .ofZwc rfl
  unfold State.checkLine
  split
  · exact .ofZwc rfl
  · split
    · dsimp only
      split
      · exact counted.trans (State.putOpen_levelsKept ..)
      · split
        · exact counted.trans (State.putOpen_levelsKept ..)
        · exact counted
    · exact .ofZwc rfl

theorem State.checkLines_levelsKept (sense : BitVec 32) : LevelsKept s (s.checkLines sense) := by
  have counted : LevelsKept s { s.reach s.oda.nextCheck with
      oda.checks := (s.reach s.oda.nextCheck).oda.checks + 1 } := .ofZwc rfl
  exact counted.trans (.foldl (fun t n => t.checkLine_levelsKept n sense) _ _)

theorem State.clearLatch_levelsKept (openFlag : Bool) : LevelsKept s (s.clearLatch n openFlag) := by
  unfold State.clearLatch
  dsimp only
  split
  · exact .ofZwc (State.raiseLine_zwc ..)
  · refine LevelsKept.trans ?_ (State.faultReport_levelsKept ..)
    exact .ofZwc (State.raiseLine_zwc ..)

end

/-! ## The commands of the masters -/

section
variable (a : Asked) (s : State)

theorem State.reply_levelsKept (r : Result) (units : List (List Byte)) : LevelsKept s (s.reply a r units) :=
  (State.reply_keeps ..).levelsKept

theorem State.replyRange_levelsKept (index : Nat) : LevelsKept s (s.replyRange a index) :=
  (State.replyRange_keeps ..).levelsKept

theorem ackAlertCommand_levelsKept (zone : Byte) : LevelsKept s (ackAlertCommand zone a s) := by
  unfold ackAlertCommand
  split
  · split
    · exact s.reply_levelsKept a ..
    · split
      · exact (State.actOn_levelsKept ..).trans (State.reply_levelsKept ..)
      · exact s.reply_levelsKept a ..
  · exact s.replyRange_levelsKept a ..

theorem silenceCommand_levelsKept (zone : Byte) (minutes : BitVec 16) :
    LevelsKept s (silenceCommand zone minutes a s) := by
  unfold silenceCommand
  split
  · split
    · exact s.reply_levelsKept a ..
    · exact (State.actOn_levelsKept ..).trans (State.reply_levelsKept ..)
  · exact s.replyRange_levelsKept a ..

theorem serviceCommand_levelsKept (zone state : Byte) : LevelsKept s (serviceCommand zone state a s) := by
  unfold serviceCommand
  split
  · split
    · exact s.replyRange_levelsKept a ..
    · split
      · exact s.reply_levelsKept a ..
      · split
        · exact s.reply_levelsKept a ..
        · exact (State.actOn_levelsKept ..).trans (State.reply_levelsKept ..)
  · exact s.replyRange_levelsKept a ..

theorem testCommand_levelsKept (zone : Byte) : LevelsKept s (testCommand zone a s) := by
  unfold testCommand
  split
  · split
    · exact s.reply_levelsKept a ..
    · split
      · exact (State.actOn_levelsKept ..).trans (State.reply_levelsKept ..)
      · exact s.reply_levelsKept a ..
  · exact s.replyRange_levelsKept a ..

theorem clearLineCommand_levelsKept (line : Byte) : LevelsKept s (clearLineCommand line a s) := by
  unfold clearLineCommand
  split
  · split
    · exact s.replyRange_levelsKept a ..
    · split
      · exact (State.clearLatch_levelsKept ..).trans (State.reply_levelsKept ..)
      · exact s.reply_levelsKept a ..
  · exact s.replyRange_levelsKept a ..

/-- RESTART keeps the levels and the floors (R133). -/
theorem restartCommand_levelsKept : LevelsKept s (restartCommand a s) := by
  have marked : LevelsKept s (s.restartLoop.markRestart a.port) :=
    (State.restartLoop_keeps s).levelsKept.trans (State.markRestart_keeps ..).levelsKept
  have before : ∀ t : State, LevelsKept t t.restartStations.restartWind.restartSite.restartRisk := fun t =>
    ((State.restartStations_keeps t).levelsKept.trans (State.restartWind_keeps _).levelsKept).trans
      ((State.restartSite_keeps _).levelsKept.trans (State.restartRisk_keeps _).levelsKept)
  have blocks : ∀ t : State, LevelsKept t t.restartBlocks := fun t =>
    (before t).trans ((State.restartZones_levelsKept _).trans (State.restartSet_keeps _).levelsKept)
  exact marked.trans ((State.reply_levelsKept ..).trans (blocks _))

/-- No command of a master but FLOOR moves a level or sets a floor (R118). -/
theorem runCommand_levelsKept (c : Command) (hc : ∀ zone level minutes, c ≠ .floor zone level minutes) :
    LevelsKept s (runCommand c a s) := by
  cases c with
  | floor zone level minutes => exact absurd rfl (hc zone level minutes)
  | ackAlert => exact ackAlertCommand_levelsKept ..
  | silence => exact silenceCommand_levelsKept ..
  | service => exact serviceCommand_levelsKept ..
  | test => exact testCommand_levelsKept ..
  | clearLine => exact clearLineCommand_levelsKept ..
  | restart => exact restartCommand_levelsKept ..
  | ackLoss => exact (ackLossCommand_keeps ..).levelsKept
  | reportWetting => exact (reportWettingCommand_keeps ..).levelsKept
  | reportActivity => exact (reportActivityCommand_keeps ..).levelsKept
  | stage => exact (stageCommand_keeps ..).levelsKept
  | discard => exact (discardCommand_keeps ..).levelsKept
  | propose => exact (proposeCommand_keeps ..).levelsKept
  | accept => exact (acceptCommand_keeps ..).levelsKept
  | refuse => exact (refuseCommand_keeps ..).levelsKept
  | status => exact (statusCommand_keeps ..).levelsKept
  | readZone => exact (readZoneCommand_keeps ..).levelsKept
  | readPile => exact (readPileCommand_keeps ..).levelsKept
  | readStations => exact (readStationsCommand_keeps ..).levelsKept
  | readStrangers => exact (readStrangersCommand_keeps ..).levelsKept
  | readGusts => exact (readGustsCommand_keeps ..).levelsKept
  | readPaths => exact (readPathsCommand_keeps ..).levelsKept
  | readConfigItem => exact (readConfigItemCommand_keeps ..).levelsKept
  | readLoop => exact (readLoopCommand_keeps ..).levelsKept
  | readLogNext => exact (readLogNextCommand_keeps ..).levelsKept
  | readLogAt => exact (readLogAtCommand_keeps ..).levelsKept

/-- A command is answered without effect, or its owner runs it (R173). -/
theorem judgeCommand_cases (c : Option Command) :
    (∃ r, judgeCommand c a s = s.reply a r []) ∨ ∃ x, c = some x ∧ judgeCommand c a s = runCommand x a s := by
  unfold judgeCommand
  split
  · exact .inl ⟨_, rfl⟩
  · cases c with
    | none => exact .inl ⟨_, rfl⟩
    | some x =>
      dsimp only
      split
      · exact .inr ⟨x, rfl, rfl⟩
      · exact .inl ⟨_, rfl⟩

end

theorem State.issue_levelsKept (s : State) (port : Port) (tag : Byte) (c : Command)
    (hc : ∀ zone level minutes, c ≠ .floor zone level minutes) : LevelsKept s (s.issue port tag c) := by
  rw [State.issue_eq]
  refine (State.held_keeps port (c.content tag) s).levelsKept.trans ?_
  rcases judgeCommand_cases (rowAsked s port tag c) (s.held port (c.content tag)) c.formatted with ⟨r, h⟩ | ⟨x, hx, h⟩
  · rw [h]; exact State.reply_levelsKept ..
  · have same : c = x := by
      unfold Command.formatted at hx
      split at hx <;> cases hx
      rfl
    rw [h, ← same]
    exact runCommand_levelsKept _ _ c hc

theorem State.expireWatch_levelsKept (s : State) (port : Port) : LevelsKept s (s.expireWatch port) := by
  unfold State.expireWatch
  split
  · exact .ofZwc rfl
  · unfold State.silenceMaster
    refine LevelsKept.trans ?_ (State.silenceSet_keeps ..).levelsKept
    refine LevelsKept.trans ?_ (State.silencePiles_keeps ..).levelsKept
    refine LevelsKept.trans ?_ (State.silenceZones_levelsKept ..)
    exact .ofZwc rfl

/-! ## The events -/

/-- The next state of an event is the one that its meaning names. -/
theorem LevelsKept.ofNext {s u t : State} (he : (.next u : Host.Outcome State Fault Refusal) = .next t)
    (hu : LevelsKept s u) : LevelsKept s t := by
  cases he
  exact hu

/-- An event moves a level only by a delivery or a floor: in a round close, in a FLOOR, or in a frame that may carry
one, which is taken when it closes or when the frame before it has been answered (R117, R118, R134). -/
theorem exec_levelsKept (i : Instr) {s t : State} (power : i ≠ .power) (close : i ≠ .roundClose)
    (floor : ∀ port tag zone level minutes, i ≠ .floor port tag zone level minutes)
    (frame : ∀ port bytes e, i ≠ .portFrame port bytes e) (sent : ∀ port, i ≠ .transmitComplete port)
    (he : exec i s = .next t) : LevelsKept s t := by
  cases i
  case power => exact absurd rfl power
  case roundClose => exact absurd rfl close
  case floor port tag zone level minutes => exact absurd rfl (floor port tag zone level minutes)
  case portFrame port bytes e => exact absurd rfl (frame port bytes e)
  case transmitComplete port => exact absurd rfl (sent port)
  case short n => exact .ofNext he (s.shortLine_levelsKept n)
  case lineCheck sense => exact .ofNext he (s.checkLines_levelsKept sense)
  case floorExpiry n role => exact .ofNext he (s.expireFloor_levelsKept n role)
  case silenceExpiry n => exact .ofNext he (s.expireSilence_levelsKept n)
  case testEnd n => exact .ofNext he (s.completeTest_levelsKept n)
  case masterSilenceExpiry port => exact .ofNext he (s.expireWatch_levelsKept port)
  case listenPeriodEnd => exact .ofNext he (State.endListen_keeps s).levelsKept
  case foreignBeaconHeard => exact .ofNext he (State.hearForeign_keeps s).levelsKept
  case backOffEnd => exact .ofNext he (State.endBackOff_keeps s).levelsKept
  case roundStart => exact .ofNext he (State.startRound_keeps s).levelsKept
  case phaseBOut => exact .ofNext he (State.startPhaseB_keeps s).levelsKept
  case loopCopy side w e bytes => exact .ofNext he (State.takeCopy_keeps side w e bytes s).levelsKept
  case slotEnd n => exact .ofNext he (State.endSlot_keeps n s).levelsKept
  case retryWaitEnd n => exact .ofNext he (State.endRetry_keeps n s).levelsKept
  case patternPhaseChange g => exact .ofNext he (State.changePhase_keeps g s).levelsKept
  case cleanCountTick => exact .ofNext he (State.cleanTick_keeps s).levelsKept
  case idleExpiry => exact .ofNext he (State.expireIdle_keeps s).levelsKept
  case proposalExpiry => exact .ofNext he (State.expireProposal_keeps s).levelsKept
  case portFrameTimeout port => exact .ofNext he (State.timeoutFrame_keeps port s).levelsKept
  case portOpeningFlag port => exact .ofNext he (State.openFrame_keeps port s).levelsKept
  case portFrameOverlength port => exact .ofNext he (State.discardLong_keeps port s).levelsKept
  all_goals exact .ofNext he (s.issue_levelsKept _ _ _ (by intros; exact Command.noConfusion))

/-- Settles O60: the levels are read off the zones that such an event leaves. -/
theorem onlyRisksAndFloorsMoveLevels : Obligations.OnlyRisksAndFloorsMoveLevels :=
  fun i _ _ power close floor frame sent he => (exec_levelsKept i power close floor frame sent he).levels

end Sys2Proof.Machine

/-! # A zone under a floor, and the levels above their floors (R120, R121) -/

namespace Sys2Proof.Machine

/-! ## A zone that changes with a notice -/

/-- Zone `n` stands as `z` after an operation that raises one LEVEL notice; of the other zones and of the lines, those
of the zone apart, nothing has changed, and of the parts of the state only those listed and the ports. -/
structure ZoneNoticed (ps : List Part) (n : Nat) (z : Zone) (cls : NoticeClass) (note : LevelNotice) (s t : State) :
    Prop where
  becomes : ZoneBecomes n z s t
  lines : LinesBut [2 * n - 1, 2 * n] s t
  keeps : KeepsBut (.pif :: ps) s t
  pif : t.pif = (s.raise cls (.level note)).pif

section
variable {ps : List Part} {s t u : State} {n : Nat} {z : Zone} {cls : NoticeClass} {note : LevelNotice}

theorem State.line_congr (h : t.oda = s.oda) (n : Nat) : t.line n = s.line n := by
  rw [State.line, h, State.line]

/-- A notice about a zone, with the zone as it stands. -/
theorem ZoneNoticed.raise (hz : s.zone n = some z) (cls : NoticeClass) (note : LevelNotice) :
    ZoneNoticed [] n z cls note s (s.raise cls (.level note)) where
  becomes := .ofZwc rfl hz
  lines := fun _ _ => State.line_congr rfl _
  keeps := State.raise_keeps ..
  pif := rfl

theorem State.raiseZone_eq (hz : s.zone n = some z) (cls : NoticeClass) (event : LevelEvent) :
    s.raiseZone cls event n = s.raise cls (.level (z.notice s.seconds event z.level z.level)) := by
  rw [State.raiseZone, hz]

theorem State.raiseZone_noticed (hz : s.zone n = some z) (cls : NoticeClass) (event : LevelEvent) {l : Level}
    (level : z.level = l) : ZoneNoticed [] n z cls (z.notice s.seconds event l l) s (s.raiseZone cls event n) := by
  rw [State.raiseZone_eq hz, level]
  exact .raise hz ..

/-- A change of the zone, and entries about it, before the notice. -/
theorem ZoneNoticed.after {y : Zone} (h : ZoneNoticed ps n z cls note t u) (before : ZoneBecomes n y s t)
    (keeps : KeepsBut [.zwc, .wrl] s t) (zwc : Part.zwc ∈ ps) (wrl : Part.wrl ∈ ps) :
    ZoneNoticed ps n z cls note s u where
  becomes := before.trans h.becomes
  lines := fun m hm => (h.lines m hm).trans (State.line_congr (keeps.oda (by decide)) m)
  keeps := (keeps.mono (by simp [zwc, wrl])).trans h.keeps
  pif := h.pif.trans (State.raise_pif_congr _ _ (keeps.pif (by decide)) (keeps.now (by decide)))

theorem ZoneNoticed.mono {qs : List Part} (h : ZoneNoticed ps n z cls note s t) (k : ∀ p ∈ ps, p ∈ qs) :
    ZoneNoticed qs n z cls note s t :=
  ⟨h.becomes, h.lines, h.keeps.mono (List.cons_subset_cons _ k), h.pif⟩

theorem Line.setDemand_line (o : Oda) (now : Time) (d : Demand) (l : Line) : (l.setDemand o now d).line = l.line := by
  unfold Line.setDemand Line.follow
  split
  · rfl
  · split
    · split <;> rfl
    · split <;> rfl
    · rfl
    · rfl

theorem State.demandLine_lines (s : State) (k : Nat) (d : Demand) : LinesBut [k] s (s.demandLine k d) := fun m hm => by
  rw [State.demandLine, State.line_updLine s k m _ (Line.setDemand_line s.oda s.now d),
    if_neg (List.ne_of_not_mem_cons hm)]

theorem State.deriveDemand_lines (s : State) (n : Nat) : LinesBut [2 * n - 1, 2 * n] s (s.deriveDemand n) := by
  intro m hm
  have sign : m ∉ [2 * n - 1] := fun h => hm (List.mem_cons.mpr (.inl (List.mem_singleton.mp h)))
  have siren : m ∉ [2 * n] := fun h => hm (List.mem_cons_of_mem _ h)
  unfold State.deriveDemand
  split
  · rfl
  · exact (State.demandLine_lines _ _ _ m siren).trans (State.demandLine_lines _ _ _ m sign)

/-- The output demand derived anew after the notice (R129). -/
theorem ZoneNoticed.derive (h : ZoneNoticed ps n z cls note s t) (zwc : Part.zwc ∈ ps) (oda : Part.oda ∈ ps) :
    ZoneNoticed ps n z.shown cls note s (t.deriveDemand n) where
  becomes := h.becomes.trans (State.deriveDemand_becomes h.becomes.zone)
  lines := fun m hm => (t.deriveDemand_lines n m hm).trans (h.lines m hm)
  keeps := (State.deriveDemand_keeps n t).andThen (by simp [zwc, oda]) h.keeps
  pif := ((State.deriveDemand_keeps n t).pif (by decide)).trans h.pif

/-- A change of level raises its notice with the zone as it then stands (R118). -/
theorem State.changeLevel_noticed (hz : s.zone n = some z) (new : Level) (cause : LevelCause) :
    ZoneNoticed [.zwc, .wrl] n (z.changed new cause s.wrl.nextSeq) (levelClass z.level new)
      ((z.changed new cause s.wrl.nextSeq).notice s.seconds .level z.level new) s (s.changeLevel n new cause) := by
  have becomes := State.changeLevel_becomes hz new cause
  have keeps := State.changeLevel_keeps n new cause s
  refine ⟨becomes, fun m _ => State.line_congr (keeps.oda (by decide)) m, keeps.mono (by decide), ?_⟩
  obtain ⟨t, ht⟩ : ∃ t, t = ((s.record (z.levelEntry new cause)).updZone n
    (Zone.atLevel new cause s.wrl.nextSeq)).abortTest n new := ⟨_, rfl⟩
  have kept : KeepsBut [.zwc, .wrl] s t := ht ▸ (State.abortTest_keeps ..).andThen (by decide)
    ((State.updZone_keeps ..).andThen (by decide) ((State.record_keeps ..).mono (by decide)))
  unfold State.changeLevel at becomes ⊢
  rw [hz] at becomes ⊢
  dsimp only at becomes ⊢
  rw [← ht] at becomes ⊢
  cases hy : t.zone n with
  | none =>
    rw [hy] at becomes
    exact absurd (hy.symm.trans becomes.zone) nofun
  | some y =>
    rw [hy] at becomes
    have changed : some y = some (z.changed new cause s.wrl.nextSeq) := hy.symm.trans becomes.zone
    have clock : t.seconds = s.seconds := congrArg (· / 1000000) (kept.now (by decide))
    cases changed
    dsimp only
    rw [clock]
    exact State.raise_pif_congr _ _ (kept.pif (by decide)) (kept.now (by decide))

/-- What the actions on a zone leave of it: the change, shown on its lines (R124 to R129). -/
theorem State.actOn_noticed (hz : s.zone n = some z) (f : Zone → Zone) (action : Action) (event : LevelEvent)
    (hf : ∀ z : Zone, (f z).cfg = z.cfg := by exact fun _ => rfl) :
    ZoneNoticed [.zwc, .oda, .wrl] n (f z).shown .routine ((f z).shown.notice s.seconds event (f z).level (f z).level)
      s (s.actOn n f action event) := by
  have changed := State.updZone_becomes hz f hf
  have recorded : ZoneBecomes n (f z) s ((s.updZone n f).record (.action action .q)) :=
    changed.trans (.ofZwc rfl changed.zone)
  have keeps : KeepsBut [.zwc, .wrl] s ((s.updZone n f).record (.action action .q)) :=
    (State.record_keeps ..).andThen (by decide) ((State.updZone_keeps ..).mono (by decide))
  have noticed := (State.raiseZone_noticed recorded.zone .routine event rfl).mono (qs := [.zwc, .oda, .wrl]) (by simp)
  exact (noticed.after recorded keeps (by decide) (by decide)).derive (by decide) (by decide)

theorem State.actOn_wrl (s : State) (n : Nat) (f : Zone → Zone) (action : Action) (event : LevelEvent) :
    (s.actOn n f action event).wrl = s.logged (.action action .q) := by
  rw [State.actOn, (State.deriveDemand_keeps ..).wrl (by decide), (State.raiseZone_keeps ..).wrl (by decide)]
  rfl

end

/-! ## A floor, seen from its zone (R121, R118) -/

/-- A zone after a floor of a role has been set; `seq` is the number of its LEVEL entry where it rises (R121,
R118). -/
def Zone.floorPut (role : Port) (f : Floor) (seq : Seq) (z : Zone) : Zone :=
  if z.level.rank < f.level.rank then
    (z.setFloor role (some f)).zeroCounters.changed f.level (floorCause role) seq
  else
    { z.setFloor role (some f) with
      dwell := if f.level.rank < (floorLevel (z.floorOf role)).rank then 0 else z.dwell }

/-- The floor that FLOOR sets at a moment (R121). -/
def State.newFloor (s : State) (l : Level) (minutes : Nat) : Floor :=
  { level := l, expiry := s.seconds + minutes * 60 }

/-- The class of the notice of a new floor: that of the rise, or ROUTINE (R121, R131). -/
def Zone.floorClass (l : Level) (z : Zone) : NoticeClass :=
  if z.level.rank < l.rank then levelClass z.level l else .routine

/-- The event of the notice of a new floor: the rise, or the floor (R121, R131). -/
def Zone.floorEvent (l : Level) (z : Zone) : LevelEvent := if z.level.rank < l.rank then .level else .floor

section
variable {s : State} {n : Nat} {z : Zone}

theorem Zone.floorPut_rise {role : Port} {f : Floor} {seq : Seq} (rise : z.level.rank < f.level.rank) :
    z.floorPut role f seq = (z.setFloor role (some f)).zeroCounters.changed f.level (floorCause role) seq := if_pos rise

theorem Zone.floorPut_kept {role : Port} {f : Floor} {seq : Seq} (kept : ¬ z.level.rank < f.level.rank) :
    z.floorPut role f seq =
      { z.setFloor role (some f) with
        dwell := if f.level.rank < (floorLevel (z.floorOf role)).rank then 0 else z.dwell } := if_neg kept

@[simp] theorem Zone.setFloor_cfg (role : Port) (f : Option Floor) (z : Zone) : (z.setFloor role f).cfg = z.cfg := by
  cases role <;> rfl

@[simp] theorem Zone.setFloor_level (role : Port) (f : Option Floor) (z : Zone) :
    (z.setFloor role f).level = z.level := by
  cases role <;> rfl

theorem Zone.setFloor_dwell (role : Port) (f : Option Floor) (z : Zone) :
    (z.setFloor role f).dwell = z.dwell := by
  cases role <;> rfl

theorem State.record_nextSeq (s : State) (b : EntryBody) : (s.record b).wrl.nextSeq = s.wrl.nextSeq + 1 :=
  (Wrl.append_spec _ s.wrl).2.1

/-- A new floor in its place, and its entry (R121). -/
def State.floorRecorded (n : Nat) (role : Port) (l : Level) (minutes : Nat) (s : State) : State :=
  (s.updZone n (Zone.setFloor role (some (s.newFloor l minutes)))).record (.action (.floorSet n l minutes) role)

theorem State.floorRecorded_becomes (hz : s.zone n = some z) (role : Port) (l : Level) (minutes : Nat) :
    ZoneBecomes n (z.setFloor role (some (s.newFloor l minutes))) s (s.floorRecorded n role l minutes) := by
  have put := State.updZone_becomes hz (Zone.setFloor role (some (s.newFloor l minutes)))
    fun z => z.setFloor_cfg role _
  exact put.trans (.ofZwc rfl put.zone)

theorem State.floorRecorded_keeps (s : State) (n : Nat) (role : Port) (l : Level) (minutes : Nat) :
    KeepsBut [.zwc, .wrl] s (s.floorRecorded n role l minutes) :=
  (State.record_keeps ..).andThen (by decide) ((State.updZone_keeps ..).mono (by decide))

/-- The zone rises to its new floor, or a notice tells of the floor (R121, R118). -/
theorem State.floorSettled_noticed (hz : s.zone n = some z) (role : Port) (l : Level) (minutes : Nat) :
    ZoneNoticed [.zwc, .wrl] n (z.floorPut role (s.newFloor l minutes) (s.wrl.nextSeq + 1)) (z.floorClass l)
      ((z.floorPut role (s.newFloor l minutes) (s.wrl.nextSeq + 1)).notice s.seconds (z.floorEvent l) z.level
        (z.level.higher l))
      (s.floorRecorded n role l minutes)
      (if z.level.rank < l.rank then
         ((s.floorRecorded n role l minutes).updZone n Zone.zeroCounters).changeLevel n l (floorCause role)
       else if l.rank < (floorLevel (z.floorOf role)).rank then
         ((s.floorRecorded n role l minutes).updZone n (fun z => { z with dwell := 0 })).raiseZone .routine .floor n
       else (s.floorRecorded n role l minutes).raiseZone .routine .floor n) := by
  have put := State.floorRecorded_becomes hz role l minutes
  have number : (s.floorRecorded n role l minutes).wrl.nextSeq = s.wrl.nextSeq + 1 := State.record_nextSeq ..
  have level := z.setFloor_level role (some (s.newFloor l minutes))
  rw [Zone.floorClass, Zone.floorEvent, Level.higher]
  by_cases rise : z.level.rank < l.rank
  · have zeroed := State.updZone_becomes put.zone Zone.zeroCounters
    have changed := (State.changeLevel_noticed zeroed.zone l (floorCause role)).after zeroed
      ((State.updZone_keeps ..).mono (by decide)) (by decide) (by decide)
    rw [show Zone.level (Zone.zeroCounters _) = z.level from level] at changed
    rw [if_pos rise, if_pos rise, if_pos rise, if_pos rise, Zone.floorPut_rise rise, ← number]
    exact changed
  · rw [if_neg rise, if_neg rise, if_neg rise, if_neg rise, Zone.floorPut_kept rise]
    by_cases lower : l.rank < (floorLevel (z.floorOf role)).rank
    · have returned := State.updZone_becomes put.zone (fun z => { z with dwell := 0 })
      rw [if_pos lower, if_pos (show (s.newFloor l minutes).level.rank < _ from lower)]
      exact ((State.raiseZone_noticed returned.zone .routine .floor level).mono (by simp)).after
        returned ((State.updZone_keeps ..).mono (by decide)) (by decide) (by decide)
    · rw [if_neg lower, if_neg (show ¬ (s.newFloor l minutes).level.rank < _ from lower), ← z.setFloor_dwell role]
      exact (State.raiseZone_noticed put.zone .routine .floor level).mono (by simp)

/-- What a new floor leaves of its zone (R121, R129). -/
theorem State.setFloor_noticed (hz : s.zone n = some z) (role : Port) (l : Level) (minutes : Nat) :
    ZoneNoticed [.zwc, .oda, .wrl] n (z.floorPut role (s.newFloor l minutes) (s.wrl.nextSeq + 1)).shown
      (z.floorClass l) ((z.floorPut role (s.newFloor l minutes) (s.wrl.nextSeq + 1)).shown.notice s.seconds
        (z.floorEvent l) z.level (z.level.higher l)) s (s.setFloor n role l minutes) := by
  have settled := ((State.floorSettled_noticed hz role l minutes).mono (qs := [.zwc, .oda, .wrl]) (by decide)).after
    (State.floorRecorded_becomes hz role l minutes) (s.floorRecorded_keeps n role l minutes) (by decide) (by decide)
  unfold State.setFloor
  rw [hz]
  exact settled.derive (by decide) (by decide)

end

/-! ## A zone above its floors (R120) -/

section
variable (z : Zone)

@[simp] theorem Zone.changed_highestFloor (new : Level) (cause : LevelCause) (seq : Seq) :
    (z.changed new cause seq).highestFloor = z.highestFloor := by
  unfold Zone.changed Zone.aborted
  split <;> rfl

theorem Zone.changed_floorOk {new : Level} (h : z.highestFloor.rank ≤ new.rank) (cause : LevelCause) (seq : Seq) :
    (z.changed new cause seq).FloorOk := by
  rwa [Zone.FloorOk, Zone.changed_highestFloor, Zone.changed_level]

variable {z}

/-- A rise stands above the floors with the level before it, and a fall asks for them (R120). -/
theorem Zone.FloorOk.decided (h : z.FloorOk) (r : Nat) (seq : Seq) : (z.decided r seq).FloorOk := by
  unfold Zone.decided
  split
  · rename_i l rise
    exact Zone.changed_floorOk z.zeroCounters (h.trans (z.riseTo_above rise).le) ..
  · split
    · split
      · rename_i free
        exact Zone.changed_floorOk { z with dwell := 0 } free ..
      · exact h
    · exact h

theorem Zone.FloorOk.delivered (h : z.FloorOk) (d : Delivery) (seq : Seq) : (z.delivered d seq).FloorOk :=
  Zone.FloorOk.decided (z := (z.takeComponents d).countRise d.risk) h d.risk seq

theorem Zone.setFloor_highestFloor (role : Port) (f : Floor) (z : Zone) :
    (z.setFloor role (some f)).highestFloor.rank ≤ max z.highestFloor.rank f.level.rank := by
  simp only [Zone.highestFloor_rank]
  cases role <;> simp only [Zone.setFloor, floorLevel] <;> omega

/-- A new floor lifts the zone to it, or stands at or below its level (R121). -/
theorem Zone.FloorOk.floorPut (h : z.FloorOk) (role : Port) (f : Floor) (seq : Seq) :
    (z.floorPut role f seq).FloorOk := by
  have floors := z.setFloor_highestFloor role f
  unfold Zone.FloorOk at h
  unfold Zone.floorPut
  split
  · rename_i rise
    exact Zone.changed_floorOk (z.setFloor role (some f)).zeroCounters (floors.trans (by omega)) ..
  · have kept : (z.setFloor role (some f)).FloorOk := by
      rw [Zone.FloorOk, Zone.setFloor_level]
      omega
    exact kept

end

/-! ## Every zone above its floors -/

section
variable {s t : State} {n : Nat} {z : Zone}

theorem State.FloorsOk.sorted_of_table (h : s.FloorsOk) (table : t.zwc.table = s.zwc.table) :
    t.zwc.zones.Pairwise (fun x y => x.cfg.zone < y.cfg.zone) := by
  have before : s.zwc.table.Pairwise (fun c d => c.zone < d.zone) := List.pairwise_map.mpr h.1
  rw [← table] at before
  exact (List.pairwise_map (f := fun z : Zone => z.cfg)).mp before

/-- Zones found under their numbers, all above their floors. -/
theorem State.FloorsOk.ofZones (sorted : t.zwc.zones.Pairwise (fun x y => x.cfg.zone < y.cfg.zone))
    (h : ∀ n z, t.zone n = some z → z.FloorOk) : t.FloorsOk :=
  ⟨sorted, fun z hz => h z.cfg.zone z (findKey_of_mem (key := fun z : Zone => z.cfg.zone) sorted hz)⟩

theorem State.FloorsOk.zone (h : s.FloorsOk) (hz : s.zone n = some z) : z.FloorOk := h.2 z (findKey_mem hz).1

/-- A change of one zone that leaves it above its floors. -/
theorem State.FloorsOk.ofBecomes (h : s.FloorsOk) (table : t.zwc.table = s.zwc.table) (become : ZoneBecomes n z s t)
    (hz : z.FloorOk) : t.FloorsOk := by
  refine .ofZones (h.sorted_of_table table) fun m y hy => ?_
  by_cases hm : m = n
  · rw [hm, become.zone] at hy
    cases hy
    exact hz
  · rw [become.others m hm] at hy
    exact h.zone hy

/-- An event that neither moves a level nor sets a floor. -/
theorem State.FloorsOk.ofKept (h : s.FloorsOk) (k : LevelsKept s t) : t.FloorsOk := by
  refine ⟨?_, ?_⟩
  · have before : (s.zwc.zones.map (fun z => (z.cfg.zone, z.level))).Pairwise (fun x y => x.1 < y.1) :=
      List.pairwise_map.mpr h.1
    rw [← k.levels] at before
    exact (List.pairwise_map (f := fun z : Zone => (z.cfg.zone, z.level))).mp before
  · have above := h.2
    unfold LevelsKept at k
    generalize s.zwc.zones = xs at k above
    generalize t.zwc.zones = ys at k
    induction k with
    | nil => exact fun _ hy => absurd hy List.not_mem_nil
    | cons hxy _ ih =>
      obtain ⟨first, rest⟩ := List.forall_mem_cons.mp above
      refine List.forall_mem_cons.mpr ⟨?_, ih rest⟩
      rw [Zone.FloorOk, hxy.level]
      exact hxy.floors.trans first

/-! ## The round close (R107, R163) -/

theorem State.FloorsOk.deliverRisk (h : s.FloorsOk) (d : Delivery) : (s.deliverRisk d).FloorsOk := by
  cases hz : s.zone d.zone with
  | none =>
    refine .ofZones (h.sorted_of_table (s.deliverRisk_table d)) fun n z hn => ?_
    rw [State.deliverRisk_absent hz] at hn
    exact h.zone hn
  | some z =>
    exact h.ofBecomes (s.deliverRisk_table d) (State.deliverRisk_becomes hz) ((h.zone hz).delivered ..)

theorem State.FloorsOk.assess (h : s.FloorsOk) : s.assess.FloorsOk := by
  have results : s.beforeZones.assessZones.FloorsOk :=
    h.ofKept (s.beforeZones_keeps.levelsKept.trans (State.assessZones_keeps _).levelsKept)
  exact foldl_holds (fun t r (ht : t.FloorsOk) => ht.deliverRisk _) _ results

theorem State.FloorsOk.dropZone (h : s.FloorsOk) (n : Nat) : (s.dropZone n).FloorsOk := by
  have dropped : ∀ t : State, t.zwc.zones = removeKey (fun z => z.cfg.zone) n s.zwc.zones → t.FloorsOk := fun t ht =>
    ⟨ht ▸ h.1.sublist removeKey_sublist, fun z hz => h.2 z (removeKey_sublist.subset (ht ▸ hz))⟩
  unfold State.dropZone
  split
  · exact h
  · dsimp only
    split <;> exact dropped _ rfl

/-- A zone that is created stands at CLEAR without floors; a zone configured again keeps both (R132). -/
theorem State.FloorsOk.applyZone (h : s.FloorsOk) (c : ZoneCfg) : (s.applyZone c).FloorsOk := by
  unfold State.applyZone
  split
  · refine h.ofKept (s.updZone_levelsKept c.zone _ fun z hz => ?_)
    unfold Zone.reconfigured
    split <;> exact ⟨hz.symm, rfl, le_rfl⟩
  · have created : ({ s with zwc := { s.zwc with
        zones := insertKey (fun z => z.cfg.zone) (Zone.created c) s.zwc.zones } } : State).FloorsOk := by
      refine .ofZones (sorted_insertKey h.1) fun n z hn => ?_
      rw [State.zone, findKey_insertKey] at hn
      split at hn
      · cases hn
        exact Nat.zero_le _
      · exact h.zone hn
    exact (created.ofKept (State.judgeDark_levelsKept ..)).ofKept (State.deriveDemand_levelsKept ..)

theorem State.FloorsOk.applyOut (h : s.FloorsOk) (x : Item) : (s.applyOut x).FloorsOk := by
  cases x with
  | remove k =>
    cases k with
    | station n =>
      exact h.ofKept ((State.dropStation_keeps n s).levelsKept.trans (State.changeOccupant_keeps ..).levelsKept)
    | pile n => exact h.ofKept ((State.dropPile_keeps n s).levelsKept.trans (State.dropWind_keeps ..).levelsKept)
    | zone n => exact (h.dropZone n).ofKept (State.dropZoneResult_keeps ..).levelsKept
    | path p z => exact h.ofKept (State.dropPath_keeps ..).levelsKept
    | site => exact h
  | _ => exact h

theorem State.FloorsOk.applyPut (h : s.FloorsOk) (x : Item) : (s.applyPut x).FloorsOk := by
  cases x with
  | remove k => exact h
  | station c =>
    exact h.ofKept ((State.applyStation_keeps c s).levelsKept.trans (State.changeOccupant_keeps ..).levelsKept)
  | pile c => exact h.ofKept ((State.applyPile_keeps c s).levelsKept.trans (State.applyWind_keeps ..).levelsKept)
  | zone c => exact (h.applyZone c).ofKept (State.applyZoneResult_keeps ..).levelsKept
  | path c => exact h.ofKept (State.applyPath_keeps ..).levelsKept
  | site p => exact h

theorem State.FloorsOk.applySet (h : s.FloorsOk) : s.applySet.FloorsOk := by
  have items : (s.applyItems s.cau.items).FloorsOk :=
    foldl_holds (fun t x (ht : t.FloorsOk) => ht.applyPut x) _
      (foldl_holds (fun t x (ht : t.FloorsOk) => ht.applyOut x) _ h)
  unfold State.applySet
  split
  · split
    · exact h.ofKept (State.freeSet_keeps ..).levelsKept
    · exact (items.ofKept (State.record_keeps ..).levelsKept).ofKept (State.freeSet_keeps ..).levelsKept
  · exact h
  · exact h
  · exact h

theorem State.FloorsOk.closeRound (h : s.FloorsOk) : s.closeRound.FloorsOk := by
  unfold State.closeRound
  split
  · exact h
  · rename_i p _
    split
    · have begun : (s.atClose p).FloorsOk := h
      refine State.FloorsOk.assess (begun.applySet.ofKept ?_)
      exact ((State.closeLoop_keeps _).levelsKept.trans (State.closeWind_keeps _).levelsKept).trans
        (State.closeSite_keeps _).levelsKept
    · exact h

/-! ## FLOOR (R121) -/

theorem State.FloorsOk.setFloor (h : s.FloorsOk) (n : Nat) (role : Port) (l : Level) (minutes : Nat) :
    (s.setFloor n role l minutes).FloorsOk := by
  cases hz : s.zone n with
  | none => rwa [State.setFloor, hz]
  | some z =>
    exact h.ofBecomes (s.setFloor_table ..) (State.setFloor_noticed hz ..).becomes
      ((h.zone hz).floorPut role (s.newFloor l minutes) _)

theorem State.FloorsOk.floorCommand (h : s.FloorsOk) (zone level : Byte) (minutes : BitVec 16) (a : Asked) :
    (floorCommand zone level minutes a s).FloorsOk := by
  unfold Machine.floorCommand
  split
  · split
    · exact h.ofKept (s.replyRange_levelsKept a ..)
    · split
      · exact h.ofKept (s.reply_levelsKept a ..)
      · split
        · exact h.ofKept (s.reply_levelsKept a ..)
        · split
          · exact (h.ofKept (s.endFloor_levelsKept ..)).ofKept (State.reply_levelsKept ..)
          · exact (h.setFloor ..).ofKept (State.reply_levelsKept ..)
  · exact h.ofKept (s.replyRange_levelsKept a ..)

theorem State.FloorsOk.judgeCommand (h : s.FloorsOk) (c : Option Command) (a : Asked) :
    (judgeCommand c a s).FloorsOk := by
  rcases judgeCommand_cases a s c with ⟨r, e⟩ | ⟨x, _, e⟩
  · rw [e]; exact h.ofKept (s.reply_levelsKept a ..)
  · rw [e]
    by_cases floor : ∃ zone level minutes, x = .floor zone level minutes
    · obtain ⟨zone, level, minutes, rfl⟩ := floor
      exact h.floorCommand zone level minutes a
    · exact h.ofKept (runCommand_levelsKept a s x fun zone level minutes e => floor ⟨zone, level, minutes, e⟩)

/-! ## The frames of the ports (R172, R173) -/

theorem State.FloorsOk.takeContent (h : s.FloorsOk) (port : Port) (content : List Byte) (releases : Bool) :
    (s.takeContent port content releases).FloorsOk := by
  unfold State.takeContent
  split
  · exact h.ofKept (State.reply_levelsKept ..)
  · exact h.judgeCommand ..

theorem State.FloorsOk.updPort (h : s.FloorsOk) (port : Port) (f : PortState → PortState) :
    (s.updPort port f).FloorsOk := h.ofKept (State.updPort_keeps ..).levelsKept

theorem State.FloorsOk.receiveFrame (h : s.FloorsOk) (port : Port) (bytes : List Byte) (e : Bool) :
    (s.receiveFrame port bytes e).FloorsOk := by
  unfold State.receiveFrame State.judgeFrame
  split
  · exact h.ofKept (State.openFrame_keeps ..).levelsKept
  · dsimp only
    split
    · exact h.updPort ..
    · have heard := State.FloorsOk.ofKept (h.updPort port (fun p => { p with receiver := .hunting }))
        (State.restartWatch_keeps port _).levelsKept
      unfold State.holdContent
      split
      · exact (heard.updPort ..).takeContent ..
      · exact heard.updPort ..
      · exact heard.updPort ..

theorem State.FloorsOk.completeFrame (h : s.FloorsOk) (port : Port) : (s.completeFrame port).FloorsOk := by
  unfold State.completeFrame
  split
  · exact h
  · rename_i x _
    have sent : ∀ f, ((s.reach x.ends).updPort port f).FloorsOk := fun f =>
      (h.ofKept (State.reach_keeps ..).levelsKept).updPort port f
    dsimp only
    split
    · unfold State.releaseHolding
      dsimp only
      split
      · exact (sent _).updPort ..
      · exact ((sent _).updPort ..).takeContent ..
    · exact sent _

/-! ## The step -/

/-- No zone is configured after POWER (R136). -/
theorem State.reset_floorsOk : State.reset.FloorsOk :=
  ⟨List.Pairwise.nil, fun _ hz => absurd hz List.not_mem_nil⟩

theorem State.FloorsOk.ofNext {u : State} (he : (.next u : Host.Outcome State Fault Refusal) = .next t)
    (hu : u.FloorsOk) : t.FloorsOk := by
  cases he
  exact hu

/-- POWER, a round close, a FLOOR and a frame leave every zone above its floors; every other event leaves the levels
and sets no floor. -/
theorem exec_floorsOk (i : Instr) (h : s.FloorsOk) (he : exec i s = .next t) : t.FloorsOk := by
  cases i
  case power => exact .ofNext he State.reset_floorsOk
  case roundClose => exact .ofNext he h.closeRound
  case floor port tag zone level minutes =>
    refine .ofNext he ?_
    rw [State.issue_eq]
    exact State.FloorsOk.judgeCommand (h.ofKept (State.held_keeps ..).levelsKept) ..
  case portFrame port bytes e => exact .ofNext he (h.receiveFrame port bytes e)
  case transmitComplete port => exact .ofNext he (h.completeFrame port)
  all_goals exact h.ofKept (exec_levelsKept _ (by nofun) (by nofun) (by nofun) (by nofun) (by nofun) he)

end

/-- What every command keeps, whatever waits behind it, every step keeps: a step is the execution of one command, from
the queue or from the clock. -/
theorem step_keeps {P : State → Prop} (waiting : ∀ s rest, P s → P { s with pending := rest })
    (command : ∀ i s t, P s → exec i s = .next t → P t) {s t : State} (h : P s) (hstep : step s = .next t) : P t := by
  unfold step at hstep
  split at hstep
  · unfold idle at hstep
    split at hstep
    · cases hstep
      exact h
    · exact command _ s t h hstep
  · exact command _ _ t (waiting s _ h) hstep

/-- Settles O53: every command keeps the levels above their floors. -/
theorem stepKeepsLevelsAboveFloors : Obligations.StepKeepsLevelsAboveFloors :=
  fun _ _ h hstep => step_keeps (fun _ _ h => h) (fun i _ _ h he => exec_floorsOk i h he) h hstep

end Sys2Proof.Machine

/-! # The commands on a zone and the ends of silences and tests (R119, R124 to R129) -/

namespace Sys2Proof.Machine

/-! ## The row of a command on a zone, and a timed event of a zone -/

theorem State.held_zone (s : State) (port : Port) (content : List Byte) (n : Nat) :
    (s.held port content).zone n = s.zone n := State.zone_congr (State.held_zwc ..) n

theorem State.held_seconds (s : State) (port : Port) (content : List Byte) :
    (s.held port content).seconds = s.seconds := congrArg (· / 1000000) (State.held_now ..)

theorem State.held_logged (s : State) (port : Port) (content : List Byte) (b : EntryBody) :
    (s.held port content).logged b = s.logged b := by
  rw [State.held_eq]
  rfl

section
variable {ps : List Part} {s t : State} {n : Nat} {z : Zone} {cls : NoticeClass} {note : LevelNotice}

/-- A row that changes a zone with a notice, and then answers (R173, R174, R177). -/
theorem ZoneNoticed.row {u : State} {port : Port} {tag : Byte} {c : Command}
    (h : ZoneNoticed ps n z cls note (s.held port (c.content tag)) u) (r : Result) (units : List (List Byte))
    (ht : t = u.reply (rowAsked s port tag c) r units) (now : Part.now ∉ Part.pif :: ps := by decide) :
    RowResult ps s port tag c r units t ∧ ZoneOnly n s t ∧ t.zone n = some z ∧ t.wrl = u.wrl
      ∧ t.pif = s.portsNoticed port tag c cls (.level note) r units := by
  have quiet : PortsQuiet (s.held port (c.content tag)) u := .put h.pif (State.raise_quiet ..)
  subst ht
  refine ⟨.ofReply h.keeps quiet, ⟨fun m hm => ?_, fun m hm => ?_⟩, ?_, rfl, ?_⟩
  · rw [State.zone_congr (State.reply_zwc ..), h.becomes.others m hm, State.held_zone]
  · rw [State.line_congr (State.reply_oda ..), h.lines m hm, State.line_congr (State.held_oda ..)]
  · rw [State.zone_congr (State.reply_zwc ..), h.becomes.zone]
  · exact State.reply_pif_congr _ _ _ h.pif (h.keeps.now now)

/-- An event of a zone whose time has come. -/
theorem ZoneNoticed.timed {e : Seconds} (h : ZoneNoticed ps n z cls note (s.reach (tickTime e)) t)
    (now : Part.now ∉ Part.pif :: ps := by decide) :
    KeepsBut (.now :: .pif :: ps) s t ∧ PortsQuiet s t ∧ t.now = max s.now (e * 1000000) ∧ ZoneOnly n s t
      ∧ t.zone n = some z ∧ ({ s with now := t.now } : State) = s.reach (tickTime e)
      ∧ t.seconds = (s.reach (tickTime e)).seconds := by
  have clock : t.now = max s.now (e * 1000000) := h.keeps.now now
  refine ⟨?_, ?_, clock, ⟨h.becomes.others, h.lines⟩, h.becomes.zone, by rw [clock]; rfl,
    congrArg (· / 1000000) (h.keeps.now now)⟩
  · exact ((State.reach_keeps ..).mono (by simp)).trans (h.keeps.mono fun p hp => List.mem_cons_of_mem _ hp)
  · exact PortsQuiet.put h.pif ((State.raise_quiet (s.reach (tickTime e)) ..).andThen (.ofPif rfl))

end

/-! ## The commands on a configured zone (R124 to R127) -/

theorem zoneInRange_iff (zone : Byte) : zoneInRange zone = true ↔ 1 ≤ zone.toNat ∧ zone.toNat ≤ 16 := decide_eq_true_iff

theorem zoneInRange_false {zone : Byte} (h : zone.toNat = 0 ∨ 16 < zone.toNat) : zoneInRange zone = false := by
  rw [← Bool.not_eq_true, zoneInRange_iff]
  omega

section
variable {s : State} {zone : Byte} {a : Asked} {z : Zone} (hr : zoneInRange zone = true)
  (hz : s.zone zone.toNat = some z)
include hr hz

theorem ackAlertCommand_alerting (level : z.level = .alert) (alert : z.alert = .unacked) :
    ackAlertCommand zone a s =
      (s.actOn zone.toNat (fun z => { z with alert := .acked }) (.ack zone.toNat) .alert).reply a .done [] := by
  simp [ackAlertCommand, State.actOn, hr, hz, level, alert]

theorem ackAlertCommand_other (h : ¬ (z.level = .alert ∧ z.alert = .unacked)) :
    ackAlertCommand zone a s = s.reply a .refusedState [] := by
  simp only [ackAlertCommand, hr, hz, if_true, if_neg h]

theorem silenceCommand_configured (minutes : BitVec 16) :
    silenceCommand zone minutes a s =
      (s.actOn zone.toNat
        (fun z => { z with
          silence := if silenceMinutes minutes.toNat = 0 then none
            else some (s.seconds + silenceMinutes minutes.toNat * 60) })
        (.silence zone.toNat (silenceMinutes minutes.toNat) false) .silence).reply a .done
        [bytes1 (silenceMinutes minutes.toNat)] := by
  simp [silenceCommand, State.putSilence, State.actOn, hr, hz]

theorem serviceCommand_change {state : Byte} {v : Service} (hv : serviceOfCode state.toNat = some v)
    (h : z.service ≠ v) : serviceCommand zone state a s = (s.putService zone.toNat v).reply a .done [] := by
  simp [serviceCommand, hr, hz, hv, h]

theorem serviceCommand_same {state : Byte} {v : Service} (hv : serviceOfCode state.toNat = some v)
    (h : z.service = v) : serviceCommand zone state a s = s.reply a .done [] := by
  simp [serviceCommand, hr, hz, hv, h]

theorem testCommand_starts (h : z.level.rank ≤ Level.watch.rank ∧ z.testEnd = none) :
    testCommand zone a s =
      (s.actOn zone.toNat (fun z => { z with testEnd := some (s.seconds + 10) }) (.testStart zone.toNat) .test).reply a
        .done [] := by
  simp only [testCommand, hr, hz, if_true, if_pos h, State.actOn]

theorem testCommand_refused (h : ¬ (z.level.rank ≤ Level.watch.rank ∧ z.testEnd = none)) :
    testCommand zone a s = s.reply a .refusedState [] := by
  simp only [testCommand, hr, hz, if_true, if_neg h]

end

/-- The entry of a service state (R126, R185). -/
def serviceAction (n : Nat) : Service → Action
  | .outOfService => .serviceOut n
  | .inService => .serviceIn n

theorem State.putService_eq (s : State) (n : Nat) (v : Service) :
    s.putService n v = s.actOn n (fun z => { z with service := v }) (serviceAction n v) .service := by
  cases v <;> rfl

theorem Zone.shown_shows (z : Zone) : z.Shows z.shown := ⟨rfl, rfl, rfl⟩

/-- The row of a command that acts on a zone (R124 to R127). -/
theorem exec_zoneAction {s : State} {port : Port} {tag : Byte} {c : Command} {n : Nat} {z : Zone} {f : Zone → Zone}
    {action : Action} {event : LevelEvent} {units : List (List Byte)} (ht : tag ≠ 0) (hf : c.formatGood = true)
    (ha : c.allowed port = true) (hz : s.zone n = some z)
    (run : ∀ a t, t.zone n = some z → t.seconds = s.seconds →
      runCommand c a t = (t.actOn n f action event).reply a .done units)
    (cfg : ∀ z : Zone, (f z).cfg = z.cfg := by exact fun _ => rfl) :
    ∃ t, exec (rowOf port tag c) s = .next t ∧ RowResult [.zwc, .oda, .wrl] s port tag c .done units t
      ∧ ZoneOnly n s t ∧ t.zone n = some (f z).shown ∧ t.wrl = s.logged (.action action .q)
      ∧ t.pif = s.portsNoticed port tag c .routine
          (.level ((f z).shown.notice s.seconds event (f z).level (f z).level)) .done units := by
  have held : (s.held port (c.content tag)).zone n = some z := (s.held_zone ..).trans hz
  have noticed := State.actOn_noticed held f action event cfg
  rw [State.held_seconds] at noticed
  obtain ⟨row, only, zone, wrl, pif⟩ := noticed.row .done units rfl
  refine ⟨_, exec_runs port tag c s ht hf ha, ?_⟩
  rw [run _ _ held (s.held_seconds ..)]
  exact ⟨row, only, zone, (wrl.trans (State.actOn_wrl ..)).trans (s.held_logged ..), pif⟩

/-- The end of a silence or of a test, at its time (R125, R128). -/
theorem exec_zoneEnd {s : State} {i : Instr} {n : Nat} {z : Zone} {e : Seconds} {f : Zone → Zone} {action : Action}
    {event : LevelEvent} (hz : s.zone n = some z)
    (he : exec i s = .next ((s.reach (tickTime e)).actOn n f action event))
    (cfg : ∀ z : Zone, (f z).cfg = z.cfg := by exact fun _ => rfl) :
    ∃ t, exec i s = .next t ∧ KeepsBut [.now, .zwc, .oda, .wrl, .pif] s t ∧ PortsQuiet s t
      ∧ t.now = max s.now (e * 1000000) ∧ ZoneOnly n s t ∧ t.zone n = some (f z).shown
      ∧ t.wrl = ({ s with now := t.now } : State).logged (.action action .q)
      ∧ t.pif = (({ s with now := t.now } : State).raise .routine
          (.level ((f z).shown.notice t.seconds event (f z).level (f z).level))).pif := by
  have noticed := State.actOn_noticed (s := s.reach (tickTime e)) hz f action event cfg
  obtain ⟨keeps, quiet, now, only, zone, reached, seconds⟩ := noticed.timed
  refine ⟨_, he, keeps.mono (by decide), quiet, now, only, zone, ?_, ?_⟩
  · rw [reached]
    exact State.actOn_wrl ..
  · rw [reached, seconds]
    exact noticed.pif

/-- The row of a command that its owner answers without any other effect. -/
theorem exec_answered {s : State} {port : Port} {tag : Byte} {c : Command} {r : Result} {units : List (List Byte)}
    (ht : tag ≠ 0) (hf : c.formatGood = true) (ha : c.allowed port = true)
    (run : ∀ a t, t.zwc = s.zwc → a.port = port → runCommand c a t = t.reply a r units) :
    ∃ t, exec (rowOf port tag c) s = .next t ∧ RowResult [] s port tag c r units t := by
  refine ⟨_, exec_runs port tag c s ht hf ha, ?_⟩
  rw [run _ _ (State.held_zwc ..) rfl]
  exact .plain ..

/-! ## The obligations -/

/-- Settles O27: the command of an unacknowledged alert acts on its zone, and any other one is answered alone. -/
theorem ackStopsTheSiren : Obligations.AckStopsTheSiren := by
  intro s tag zone z ht low high hz
  have hr := (zoneInRange_iff zone).mpr ⟨low, high⟩
  refine ⟨fun level alert => ?_, fun other => ?_⟩
  · obtain ⟨t, he, row, only, zone', wrl, pif⟩ := exec_zoneAction (port := .q) (c := .ackAlert zone) ht rfl rfl hz
      fun a t hz _ => ackAlertCommand_alerting hr hz level alert
    rw [show Zone.level { z with alert := .acked } = .alert from level] at pif
    refine ⟨t, _, he, row, only, zone', Zone.shown_shows _, wrl, pif, fun still => ?_⟩
    simp [Zone.shown, Zone.sirenDemand, still]
  · exact exec_answered (port := .q) (c := .ackAlert zone) ht rfl rfl fun a t zwc _ =>
      ackAlertCommand_other hr ((State.zone_congr zwc _).trans hz) (by tauto)

/-- Settles O28: a SILENCE acts on its zone, and so does the end of a silence at its time. -/
theorem silenceRunsToItsExpiry : Obligations.SilenceRunsToItsExpiry := by
  refine ⟨fun s tag zone minutes z m ht low high hz hm => ?_, fun s n z e hz hs => ?_⟩
  · subst hm
    obtain ⟨t, he, row, only, zone', wrl, pif⟩ :=
      exec_zoneAction (port := .q) (c := .silence zone minutes) ht rfl rfl hz fun a t hz clock => by
        rw [runCommand, silenceCommand_configured ((zoneInRange_iff zone).mpr ⟨low, high⟩) hz, clock]
    exact ⟨t, _, he, row, only, zone', Zone.shown_shows _, wrl, pif⟩
  · have ends : s.expireSilence n =
        (s.reach (tickTime e)).actOn n (fun z => { z with silence := none }) (.silence n 0 true) .silence := by
      simp only [State.expireSilence, hz, hs]
      rfl
    obtain ⟨t, he, keeps, quiet, now, only, zone', wrl, pif⟩ :=
      exec_zoneEnd (i := .silenceExpiry n) hz (congrArg Host.Outcome.next ends)
    exact ⟨t, _, he, keeps, quiet, now, only, zone', Zone.shown_shows _, wrl, pif⟩

/-- Settles O29: a SERVICE acts on its zone where it changes the service state. -/
theorem serviceTakesTheSignsOut : Obligations.ServiceTakesTheSignsOut := by
  intro s tag zone state ht low high
  have hr := (zoneInRange_iff zone).mpr ⟨low, high⟩
  refine ⟨fun z v hz hv change => ?_, fun z v hz hv same => ?_, fun hin hout => ?_⟩
  · obtain ⟨t, he, row, only, zone', wrl, pif⟩ :=
      exec_zoneAction (port := .q) (c := .service zone state) ht rfl rfl hz fun a t hz _ => by
        rw [runCommand, serviceCommand_change hr hz hv change, State.putService_eq]
    refine ⟨t, _, he, row, only, zone', Zone.shown_shows _, ?_, ?_, ?_, pif⟩
    · rintro rfl still
      simp [Zone.shown, Zone.signDemand, Zone.sirenDemand, still]
    · rintro rfl; exact wrl
    · rintro rfl; exact wrl
  · exact exec_answered (port := .q) (c := .service zone state) ht rfl rfl fun a t zwc _ =>
      serviceCommand_same hr ((State.zone_congr zwc _).trans hz) hv same
  · refine exec_answered (port := .q) (c := .service zone state) ht rfl rfl fun a t _ _ => ?_
    have none : serviceOfCode state.toNat = none := by rw [serviceOfCode, if_neg hin, if_neg hout]
    simp [runCommand, serviceCommand, hr, none, State.replyRange]

/-- Settles O30: a TEST acts on a zone at CLEAR or WATCH without a test, and so does its end at its time. -/
theorem testsRunTenSeconds : Obligations.TestsRunTenSeconds := by
  refine ⟨fun s tag zone z ht low high hz => ⟨fun level still => ?_, fun refused => ?_⟩, fun s n z e hz hs => ?_⟩
  · have hr := (zoneInRange_iff zone).mpr ⟨low, high⟩
    have free : z.level.rank ≤ Level.watch.rank ∧ z.testEnd = none := by
      rcases level with h | h <;> simp [h, still, Level.rank]
    obtain ⟨t, he, row, only, zone', wrl, pif⟩ :=
      exec_zoneAction (port := .q) (c := .test zone) ht rfl rfl hz fun a t hz clock => by
        rw [runCommand, testCommand_starts hr hz free, clock]
    exact ⟨t, _, he, row, only, zone', Zone.shown_shows _, rfl, rfl, wrl, pif⟩
  · refine exec_answered (port := .q) (c := .test zone) ht rfl rfl fun a t zwc _ =>
      testCommand_refused ((zoneInRange_iff zone).mpr ⟨low, high⟩) ((State.zone_congr zwc _).trans hz) ?_
    rintro ⟨level, still⟩
    rcases refused with h | h | h
    · simp [h, Level.rank] at level
    · simp [h, Level.rank] at level
    · exact h still
  · have ends : s.completeTest n =
        (s.reach (tickTime e)).actOn n (fun z => { z with testEnd := none }) (.testEnd n .completed) .test := by
      simp only [State.completeTest, hz, hs]
      rfl
    obtain ⟨t, he, keeps, quiet, now, only, zone', wrl, pif⟩ :=
      exec_zoneEnd (i := .testEnd n) hz (congrArg Host.Outcome.next ends)
    exact ⟨t, _, he, keeps, quiet, now, only, zone', Zone.shown_shows _, wrl, pif⟩

/-- A command that names a zone, apart from FLOOR, in the form that its other parameters allow (R119, R135). -/
def Command.OnZone (zone : Byte) (c : Command) : Prop :=
  c = .ackAlert zone ∨ (∃ m, c = .silence zone m) ∨ c = .test zone ∨ c = .readZone zone
    ∨ ∃ v, c = .service zone v ∧ (serviceOfCode v.toNat).isSome

section
variable {zone : Byte} {c : Command} (h : c.OnZone zone) (s : State) (a : Asked)
include h

theorem Command.OnZone.allowed : c.formatGood = true ∧ c.allowed .q = true := by
  rcases h with rfl | ⟨m, rfl⟩ | rfl | rfl | ⟨v, rfl, -⟩ <;> exact ⟨rfl, rfl⟩

theorem Command.OnZone.run_outOfRange (hr : zoneInRange zone = false) : runCommand c a s = s.replyRange a 0 := by
  rcases h with rfl | ⟨m, rfl⟩ | rfl | rfl | ⟨v, rfl, -⟩
  · simp [runCommand, ackAlertCommand, hr]
  · simp [runCommand, silenceCommand, hr]
  · simp [runCommand, testCommand, hr]
  · simp [runCommand, readZoneCommand, hr]
  · simp [runCommand, serviceCommand, hr]

theorem Command.OnZone.run_absent (hr : zoneInRange zone = true) (hz : s.zone zone.toNat = none) :
    runCommand c a s = s.reply a .unknownItem [] := by
  rcases h with rfl | ⟨m, rfl⟩ | rfl | rfl | ⟨v, rfl, hv⟩
  · simp [runCommand, ackAlertCommand, hr, hz]
  · simp [runCommand, silenceCommand, hr, hz]
  · simp [runCommand, testCommand, hr, hz]
  · simp [runCommand, readZoneCommand, hr, hz]
  · obtain ⟨w, hw⟩ := Option.isSome_iff_exists.mp hv
    simp [runCommand, serviceCommand, hr, hz, hw]

end

/-- Settles O31: each command on a zone looks at the number, then at the table, before anything else. -/
theorem zoneCommandsNeedTheirZone : Obligations.ZoneCommandsNeedTheirZone := by
  intro s tag zone c ht (h : c.OnZone zone)
  obtain ⟨good, allowed⟩ := h.allowed
  refine ⟨fun out => ?_, fun low high hz => ?_⟩
  · exact exec_answered ht good allowed fun a t _ _ => h.run_outOfRange t a (zoneInRange_false out)
  · exact exec_answered ht good allowed fun a t zwc _ =>
      h.run_absent t a ((zoneInRange_iff zone).mpr ⟨low, high⟩) ((State.zone_congr zwc _).trans hz)

end Sys2Proof.Machine

/-! # FLOOR and the ends of floors (R119, R121, R122) -/

namespace Sys2Proof.Machine

/-! ## What a new floor makes of its zone (R121, R118) -/

section
variable {z : Zone} {role : Port} {f : Floor} {seq : Seq}

/-- A change of level, written out (R118, R123, R128). -/
theorem Zone.changed_eq (new : Level) (cause : LevelCause) (z : Zone) :
    z.changed new cause seq =
      { z with
        level := new
        alert := alertAfter z.level new z.alert
        cause := some cause
        levelSeq := some seq
        testEnd := if Level.warn.rank ≤ new.rank then none else z.testEnd } := by
  unfold Zone.changed Zone.aborted Zone.atLevel
  by_cases h : Level.warn.rank ≤ new.rank
  · cases z.testEnd <;> simp [h]
  · simp [h]

theorem Zone.floorOf_setFloor_same (hr : role ≠ .s) (f : Option Floor) (z : Zone) :
    (z.setFloor role f).floorOf role = f := by
  cases role with
  | t => rfl
  | q => rfl
  | s => exact absurd rfl hr

theorem Zone.floorOf_setFloor_other {o : Port} (h : o ≠ role) (f : Option Floor) (z : Zone) :
    (z.setFloor role f).floorOf o = z.floorOf o := by
  cases role <;> cases o <;> first | rfl | exact absurd rfl h

/-- A new floor reaches no other floor (R121). -/
theorem Zone.floorPut_floorOf (o : Port) :
    (z.floorPut role f seq).floorOf o = (z.setFloor role (some f)).floorOf o := by
  by_cases rise : z.level.rank < f.level.rank
  · rw [Zone.floorPut_rise rise, Zone.changed_eq]
    cases o <;> rfl
  · rw [Zone.floorPut_kept rise]
    cases o <;> rfl

/-- What FLOOR never touches in its zone (R121). -/
theorem Zone.floorPut_unmoved :
    (z.floorPut role f seq).cfg = z.cfg ∧ (z.floorPut role f seq).silence = z.silence
      ∧ (z.floorPut role f seq).service = z.service ∧ (z.floorPut role f seq).last = z.last := by
  by_cases rise : z.level.rank < f.level.rank
  · rw [Zone.floorPut_rise rise, Zone.changed_eq]
    cases role <;> exact ⟨rfl, rfl, rfl, rfl⟩
  · rw [Zone.floorPut_kept rise]
    cases role <;> exact ⟨rfl, rfl, rfl, rfl⟩

theorem Zone.floorPut_level : (z.floorPut role f seq).level = z.level.higher f.level := by
  unfold Zone.floorPut Level.higher
  split
  · exact Zone.changed_level ..
  · exact z.setFloor_level ..

/-- A rise to the new floor (R118). -/
theorem Zone.floorPut_risen (rise : z.level.rank < f.level.rank) :
    (z.floorPut role f seq).cause = some (floorCause role) ∧ (z.floorPut role f seq).levelSeq = some seq
      ∧ (z.floorPut role f seq).dwell = 0 ∧ (z.floorPut role f seq).riseWatch = 0
      ∧ (z.floorPut role f seq).riseWarn = 0 ∧ (z.floorPut role f seq).riseAlert = 0
      ∧ (f.level = .alert → (z.floorPut role f seq).alert = .unacked)
      ∧ (Level.warn.rank ≤ f.level.rank → (z.floorPut role f seq).testEnd = none) := by
  rw [Zone.floorPut_rise rise, Zone.changed_eq]
  refine ⟨rfl, rfl, rfl, rfl, rfl, rfl, fun alert => ?_, fun warn => if_pos warn⟩
  have lower : z.zeroCounters.level ≠ .alert := fun e => by
    rw [alert, show z.level = .alert from e] at rise
    exact absurd rise (Nat.lt_irrefl _)
  have level : (z.setFloor role (some f)).zeroCounters.level = z.level := z.setFloor_level ..
  exact if_pos ⟨alert, level ▸ lower⟩

/-- A new floor at or below the level (R121). -/
theorem Zone.floorPut_stays (kept : f.level.rank ≤ z.level.rank) :
    (z.floorPut role f seq).dwell = (if f.level.rank < (floorLevel (z.floorOf role)).rank then 0 else z.dwell)
      ∧ (z.floorPut role f seq).riseWatch = z.riseWatch ∧ (z.floorPut role f seq).riseWarn = z.riseWarn
      ∧ (z.floorPut role f seq).riseAlert = z.riseAlert ∧ (z.floorPut role f seq).alert = z.alert
      ∧ (z.floorPut role f seq).testEnd = z.testEnd ∧ (z.floorPut role f seq).cause = z.cause := by
  rw [Zone.floorPut_kept (Nat.not_lt.mpr kept)]
  cases role <;> exact ⟨rfl, rfl, rfl, rfl, rfl, rfl, rfl⟩

end

/-! ## The end of a floor (R122) -/

section
variable {s : State} {n : Nat} {z : Zone} {role : Port} {f : Floor}

/-- Without its floor a zone keeps its level; a notice tells of it (R122). -/
theorem State.endFloor_noticed (hz : s.zone n = some z) (hf : z.floorOf role = some f) (byExpiry : Bool) :
    ZoneNoticed [.zwc, .wrl] n ({ z with dwell := 0 }.setFloor role none) .routine
      (({ z with dwell := 0 }.setFloor role none).notice s.seconds .floor z.level z.level) s
      (s.endFloor n role byExpiry) ∧ (s.endFloor n role byExpiry).wrl =
        s.logged (.action (.floorClear n f.level byExpiry) role) := by
  have same : { z.setFloor role none with dwell := 0 } = { z with dwell := 0 }.setFloor role none := by
    cases role <;> rfl
  have ended := State.updZone_becomes hz (fun z => { z.setFloor role none with dwell := 0 }) fun z => z.setFloor_cfg ..
  have level : ({ z.setFloor role none with dwell := 0 } : Zone).level = z.level := z.setFloor_level ..
  have recorded : ZoneBecomes n { z.setFloor role none with dwell := 0 } s
      ((s.updZone n (fun z => { z.setFloor role none with dwell := 0 })).record
        (.action (.floorClear n f.level byExpiry) role)) := ended.trans (.ofZwc rfl ended.zone)
  have noticed := (State.raiseZone_noticed recorded.zone .routine .floor level).mono (qs := [.zwc, .wrl]) (by simp)
  rw [← same, State.endFloor, hz]
  dsimp only
  rw [hf]
  refine ⟨noticed.after recorded ?_ (by decide) (by decide), (State.raiseZone_keeps ..).wrl (by decide)⟩
  exact (State.record_keeps ..).andThen (by decide) ((State.updZone_keeps ..).mono (by decide))

theorem State.setFloor_wrl (hz : s.zone n = some z) {l : Level} (kept : l.rank ≤ z.level.rank) (minutes : Nat) :
    (s.setFloor n role l minutes).wrl = s.logged (.action (.floorSet n l minutes) role) := by
  unfold State.setFloor
  rw [hz]
  dsimp only
  rw [(State.deriveDemand_keeps ..).wrl (by decide), if_neg (Nat.not_lt.mpr kept)]
  split
  · exact (State.raiseZone_keeps ..).wrl (by decide)
  · exact (State.raiseZone_keeps ..).wrl (by decide)

end

/-! ## The command (R119, R121) -/

theorem levelOfCode_none {n : Nat} (h : 4 ≤ n) : levelOfCode n = none := by
  simp [levelOfCode, show n ≠ 0 by omega, show n ≠ 1 by omega, show n ≠ 2 by omega, show n ≠ 3 by omega]

theorem levelOfCode_some {n : Nat} (h : n ≤ 3) : ∃ l, levelOfCode n = some l ∧ (l = .alert → n = 3) := by
  interval_cases n <;> exact ⟨_, rfl, by simp⟩

section
variable {s : State} {zone level : Byte} {minutes : BitVec 16} {a : Asked} {z : Zone} {l : Level}

theorem floorCommand_zoneOutOfRange (hr : zoneInRange zone = false) :
    floorCommand zone level minutes a s = s.reply a .refusedRange [bytes1 0] := by
  simp [floorCommand, hr, State.replyRange]

section
variable (hr : zoneInRange zone = true)
include hr

theorem floorCommand_levelOutOfRange (hl : levelOfCode level.toNat = none) :
    floorCommand zone level minutes a s = s.reply a .refusedRange [bytes1 1] := by
  simp [floorCommand, hr, hl, State.replyRange]

variable (hl : levelOfCode level.toNat = some l)
include hl

theorem floorCommand_role (role : a.port = .t ∧ l = .alert) :
    floorCommand zone level minutes a s = s.reply a .refusedRole [] := by
  simp [floorCommand, hr, hl, role]

variable (role : ¬ (a.port = .t ∧ l = .alert))
include role

theorem floorCommand_absent (hz : s.zone zone.toNat = none) :
    floorCommand zone level minutes a s = s.reply a .unknownItem [] := by
  simp only [floorCommand, hr, hl, hz, if_true, if_neg role]

variable (hz : s.zone zone.toNat = some z)
include hz

theorem floorCommand_set (above : l ≠ .clear) :
    floorCommand zone level minutes a s =
      (s.setFloor zone.toNat a.port l (floorMinutes minutes.toNat)).reply a .done
        [bytes1 (floorMinutes minutes.toNat)] := by
  simp only [floorCommand, hr, hl, hz, if_true, if_neg role, if_neg above]

end

theorem floorCommand_clear (hr : zoneInRange zone = true) (hz : s.zone zone.toNat = some z) :
    floorCommand zone 0 minutes a s = (s.endFloor zone.toNat a.port false).reply a .done [] := by
  simp [floorCommand, levelOfCode, hr, hz]

end

/-- The notice of a rise to a new floor (R118, R131). -/
theorem Zone.floorNotice_rise {z : Zone} {l : Level} (rise : z.level.rank < l.rank) :
    z.floorClass l = (if Level.warn.rank ≤ l.rank then .urgent else .routine) ∧ z.floorEvent l = .level
      ∧ z.level.higher l = l := by
  refine ⟨?_, if_pos rise, if_pos rise⟩
  rw [Zone.floorClass, if_pos rise, levelClass]
  simp only [rise, true_and]

/-- The notice of a new floor at or below the level (R121, R131). -/
theorem Zone.floorNotice_stays {z : Zone} {l : Level} (kept : l.rank ≤ z.level.rank) :
    z.floorClass l = .routine ∧ z.floorEvent l = .floor ∧ z.level.higher l = z.level :=
  ⟨if_neg (Nat.not_lt.mpr kept), if_neg (Nat.not_lt.mpr kept), if_neg (Nat.not_lt.mpr kept)⟩

theorem floor_allowed {port : Port} (h : port ≠ .s) (zone level : Byte) (minutes : BitVec 16) :
    (Command.floor zone level minutes).allowed port = true := bne_iff_ne.mpr h

theorem State.held_newFloor (s : State) (port : Port) (content : List Byte) (l : Level) (minutes : Nat) :
    (s.held port content).newFloor l minutes = s.newFloor l minutes := by
  rw [State.newFloor, State.held_seconds, State.newFloor]

section
variable {s : State} {port : Port} {tag zone level : Byte} {minutes : BitVec 16} {z : Zone} (ht : tag ≠ 0)
  (hport : port ≠ .s) (hr : zoneInRange zone = true) (hz : s.zone zone.toNat = some z)
include ht hport hr hz

/-- The row of a FLOOR above CLEAR (R121). -/
theorem exec_floorSet {l : Level} (hl : levelOfCode level.toNat = some l) (above : l ≠ .clear)
    (role : ¬ (port = .t ∧ l = .alert)) {m : Nat} (hm : floorMinutes minutes.toNat = m) :
    ∃ t, exec (.floor port tag zone level minutes) s = .next t
      ∧ RowResult [.zwc, .oda, .wrl] s port tag (.floor zone level minutes) .done [bytes1 m] t
      ∧ ZoneOnly zone.toNat s t
      ∧ t.zone zone.toNat = some (z.floorPut port (s.newFloor l m) (s.wrl.nextSeq + 1)).shown
      ∧ (l.rank ≤ z.level.rank → t.wrl = s.logged (.action (.floorSet zone.toNat l m) port))
      ∧ t.pif = s.portsNoticed port tag (.floor zone level minutes) (z.floorClass l)
          (.level ((z.floorPut port (s.newFloor l m) (s.wrl.nextSeq + 1)).shown.notice s.seconds (z.floorEvent l)
            z.level (z.level.higher l))) .done [bytes1 m] := by
  have held := (s.held_zone port ((Command.floor zone level minutes).content tag) zone.toNat).trans hz
  have noticed := State.setFloor_noticed held port l m
  rw [State.held_newFloor, State.held_seconds, State.held_wrl] at noticed
  obtain ⟨row, only, zone', wrl, pif⟩ := noticed.row (tag := tag) .done [bytes1 m] rfl
  refine ⟨_, exec_runs port tag (.floor zone level minutes) s ht rfl (floor_allowed hport ..), ?_⟩
  rw [runCommand, floorCommand_set hr hl role held above, hm]
  exact ⟨row, only, zone', fun kept => wrl.trans ((State.setFloor_wrl held kept m).trans (s.held_logged ..)), pif⟩

/-- The row of a FLOOR at CLEAR that ends its role's floor (R121, R122). -/
theorem exec_floorCleared {f : Floor} (hf : z.floorOf port = some f) :
    ∃ t, exec (.floor port tag zone 0 minutes) s = .next t
      ∧ RowResult [.zwc, .wrl] s port tag (.floor zone 0 minutes) .done [] t
      ∧ ZonesBut zone.toNat s t
      ∧ t.zone zone.toNat = some ({ z with dwell := 0 }.setFloor port none)
      ∧ t.wrl = s.logged (.action (.floorClear zone.toNat f.level false) port)
      ∧ t.pif = s.portsNoticed port tag (.floor zone 0 minutes) .routine
          (.level (({ z with dwell := 0 }.setFloor port none).notice s.seconds .floor z.level z.level)) .done [] := by
  have held := (s.held_zone port ((Command.floor zone 0 minutes).content tag) zone.toNat).trans hz
  obtain ⟨noticed, logged⟩ := State.endFloor_noticed held hf false
  rw [State.held_seconds] at noticed
  obtain ⟨row, only, zone', wrl, pif⟩ := noticed.row (tag := tag) .done [] rfl
  refine ⟨_, exec_runs port tag (.floor zone 0 minutes) s ht rfl (floor_allowed hport ..), ?_⟩
  rw [runCommand, floorCommand_clear hr held]
  exact ⟨row, only.1, zone', wrl.trans (logged.trans (s.held_logged ..)), pif⟩

/-- The row of a FLOOR at CLEAR without a floor (R121). -/
theorem exec_floorAbsent (hf : z.floorOf port = none) :
    ∃ t, exec (.floor port tag zone 0 minutes) s = .next t
      ∧ RowResult [] s port tag (.floor zone 0 minutes) .done [] t := by
  refine exec_answered (c := .floor zone 0 minutes) ht rfl (floor_allowed hport ..) fun a t zwc ha => ?_
  have there := (State.zone_congr zwc zone.toNat).trans hz
  rw [runCommand, floorCommand_clear hr there, State.endFloor, there, ha]
  dsimp only
  rw [hf]

end

/-- A floor reaches its expiry time (R122). -/
theorem exec_floorExpired {s : State} {n : Nat} {port : Port} {z : Zone} {f : Floor} (hz : s.zone n = some z)
    (hf : z.floorOf port = some f) :
    ∃ t, exec (.floorExpiry n port) s = .next t ∧ KeepsBut [.now, .zwc, .wrl, .pif] s t ∧ PortsQuiet s t
      ∧ t.now = max s.now (f.expiry * 1000000) ∧ ZonesBut n s t
      ∧ t.zone n = some ({ z with dwell := 0 }.setFloor port none)
      ∧ t.wrl = ({ s with now := t.now } : State).logged (.action (.floorClear n f.level true) port)
      ∧ t.pif = (({ s with now := t.now } : State).raise .routine
          (.level (({ z with dwell := 0 }.setFloor port none).notice t.seconds .floor z.level z.level))).pif := by
  obtain ⟨noticed, logged⟩ := State.endFloor_noticed (s := s.reach (tickTime f.expiry)) hz hf true
  obtain ⟨keeps, quiet, now, only, zone', reached, seconds⟩ := noticed.timed
  have ends : s.expireFloor n port = (s.reach (tickTime f.expiry)).endFloor n port true := by
    simp only [State.expireFloor, hz, hf]
  refine ⟨_, congrArg Host.Outcome.next ends, keeps.mono (by decide), quiet, now, only.1, zone', ?_, ?_⟩
  · rw [reached]
    exact logged
  · rw [reached, seconds]
    exact noticed.pif

/-- The refusals of FLOOR, in their order: the zone's number, the level, the role, the table (R119, R121). -/
theorem exec_floorRefused (s : State) {port : Port} {tag : Byte} (zone level : Byte) (minutes : BitVec 16)
    (ht : tag ≠ 0) (hport : port ≠ .s) :
    (zone.toNat = 0 ∨ 16 < zone.toNat →
      ∃ t, exec (.floor port tag zone level minutes) s = .next t
        ∧ RowResult [] s port tag (.floor zone level minutes) .refusedRange [bytes1 0] t)
    ∧ (1 ≤ zone.toNat → zone.toNat ≤ 16 → 4 ≤ level.toNat →
      ∃ t, exec (.floor port tag zone level minutes) s = .next t
        ∧ RowResult [] s port tag (.floor zone level minutes) .refusedRange [bytes1 1] t)
    ∧ (1 ≤ zone.toNat → zone.toNat ≤ 16 → level = 3 → port = .t →
      ∃ t, exec (.floor port tag zone level minutes) s = .next t
        ∧ RowResult [] s port tag (.floor zone level minutes) .refusedRole [] t)
    ∧ (1 ≤ zone.toNat → zone.toNat ≤ 16 → level.toNat ≤ 3 → ¬(level = 3 ∧ port = .t) →
      s.zone zone.toNat = none →
      ∃ t, exec (.floor port tag zone level minutes) s = .next t
        ∧ RowResult [] s port tag (.floor zone level minutes) .unknownItem [] t) := by
  have answered : ∀ (r : Result) (units : List (List Byte)),
      (∀ a t, t.zwc = s.zwc → a.port = port → floorCommand zone level minutes a t = t.reply a r units) →
      ∃ t, exec (.floor port tag zone level minutes) s = .next t
        ∧ RowResult [] s port tag (.floor zone level minutes) r units t := fun _ _ run =>
    exec_answered (c := .floor zone level minutes) ht rfl (floor_allowed hport ..) run
  have inRange : 1 ≤ zone.toNat → zone.toNat ≤ 16 → zoneInRange zone = true := fun low high =>
    (zoneInRange_iff zone).mpr ⟨low, high⟩
  refine ⟨fun out => ?_, fun low high out => ?_, fun low high alert role => ?_, fun low high le role hz => ?_⟩
  · exact answered _ _ fun a t _ _ => floorCommand_zoneOutOfRange (zoneInRange_false out)
  · exact answered _ _ fun a t _ _ => floorCommand_levelOutOfRange (inRange low high) (levelOfCode_none out)
  · subst alert
    exact answered _ _ fun a t _ ha => floorCommand_role (inRange low high) rfl ⟨ha.trans role, rfl⟩
  · obtain ⟨l, hl, code⟩ := levelOfCode_some le
    refine answered _ _ fun a t zwc ha => floorCommand_absent (inRange low high) hl (fun h => role ⟨?_, ?_⟩)
      ((State.zone_congr zwc _).trans hz)
    · exact BitVec.eq_of_toNat_eq (code h.2)
    · exact ha.symm.trans h.1

/-- Settles O26: FLOOR sets or ends the floor of its role in one zone, an expiry ends it at its time, and each refusal
is answered alone. -/
theorem floorsRaiseTheirZoneAndEndWithoutAFall : Obligations.FloorsRaiseTheirZoneAndEndWithoutAFall := by
  refine ⟨?_, ?_, fun s n port z f hz hf => exec_floorExpired hz hf, ?_,
    fun s port tag zone level minutes ht hport => exec_floorRefused s zone level minutes ht hport⟩
  · intro s port tag zone level minutes z l m ht hport low high hz hl above role hm
    obtain ⟨t, he, row, only, zone', wrl, pif⟩ :=
      exec_floorSet ht hport ((zoneInRange_iff zone).mpr ⟨low, high⟩) hz hl above role hm.symm
    obtain ⟨cfg, silence, service, last⟩ :=
      Zone.floorPut_unmoved (z := z) (role := port) (f := s.newFloor l m) (seq := s.wrl.nextSeq + 1)
    have own := (Zone.floorPut_floorOf (seq := s.wrl.nextSeq + 1) port).trans
      (Zone.floorOf_setFloor_same hport (some (s.newFloor l m)) z)
    have others : ∀ o, o ≠ port → _ = z.floorOf o := fun o ho =>
      (Zone.floorPut_floorOf (seq := s.wrl.nextSeq + 1) o).trans
        (Zone.floorOf_setFloor_other ho (some (s.newFloor l m)) z)
    refine ⟨t, _, he, row, only, zone', cfg, own, fun h => others .q (h ▸ nofun), fun h => others .t (h ▸ nofun),
      Zone.floorPut_level, fun kept => ?_, silence, service, last, rfl, rfl, fun rise => ?_, fun kept => ?_⟩
    · obtain ⟨dwell, watch, warn, alert, -⟩ := Zone.floorPut_stays (f := s.newFloor l m) (role := port) kept
      exact ⟨dwell, watch, warn, alert⟩
    · obtain ⟨cause, number, dwell, watch, warn, alert, unacked, test⟩ :=
        Zone.floorPut_risen (f := s.newFloor l m) (role := port) (seq := s.wrl.nextSeq + 1) rise
      obtain ⟨cls, event, higher⟩ := Zone.floorNotice_rise rise
      rw [cls, event, higher] at pif
      exact ⟨cause, number, dwell, watch, warn, alert, unacked, test, pif⟩
    · obtain ⟨-, -, -, -, alert, test, cause⟩ := Zone.floorPut_stays (f := s.newFloor l m) (role := port) kept
      obtain ⟨cls, event, higher⟩ := Zone.floorNotice_stays kept
      rw [cls, event, higher] at pif
      exact ⟨alert, test, cause, wrl kept, pif⟩
  · intro s port tag zone minutes z f ht hport low high hz hf
    exact exec_floorCleared ht hport ((zoneInRange_iff zone).mpr ⟨low, high⟩) hz hf
  · intro s port tag zone minutes z ht hport low high hz hf
    exact exec_floorAbsent ht hport ((zoneInRange_iff zone).mpr ⟨low, high⟩) hz hf

end Sys2Proof.Machine

/-! # The rise and the fall of a zone at a delivery (R116, R117, R120) -/

namespace Sys2Proof.Machine

/-! ## The counters of a rise (R116) -/

theorem Level.rank_lt_watch (l : Level) : l.rank < Level.watch.rank ↔ l = .clear := by cases l <;> decide

theorem Level.rank_lt_warn (l : Level) : l.rank < Level.warn.rank ↔ l = .clear ∨ l = .watch := by
  cases l <;> decide

theorem Level.rank_lt_alert (l : Level) : l.rank < Level.alert.rank ↔ l ≠ .alert := by cases l <;> decide

theorem riseCount_eq {current l : Level} {p : Prop} [Decidable p] (above : current.rank < l.rank ↔ p)
    (threshold r count : Nat) :
    riseCount current l threshold r count =
      if p then (if threshold ≤ r then min 16 (count + 1) else 0) else count := if_congr above rfl rfl

theorem riseCount_le_sixteen {current l : Level} {threshold r count : Nat} (h : count ≤ 16) :
    riseCount current l threshold r count ≤ 16 := by
  unfold riseCount countTo
  split
  · split <;> omega
  · exact h

/-- Two zones have the same rise counters. -/
structure Zone.SameRises (z z' : Zone) : Prop where
  watch : z'.riseWatch = z.riseWatch
  warn : z'.riseWarn = z.riseWarn
  alert : z'.riseAlert = z.riseAlert

section
variable {z : Zone} {r : Nat} {seq : Seq}

theorem Zone.changed_counters (new : Level) (cause : LevelCause) (z : Zone) :
    z.SameRises (z.changed new cause seq) ∧ (z.changed new cause seq).dwell = z.dwell := by
  rw [Zone.changed_eq]
  exact ⟨⟨rfl, rfl, rfl⟩, rfl⟩

/-! ## The decision (R116, R117) -/

theorem Zone.riseTo_eq_none_iff : z.riseTo = none ↔
    (z.level = .clear → z.riseWatch < z.cfg.dgWatch)
      ∧ (z.level = .clear ∨ z.level = .watch → z.riseWarn < z.cfg.dgWarn)
      ∧ (z.level ≠ .alert → z.riseAlert < z.cfg.dgAlert) := by
  rw [← Level.rank_lt_warn, ← Level.rank_lt_watch, ← Level.rank_lt_alert, Zone.riseTo]
  split
  · rename_i h
    exact ⟨nofun, fun k => absurd (k.2.2 h.1) (Nat.not_lt.mpr h.2)⟩
  · rename_i alert
    split
    · rename_i h
      exact ⟨nofun, fun k => absurd (k.2.1 h.1) (Nat.not_lt.mpr h.2)⟩
    · rename_i warn
      split
      · rename_i h
        exact ⟨nofun, fun k => absurd (k.1 h.1) (Nat.not_lt.mpr h.2)⟩
      · rename_i watch
        simp only [not_and, Nat.not_le] at alert warn watch
        exact iff_of_true rfl ⟨watch, warn, alert⟩

theorem Zone.riseTo_alert (h : z.level ≠ .alert) (reached : z.cfg.dgAlert ≤ z.riseAlert) :
    z.riseTo = some .alert := if_pos ⟨z.level.rank_lt_alert.mpr h, reached⟩

theorem Zone.riseTo_warn (h : z.level = .clear ∨ z.level = .watch) (below : z.riseAlert < z.cfg.dgAlert)
    (reached : z.cfg.dgWarn ≤ z.riseWarn) : z.riseTo = some .warn := by
  rw [Zone.riseTo, if_neg (fun k => Nat.not_le.mpr below k.2), if_pos ⟨z.level.rank_lt_warn.mpr h, reached⟩]

theorem Zone.riseTo_watch (h : z.level = .clear) (belowAlert : z.riseAlert < z.cfg.dgAlert)
    (belowWarn : z.riseWarn < z.cfg.dgWarn) (reached : z.cfg.dgWatch ≤ z.riseWatch) : z.riseTo = some .watch := by
  rw [Zone.riseTo, if_neg (fun k => Nat.not_le.mpr belowAlert k.2), if_neg (fun k => Nat.not_le.mpr belowWarn k.2),
    if_pos ⟨z.level.rank_lt_watch.mpr h, reached⟩]

theorem Zone.decided_rise {l : Level} (h : z.riseTo = some l) :
    (z.decided r seq).level = l ∧ z.zeroCounters.SameRises (z.decided r seq) ∧ (z.decided r seq).dwell = 0 := by
  rw [Zone.decided, h]
  exact ⟨Zone.changed_level .., Zone.changed_counters l .risk z.zeroCounters⟩

theorem Level.below_rank_le (l : Level) : l.below.rank ≤ l.rank := by cases l <;> decide

/-- A zone that does not rise keeps its rise counters, and its level or one below it. -/
theorem Zone.decided_still (h : z.riseTo = none) :
    (z.decided r seq).level.rank ≤ z.level.rank ∧ z.SameRises (z.decided r seq) := by
  rw [Zone.decided, h]
  dsimp only
  split
  · split
    · obtain ⟨⟨watch, warn, alert⟩, -⟩ := Zone.changed_counters (seq := seq) z.level.below .risk { z with dwell := 0 }
      rw [Zone.changed_level]
      exact ⟨z.level.below_rank_le, watch, warn, alert⟩
    · exact ⟨le_rfl, rfl, rfl, rfl⟩
  · exact ⟨le_rfl, rfl, rfl, rfl⟩

/-- What a delivery decides for a zone that does not rise, by its dwell counter and its floors (R117, R120). -/
theorem Zone.decided_fall (h : z.riseTo = none) (one : 1 ≤ z.cfg.dwell) :
    (z.level = .clear ∨ z.cfg.fallLimit z.level ≤ r → (z.decided r seq).level = z.level ∧ (z.decided r seq).dwell = 0)
    ∧ (z.level ≠ .clear → r < z.cfg.fallLimit z.level → z.dwell + 1 < z.cfg.dwell →
        (z.decided r seq).level = z.level ∧ (z.decided r seq).dwell = z.dwell + 1)
    ∧ (z.level ≠ .clear → r < z.cfg.fallLimit z.level → z.cfg.dwell ≤ z.dwell + 1 → (z.decided r seq).dwell = 0
      ∧ (z.highestFloor.rank ≤ z.level.below.rank → (z.decided r seq).level = z.level.below)
      ∧ (z.level.below.rank < z.highestFloor.rank → (z.decided r seq).level = z.level)) := by
  have dwell := z.dwellAfter_eq r
  rw [Zone.decided, h]
  dsimp only
  refine ⟨fun high => ?_, fun above low short => ?_, fun above low reached => ?_⟩
  · have zero : z.dwellAfter r = 0 := by
      rw [dwell, if_neg]
      rintro ⟨above, low⟩
      exact high.elim above (Nat.not_le.mpr low)
    have stays : ¬ z.fallDecided r = true := by
      simp only [Zone.fallDecided, zero, Bool.and_eq_true, decide_eq_true_eq]
      omega
    rw [if_neg stays]
    exact ⟨rfl, zero⟩
  · rw [if_pos ⟨above, low⟩] at dwell
    have stays : ¬ z.fallDecided r = true := by
      simp only [Zone.fallDecided, dwell, Bool.and_eq_true, decide_eq_true_eq]
      omega
    rw [if_neg stays]
    exact ⟨rfl, dwell⟩
  · rw [if_pos ⟨above, low⟩] at dwell
    have falls : z.fallDecided r = true := by
      simp only [Zone.fallDecided, dwell, Bool.and_eq_true, decide_eq_true_eq, bne_iff_ne]
      exact ⟨above, reached⟩
    rw [if_pos falls]
    by_cases free : z.highestFloor.rank ≤ z.level.below.rank
    · rw [if_pos free]
      exact ⟨(Zone.changed_counters ..).2, fun _ => Zone.changed_level ..,
        fun held => absurd free (Nat.not_le.mpr held)⟩
    · rw [if_neg free]
      exact ⟨rfl, fun h => absurd h free, fun _ => rfl⟩

/-- A zone whose level a delivery does not raise has reached no deglitch count (R116). -/
theorem Zone.riseTo_none_of_decided (h : ¬ z.level.rank < (z.decided r seq).level.rank) : z.riseTo = none := by
  cases rise : z.riseTo with
  | none => rfl
  | some l =>
    rw [(Zone.decided_rise rise).1] at h
    exact absurd (z.riseTo_above rise) h

end

/-- A zone that has taken the components of a delivery and counted its rise (R115, R116). -/
def Zone.counted (d : Delivery) (z : Zone) : Zone := (z.takeComponents d).countRise d.risk

section
variable (d : Delivery) (z : Zone)

theorem Zone.counted_riseWatch : (z.counted d).riseWatch =
    if z.level = .clear then (if z.cfg.tWatch ≤ d.risk then min 16 (z.riseWatch + 1) else 0) else z.riseWatch :=
  riseCount_eq z.level.rank_lt_watch ..

theorem Zone.counted_riseWarn : (z.counted d).riseWarn =
    if z.level = .clear ∨ z.level = .watch then (if z.cfg.tWarn ≤ d.risk then min 16 (z.riseWarn + 1) else 0)
    else z.riseWarn :=
  riseCount_eq z.level.rank_lt_warn ..

theorem Zone.counted_riseAlert : (z.counted d).riseAlert =
    if z.level ≠ .alert then (if z.cfg.tAlert ≤ d.risk then min 16 (z.riseAlert + 1) else 0) else z.riseAlert :=
  riseCount_eq z.level.rank_lt_alert ..

variable (seq : Seq)

/-- The rise counters after a delivery: 0 after a rise, and those of the count where there is none. -/
theorem Zone.delivered_rises :
    ((z.delivered d seq).riseWatch = 0 ∧ (z.delivered d seq).riseWarn = 0 ∧ (z.delivered d seq).riseAlert = 0)
    ∨ ((z.counted d).riseTo = none ∧ (z.delivered d seq).level.rank ≤ z.level.rank
      ∧ (z.delivered d seq).riseWatch = (z.counted d).riseWatch
      ∧ (z.delivered d seq).riseWarn = (z.counted d).riseWarn
      ∧ (z.delivered d seq).riseAlert = (z.counted d).riseAlert) := by
  cases h : (z.counted d).riseTo with
  | none =>
    obtain ⟨level, watch, warn, alert⟩ := Zone.decided_still (r := d.risk) (seq := seq) h
    exact .inr ⟨rfl, level, watch, warn, alert⟩
  | some l =>
    obtain ⟨-, ⟨watch, warn, alert⟩, -⟩ := Zone.decided_rise (r := d.risk) (seq := seq) h
    exact .inl ⟨watch, warn, alert⟩

/-- A counter that has not reached its deglitch count stands below it, and the others stay as they were. -/
theorem Zone.delivered_le_deglitch (watch : z.riseWatch ≤ z.cfg.dgWatch) (warn : z.riseWarn ≤ z.cfg.dgWarn)
    (alert : z.riseAlert ≤ z.cfg.dgAlert) :
    (z.delivered d seq).riseWatch ≤ z.cfg.dgWatch ∧ (z.delivered d seq).riseWarn ≤ z.cfg.dgWarn
      ∧ (z.delivered d seq).riseAlert ≤ z.cfg.dgAlert := by
  rcases z.delivered_rises d seq with ⟨h, h', h''⟩ | ⟨still, -, h, h', h''⟩
  · omega
  · obtain ⟨belowWatch, belowWarn, belowAlert⟩ := Zone.riseTo_eq_none_iff.mp still
    rw [h, h', h'']
    refine ⟨?_, ?_, ?_⟩
    · by_cases above : z.level = .clear
      · exact (belowWatch above).le
      · rwa [Zone.counted_riseWatch, if_neg above]
    · by_cases above : z.level = .clear ∨ z.level = .watch
      · exact (belowWarn above).le
      · rwa [Zone.counted_riseWarn, if_neg above]
    · by_cases above : z.level ≠ .alert
      · exact (belowAlert above).le
      · rwa [Zone.counted_riseAlert, if_neg above]

theorem Zone.delivered_le_sixteen (watch : z.riseWatch ≤ 16) (warn : z.riseWarn ≤ 16) (alert : z.riseAlert ≤ 16) :
    (z.delivered d seq).riseWatch ≤ 16 ∧ (z.delivered d seq).riseWarn ≤ 16 ∧ (z.delivered d seq).riseAlert ≤ 16 := by
  rcases z.delivered_rises d seq with ⟨h, h', h''⟩ | ⟨-, -, h, h', h''⟩
  · omega
  · rw [h, h', h'']
    exact ⟨riseCount_le_sixteen watch, riseCount_le_sixteen warn, riseCount_le_sixteen alert⟩

/-- The counters of the current level and below it stay 0: a zone that does not rise has them from before. -/
theorem Zone.delivered_zero_below (watch : z.level ≠ .clear → z.riseWatch = 0)
    (warn : z.level = .warn ∨ z.level = .alert → z.riseWarn = 0) (alert : z.level = .alert → z.riseAlert = 0) :
    ((z.delivered d seq).level ≠ .clear → (z.delivered d seq).riseWatch = 0)
      ∧ ((z.delivered d seq).level = .warn ∨ (z.delivered d seq).level = .alert → (z.delivered d seq).riseWarn = 0)
      ∧ ((z.delivered d seq).level = .alert → (z.delivered d seq).riseAlert = 0) := by
  rcases z.delivered_rises d seq with ⟨h, h', h''⟩ | ⟨-, level, h, h', h''⟩
  · exact ⟨fun _ => h, fun _ => h', fun _ => h''⟩
  · rw [h, h', h'', Zone.counted_riseWatch, Zone.counted_riseWarn, Zone.counted_riseAlert]
    refine ⟨fun above => ?_, fun above => ?_, fun above => ?_⟩
    · have before : z.level ≠ .clear := fun e => by
        rw [e] at level
        exact above ((Level.rank_lt_watch _).mp (level.trans_lt (by decide)))
      rw [if_neg before, watch before]
    · have before : z.level = .warn ∨ z.level = .alert := by
        rcases above with e | e <;> rw [e] at level <;> cases hz : z.level <;> simp [hz, Level.rank] at level ⊢
      rw [if_neg (by rcases before with e | e <;> simp [e]), warn before]
    · have before : z.level = .alert := by
        rw [above] at level
        cases hz : z.level <;> simp [hz, Level.rank] at level ⊢
      rw [if_neg (not_not.mpr before), alert before]

end

/-- Settles O32: the delivery counts for the levels above, and the decision reads the counters. -/
theorem risesCountTheirDeliveries : Obligations.RisesCountTheirDeliveries := by
  intro s d z cWatch cWarn cAlert hz hWatch hWarn hAlert
  have becomes := State.deliverRisk_becomes hz
  replace hWatch := hWatch.trans (z.counted_riseWatch d).symm
  replace hWarn := hWarn.trans (z.counted_riseWarn d).symm
  replace hAlert := hAlert.trans (z.counted_riseAlert d).symm
  subst hWatch hWarn hAlert
  refine ⟨_, becomes.zone, becomes.others, fun level reached => ?_, fun level below reached => ?_,
    fun level below below' reached => ?_, fun watch warn alert => ?_, fun rise => ?_, ?_, ?_, ?_⟩
  · exact (Zone.decided_rise (Zone.riseTo_alert (z := z.counted d) level reached)).1
  · exact (Zone.decided_rise (Zone.riseTo_warn (z := z.counted d) level below reached)).1
  · exact (Zone.decided_rise (Zone.riseTo_watch (z := z.counted d) level below below' reached)).1
  · obtain ⟨level, same⟩ := Zone.decided_still (z := z.counted d) (Zone.riseTo_eq_none_iff.mpr ⟨watch, warn, alert⟩)
    exact ⟨level, same.watch, same.warn, same.alert⟩
  · cases h : (z.counted d).riseTo with
    | none => exact absurd rise (Nat.not_lt.mpr (Zone.decided_still h).1)
    | some l =>
      obtain ⟨-, zero, dwell⟩ := Zone.decided_rise h
      exact ⟨zero.watch, zero.warn, zero.alert, dwell⟩
  · exact z.delivered_le_deglitch d _
  · exact z.delivered_le_sixteen d _
  · exact z.delivered_zero_below d _

/-- Settles O33: a zone that does not rise is decided by its dwell counter and its floors, and a zone falls in no other
way. -/
theorem levelsFallOneStepAtATime : Obligations.LevelsFallOneStepAtATime := by
  have delivered : ∀ {s : State} {d : Delivery} {z z' : Zone}, s.zone d.zone = some z →
      (s.deliverRisk d).zone d.zone = some z' → z' = z.delivered d s.wrl.nextSeq := fun hz hz' =>
    Option.some.inj (hz'.symm.trans (State.deliverRisk_becomes hz).zone)
  refine ⟨fun s d z z' limit hz one hz' still hl => ?_, fun s d z z' hz one hz' fall => ?_⟩
  · obtain rfl := delivered hz hz'
    have fallLimit : z.level ≠ .clear → limit = z.cfg.fallLimit z.level := fun above => by
      rw [hl]
      cases level : z.level with
      | clear => exact absurd level above
      | _ => rfl
    obtain ⟨high, short, reached⟩ := Zone.decided_fall (z := z.counted d) (r := d.risk) (seq := s.wrl.nextSeq)
      (Zone.riseTo_none_of_decided still) one
    refine ⟨fun h => high ?_, fun above low => short above ?_, fun above low => reached above ?_⟩
    · by_cases clear : z.level = .clear
      · exact .inl clear
      · exact .inr (fallLimit clear ▸ h.resolve_left clear)
    · exact fallLimit above ▸ low
    · exact fallLimit above ▸ low
  · obtain rfl := delivered hz hz'
    obtain ⟨high, short, reached⟩ := Zone.decided_fall (z := z.counted d) (r := d.risk) (seq := s.wrl.nextSeq)
      (Zone.riseTo_none_of_decided fall.not_gt) one
    have moved : (z.delivered d s.wrl.nextSeq).level ≠ z.level := fun e => by
      rw [e] at fall
      exact absurd fall (Nat.lt_irrefl _)
    have above : z.level ≠ .clear := fun clear => moved (high (.inl clear)).1
    have low : d.risk < z.cfg.fallLimit z.level := Nat.not_le.mp fun h => moved (high (.inr h)).1
    have due : z.cfg.dwell ≤ z.dwell + 1 := Nat.not_lt.mp fun h => moved (short above low h).1
    obtain ⟨-, falls, held⟩ := reached above low due
    have free : z.highestFloor.rank ≤ z.level.below.rank := Nat.not_lt.mp fun h => moved (held h)
    have level : (z.delivered d s.wrl.nextSeq).level = z.level.below := falls free
    exact ⟨level, due, low, by rwa [level]⟩

end Sys2Proof.Machine

/-! # The state after POWER (R55, R120, R137, R154, R177, R184) -/

namespace Sys2Proof.Machine

/-- No notice waits at a port after POWER (R183). -/
theorem PortState.afterPower_queueOk : PortState.afterPower.QueueOk :=
  ⟨Nat.zero_le _, List.Pairwise.nil, fun _ hx => absurd hx List.not_mem_nil, List.Pairwise.nil⟩

/-- MARK POWER_UP alone is recorded, as entry 1 (R187). -/
theorem Wrl.afterPower_recordOk : Wrl.afterPower.RecordOk := ⟨le_rfl, by decide, rfl, trivial⟩

/-- The pending set is FREE after POWER (R169). -/
theorem Cau.afterPower_setOk : Cau.afterPower.SetOk := ⟨List.Pairwise.nil, Nat.zero_le _, rfl, rfl, rfl, rfl⟩

theorem Line.afterPower_lineOk (n : Nat) : (Line.afterPower n).LineOk := by
  simp [Line.LineOk, Line.afterPower]

/-- Every line is OFF after POWER (R151). -/
theorem State.reset_linesOk : State.reset.LinesOk := by
  refine ⟨rfl, fun l hl => ?_⟩
  obtain ⟨i, -, rfl⟩ := List.mem_map.mp hl
  exact Line.afterPower_lineOk _

/-- Settles O4: each block's reset state meets the block's invariant. -/
theorem resetMeetsTheInvariants : Obligations.ResetMeetsTheInvariants :=
  ⟨⟨PortState.afterPower_queueOk, PortState.afterPower_queueOk, PortState.afterPower_queueOk⟩, State.reset_floorsOk,
    Wrl.afterPower_recordOk, Cau.afterPower_setOk, State.reset_linesOk, State.reset_loopOk, State.reset_tablesOk,
    State.reset_gustsOk⟩

end Sys2Proof.Machine

/-! # The line records stay as R137 and R143 have them -/

namespace Sys2Proof.Machine

/-! ## One line (R137, R139 to R145) -/

section
variable {l : Line} (o : Oda) (now : Time)

/-- A line that follows changes its state and its drive start alone (R139). -/
theorem Line.follow_fields (l : Line) :
    l.follow o now = { l with state := (l.follow o now).state, driveStart := (l.follow o now).driveStart } := by
  unfold Line.follow
  split
  · split <;> rfl
  · split <;> rfl
  · rfl
  · rfl

@[simp] theorem Line.follow_line (l : Line) : (l.follow o now).line = l.line := by rw [Line.follow_fields]

@[simp] theorem Line.shorted_line (clock : Seconds) (l : Line) : (l.shorted clock).line = l.line := by
  unfold Line.shorted
  split <;> rfl

@[simp] theorem Line.resume_line (l : Line) : (l.resume o now).line = l.line := by
  unfold Line.resume
  split <;> rfl

@[simp] theorem Line.cleanTick_line (l : Line) : l.cleanTick.line = l.line := by
  unfold Line.cleanTick
  split <;> rfl

@[simp] theorem Line.counted_line (present : Bool) (l : Line) : (l.counted present).line = l.line := by
  unfold Line.counted
  split <;> rfl

/-- A line at a phase change of a generator (R138, R139). -/
def Line.atPhase (g : Generator) (l : Line) : Line := if l.demand = generatorDemand g then l.follow o now else l

@[simp] theorem Line.atPhase_line (g : Generator) (l : Line) : (l.atPhase o now g).line = l.line := by
  unfold Line.atPhase
  split
  · exact Line.follow_line ..
  · rfl

/-- A latched line that is cleared takes the demand in force with its counts at 0 (R146). -/
def Line.cleared (l : Line) : Line := Line.resume o now { l with short := 0, clean := 0 }

@[simp] theorem Line.cleared_line (l : Line) : (l.cleared o now).line = l.line := Line.resume_line ..

theorem Line.LineOk.follow (h : l.LineOk) : (l.follow o now).LineOk := by
  obtain ⟨drives, waits, latched, rest⟩ := h
  unfold Line.follow
  split
  · rename_i off
    simp only [off, reduceCtorEq, false_iff, iff_false] at drives waits latched
    split
    · exact ⟨by simp, by simpa using waits, by simpa using latched, rest⟩
    · exact ⟨by simp [off], by simpa [off] using waits, by simpa [off] using latched, rest⟩
  · rename_i on
    simp only [on, reduceCtorEq, false_iff, iff_false] at waits latched
    split
    · exact ⟨drives, by simpa [on] using waits, by simpa [on] using latched, rest⟩
    · exact ⟨by simp, by simpa using waits, by simpa using latched, rest⟩
  · exact ⟨drives, waits, latched, rest⟩
  · exact ⟨drives, waits, latched, rest⟩

theorem Line.LineOk.setDemand (h : l.LineOk) (d : Demand) : (l.setDemand o now d).LineOk := by
  unfold Line.setDemand
  split
  · exact h
  · exact Line.LineOk.follow (l := { l with demand := d }) o now h

theorem Line.LineOk.atPhase (h : l.LineOk) (g : Generator) : (l.atPhase o now g).LineOk := by
  unfold Line.atPhase
  split
  · exact h.follow ..
  · exact h

/-- The short that latches a driving line is its 8th (R140). -/
theorem Line.LineOk.shorted (h : l.LineOk) (on : l.state = .on) (clock : Seconds) : (l.shorted clock).LineOk := by
  obtain ⟨-, -, latched, most, -, miss, present⟩ := h
  have below : l.short ≠ 8 := fun e => by simpa [on] using latched.mpr e
  unfold Line.shorted
  split
  · exact ⟨by simp, by simp, by simp; omega, by dsimp only; omega, Nat.zero_le _, miss, present⟩
  · exact ⟨by simp, by simp, by simp; omega, by dsimp only; omega, Nat.zero_le _, miss, present⟩

/-- A line resumes with less than 8 shorts: at the end of a retry it is not latched, and CLEAR LINE takes its count to
0 (R141, R146). -/
theorem Line.resume_lineOk (short : l.short < 8) (clean : l.clean ≤ 10) (miss : l.openMiss ≤ 3)
    (present : l.openPresent ≤ 3) : (l.resume o now).LineOk := by
  unfold Line.resume
  split
  · exact ⟨by simp, by simp, by simp; omega, short.le, clean, miss, present⟩
  · exact ⟨by simp, by simp, by simp; omega, short.le, clean, miss, present⟩

theorem Line.LineOk.cleared (h : l.LineOk) : (l.cleared o now).LineOk := by
  obtain ⟨-, -, -, -, -, miss, present⟩ := h
  exact Line.resume_lineOk (l := { l with short := 0, clean := 0 }) o now (by simp) (by simp) miss present

/-- A line that counts a clean second is engaged, and so not latched (R142). -/
theorem Line.LineOk.cleanTick (h : l.LineOk) : l.cleanTick.LineOk := by
  unfold Line.cleanTick
  split
  · rename_i engaged
    obtain ⟨drives, waits, latched, most, -, open_⟩ := h
    have free : l.state ≠ .latched := fun e => by simp [Line.engaged, e] at engaged
    have below : l.short ≠ 8 := fun e => free (latched.mpr e)
    refine ⟨drives, waits, ?_, ?_, countTo_le .., open_⟩
    · dsimp only
      split <;> simp [free, below]
    · dsimp only
      split <;> omega
  · exact h

theorem Line.LineOk.counted (h : l.LineOk) (present : Bool) : (l.counted present).LineOk := by
  obtain ⟨drives, waits, latched, short, clean, -, -⟩ := h
  unfold Line.counted
  split
  · exact ⟨drives, waits, latched, short, clean, Nat.zero_le _, countTo_le ..⟩
  · exact ⟨drives, waits, latched, short, clean, countTo_le .., Nat.zero_le _⟩

end

/-! ## All the lines -/

section
variable {s t u : State} {n : Nat} {l : Line}

/-- The line records are in order after an operation if they were before it. -/
structure LinesKept (s t : State) : Prop where
  ok : s.LinesOk → t.LinesOk

theorem LinesKept.trans (h : LinesKept s t) (k : LinesKept t u) : LinesKept s u := ⟨fun ok => k.ok (h.ok ok)⟩

/-- An operation that leaves the lines. -/
theorem LinesKept.ofOda (h : t.oda = s.oda) : LinesKept s t := ⟨fun ok => by rwa [State.LinesOk, h]⟩

/-- An operation whose changes do not reach the ODA. -/
theorem KeepsBut.linesKept {ps : List Part} (k : KeepsBut ps s t) (h : Part.oda ∉ ps := by decide) : LinesKept s t :=
  .ofOda (k.oda h)

theorem LinesKept.foldl {α : Type} {f : State → α → State} (h : ∀ s a, LinesKept s (f s a)) (l : List α)
    (s : State) : LinesKept s (l.foldl f s) :=
  ⟨foldl_holds (fun s a => (h s a).ok) l⟩

theorem State.LinesOk.sorted (h : s.LinesOk) : s.oda.lines.Pairwise (fun x y => x.line < y.line) :=
  List.pairwise_map.mp (h.1 ▸ by decide)

theorem State.LinesOk.line (h : s.LinesOk) (hl : s.line n = some l) : l.LineOk := h.2 l (findKey_mem hl).1

/-- A change of one line that leaves it in order. -/
theorem State.LinesOk.updLine (h : s.LinesOk) {f : Line → Line} (number : ∀ l, (f l).line = l.line)
    (ok : ∀ l, s.line n = some l → l.LineOk → (f l).LineOk) : (s.updLine n f).LinesOk := by
  have numbers : (s.updLine n f).oda.lines.map (fun l => l.line) = s.oda.lines.map (fun l => l.line) :=
    map_updateKey f number n _
  have sorted : (s.updLine n f).oda.lines.Pairwise (fun x y => x.line < y.line) := by
    have before := List.pairwise_map.mpr h.sorted
    rw [← numbers] at before
    exact (List.pairwise_map (f := fun l : Line => l.line)).mp before
  refine ⟨numbers.trans h.1, fun l hl => ?_⟩
  have found : (s.updLine n f).line l.line = some l := findKey_of_mem (key := fun l : Line => l.line) sorted hl
  rw [State.line_updLine s n l.line f number] at found
  split at found
  · rename_i same
    obtain ⟨x, hx, rfl⟩ := Option.map_eq_some_iff.mp found
    exact ok x (same ▸ hx) (h.line hx)
  · exact h.line found

/-- A change of every line that leaves each in order. -/
theorem State.LinesOk.mapLines (h : s.LinesOk) {f : Line → Line} (number : ∀ l, (f l).line = l.line)
    (ok : ∀ l, l.LineOk → (f l).LineOk) (lines : t.oda.lines = s.oda.lines.map f) : t.LinesOk := by
  refine ⟨?_, fun l hl => ?_⟩
  · rw [lines, List.map_map, ← h.1]
    exact List.map_congr_left fun l _ => number l
  · rw [lines] at hl
    obtain ⟨x, hx, rfl⟩ := List.mem_map.mp hl
    exact ok x (h.2 x hx)

end

section
variable (s : State) (n : Nat)

/-! ## The output demand (R129, R139) -/

theorem State.demandLine_linesKept (d : Demand) : LinesKept s (s.demandLine n d) :=
  ⟨fun h => h.updLine (Line.setDemand_line s.oda s.now d) fun _ _ hl => hl.setDemand ..⟩

theorem State.deriveDemand_linesKept : LinesKept s (s.deriveDemand n) := by
  unfold State.deriveDemand
  split
  · exact .ofOda rfl
  · refine LinesKept.trans ?_ (State.demandLine_linesKept ..)
    exact (State.updZone_keeps ..).linesKept.trans (State.demandLine_linesKept ..)

/-! ## The zones (R115 to R134) -/

theorem State.actOn_linesKept (f : Zone → Zone) (action : Action) (event : LevelEvent) :
    LinesKept s (s.actOn n f action event) :=
  ((State.updZone_keeps ..).linesKept.trans (State.record_keeps ..).linesKept).trans
    ((State.raiseZone_keeps ..).linesKept.trans (State.deriveDemand_linesKept ..))

theorem State.putService_linesKept (v : Service) : LinesKept s (s.putService n v) := by
  rw [State.putService_eq]
  exact s.actOn_linesKept ..

theorem State.expireSilence_linesKept : LinesKept s (s.expireSilence n) := by
  unfold State.expireSilence
  split
  · exact .ofOda rfl
  · split
    · exact .ofOda rfl
    · exact (State.reach_keeps ..).linesKept.trans (State.actOn_linesKept ..)

theorem State.completeTest_linesKept : LinesKept s (s.completeTest n) := by
  unfold State.completeTest
  split
  · exact .ofOda rfl
  · split
    · exact .ofOda rfl
    · exact (State.reach_keeps ..).linesKept.trans (State.actOn_linesKept ..)

theorem State.silenceZone_linesKept (port : Port) : LinesKept s (s.silenceZone port n) := by
  unfold State.silenceZone
  split
  · exact .ofOda rfl
  · split
    · exact (State.updZone_keeps ..).linesKept.trans
        ((State.deriveDemand_linesKept ..).trans (State.raiseZone_keeps ..).linesKept)
    · exact .ofOda rfl

theorem State.restartZones_linesKept : LinesKept s s.restartZones := by
  have changed : LinesKept s { s with zwc.zones := s.zwc.zones.map Zone.restarted } := .ofOda rfl
  exact changed.trans (.foldl (fun t n => t.deriveDemand_linesKept n) _ _)

theorem State.deliverRisk_linesKept (d : Delivery) : LinesKept s (s.deliverRisk d) :=
  ((State.updZone_keeps ..).linesKept.trans (State.decideLevel_keeps ..).linesKept).trans
    (State.deriveDemand_linesKept ..)

theorem State.setFloor_linesKept (role : Port) (l : Level) (minutes : Nat) :
    LinesKept s (s.setFloor n role l minutes) := by
  cases hz : s.zone n with
  | none => exact .ofOda (by rw [State.setFloor, hz])
  | some z =>
    have settled := State.floorSettled_noticed hz role l minutes
    have before := (s.floorRecorded_keeps n role l minutes).linesKept.trans settled.keeps.linesKept
    unfold State.setFloor
    rw [hz]
    exact before.trans (State.deriveDemand_linesKept ..)

theorem State.applyZone_linesKept (c : ZoneCfg) : LinesKept s (s.applyZone c) := by
  unfold State.applyZone
  split
  · exact (State.updZone_keeps ..).linesKept
  · have created : LinesKept s
        { s with zwc.zones := insertKey (fun z => z.cfg.zone) (Zone.created c) s.zwc.zones } := .ofOda rfl
    exact created.trans ((State.judgeDark_keeps ..).linesKept.trans (State.deriveDemand_linesKept ..))

theorem State.dropZone_linesKept : LinesKept s (s.dropZone n) := by
  unfold State.dropZone
  split
  · exact .ofOda rfl
  · refine LinesKept.trans ?_ (State.demandLine_linesKept ..)
    refine LinesKept.trans (.ofOda ?_) (State.demandLine_linesKept ..)
    dsimp only
    split <;> rfl

/-! ## The events of the lines (R140 to R146) -/

theorem State.faultReport_linesKept : LinesKept s (s.faultReport n) := (State.faultReport_keeps ..).linesKept

theorem State.raiseLine_linesKept (cls : NoticeClass) (event : LineEvent) : LinesKept s (s.raiseLine cls event n) :=
  (State.raiseLine_keeps ..).linesKept

theorem State.shortLine_linesKept : LinesKept s (s.shortLine n) := by
  unfold State.shortLine
  split
  · exact .ofOda rfl
  · rename_i l hl
    split
    · rename_i on
      have shorted : LinesKept s (s.updLine n (Line.shorted s.seconds)) := by
        refine ⟨fun h => h.updLine (Line.shorted_line s.seconds) fun x hx ok => ?_⟩
        cases hl.symm.trans hx
        exact ok.shorted on _
      dsimp only
      split
      · exact shorted
      · refine LinesKept.trans ?_ (State.raiseLine_linesKept ..)
        split
        · exact shorted
        · exact shorted.trans (State.faultReport_linesKept ..)
    · exact .ofOda rfl

theorem State.endRetry_linesKept : LinesKept s (s.endRetry n) := by
  unfold State.endRetry
  split
  · exact .ofOda rfl
  · rename_i l hl
    split
    · rename_i e waits _
      refine (State.reach_keeps (tickTime e) s).linesKept.trans
        ⟨fun h => h.updLine (fun l => l.resume_line ..) fun x hx ok => ?_⟩
      cases hl.symm.trans hx
      obtain ⟨-, -, latched, short, clean, miss, present⟩ := ok
      have below : l.short ≠ 8 := fun e => by simpa [waits] using latched.mpr e
      exact Line.resume_lineOk _ _ (by omega) clean miss present
    · exact .ofOda rfl

theorem State.changePhase_linesKept (g : Generator) : LinesKept s (s.changePhase g) := by
  refine ⟨fun h => h.mapLines (f := Line.atPhase (s.oda.advance g) (s.reach (s.oda.nextPhase g)).now g)
    (fun l => l.atPhase_line ..) (fun _ hl => hl.atPhase ..) ?_⟩
  cases g <;> rfl

theorem State.cleanTick_linesKept : LinesKept s s.cleanTick :=
  ⟨fun h => h.mapLines Line.cleanTick_line (fun _ hl => hl.cleanTick) rfl⟩

theorem State.putOpen_linesKept (v : Bool) : LinesKept s (s.putOpen n v) := by
  have flagged : LinesKept s (s.updLine n (fun l => { l with openFlag := v })) :=
    ⟨fun h => h.updLine (fun _ => rfl) fun _ _ hl => hl⟩
  have reported := flagged.trans (State.faultReport_linesKept _ n)
  unfold State.putOpen
  dsimp only
  split
  · exact reported.trans (State.raiseLine_linesKept ..)
  · exact reported.trans (State.raiseLine_linesKept ..)

theorem State.checkLine_linesKept (sense : BitVec 32) : LinesKept s (s.checkLine sense n) := by
  have counted : LinesKept s (s.updLine n (Line.counted (sense.getLsbD (n - 1)))) :=
    ⟨fun h => h.updLine (Line.counted_line _) fun _ _ hl => hl.counted _⟩
  unfold State.checkLine
  split
  · exact .ofOda rfl
  · split
    · dsimp only
      split
      · exact counted.trans (State.putOpen_linesKept ..)
      · split
        · exact counted.trans (State.putOpen_linesKept ..)
        · exact counted
    · exact .ofOda rfl

theorem State.checkLines_linesKept (sense : BitVec 32) : LinesKept s (s.checkLines sense) := by
  have counted : LinesKept s { s.reach s.oda.nextCheck with
      oda.checks := (s.reach s.oda.nextCheck).oda.checks + 1 } := ⟨id⟩
  exact counted.trans (.foldl (fun t n => t.checkLine_linesKept n sense) _ _)

theorem State.clearLatch_linesKept (openFlag : Bool) : LinesKept s (s.clearLatch n openFlag) := by
  have cleared : LinesKept s (s.updLine n (Line.cleared s.oda s.now)) :=
    ⟨fun h => h.updLine (fun l => l.cleared_line ..) fun _ _ hl => hl.cleared ..⟩
  have noticed := (cleared.trans (State.record_keeps (.action (.lineClear n) .q) _).linesKept).trans
    (State.raiseLine_linesKept _ n .routine .latchCleared)
  unfold State.clearLatch
  dsimp only
  split
  · exact noticed
  · exact noticed.trans (State.faultReport_linesKept ..)

end

/-! ## The round close (R107, R163) -/

section
variable (s : State)

theorem State.assess_linesKept : LinesKept s s.assess := by
  have results : LinesKept s s.beforeZones.assessZones :=
    s.beforeZones_keeps.linesKept.trans (State.assessZones_keeps _).linesKept
  exact results.trans (.foldl (fun t r => t.deliverRisk_linesKept _) _ _)

theorem State.applyOut_linesKept (x : Item) : LinesKept s (s.applyOut x) := by
  cases x with
  | remove k =>
    cases k with
    | station n => exact (State.dropStation_keeps n s).linesKept.trans (State.changeOccupant_keeps ..).linesKept
    | pile n => exact (State.dropPile_keeps n s).linesKept.trans (State.dropWind_keeps ..).linesKept
    | zone n => exact (s.dropZone_linesKept n).trans (State.dropZoneResult_keeps ..).linesKept
    | path p z => exact (State.dropPath_keeps ..).linesKept
    | site => exact .ofOda rfl
  | _ => exact .ofOda rfl

theorem State.applyPut_linesKept (x : Item) : LinesKept s (s.applyPut x) := by
  cases x with
  | remove k => exact .ofOda rfl
  | station c => exact (State.applyStation_keeps c s).linesKept.trans (State.changeOccupant_keeps ..).linesKept
  | pile c => exact (State.applyPile_keeps c s).linesKept.trans (State.applyWind_keeps ..).linesKept
  | zone c => exact (s.applyZone_linesKept c).trans (State.applyZoneResult_keeps ..).linesKept
  | path c => exact (State.applyPath_keeps ..).linesKept
  | site p => exact .ofOda rfl

theorem State.applySet_linesKept : LinesKept s s.applySet := by
  have items : LinesKept s (s.applyItems s.cau.items) :=
    LinesKept.trans (.foldl State.applyOut_linesKept _ _) (.foldl State.applyPut_linesKept _ _)
  unfold State.applySet
  split
  · split
    · exact (State.freeSet_keeps ..).linesKept
    · exact items.trans ((State.record_keeps ..).linesKept.trans (State.freeSet_keeps ..).linesKept)
  · exact .ofOda rfl
  · exact .ofOda rfl
  · exact .ofOda rfl

theorem State.closeRound_linesKept : LinesKept s s.closeRound := by
  unfold State.closeRound
  split
  · exact .ofOda rfl
  · rename_i p _
    split
    · have begun : LinesKept s (s.atClose p) := .ofOda rfl
      have closed : LinesKept (s.atClose p).applySet (s.atClose p).applySet.closeLoop.closeWind.closeSite :=
        (State.closeLoop_keeps _).linesKept.trans
          ((State.closeWind_keeps _).linesKept.trans (State.closeSite_keeps _).linesKept)
      exact begun.trans ((State.applySet_linesKept _).trans (closed.trans (State.assess_linesKept _)))
    · exact .ofOda rfl

end

/-! ## The commands of the masters -/

section
variable (a : Asked) (s : State)

theorem State.reply_linesKept (r : Result) (units : List (List Byte)) : LinesKept s (s.reply a r units) := .ofOda rfl

theorem State.replyRange_linesKept (index : Nat) : LinesKept s (s.replyRange a index) := .ofOda rfl

theorem floorCommand_linesKept (zone level : Byte) (minutes : BitVec 16) :
    LinesKept s (floorCommand zone level minutes a s) := by
  unfold floorCommand
  split
  · split
    · exact s.replyRange_linesKept a ..
    · split
      · exact s.reply_linesKept a ..
      · split
        · exact s.reply_linesKept a ..
        · split
          · exact (State.endFloor_keeps ..).linesKept.trans (State.reply_linesKept ..)
          · exact (State.setFloor_linesKept ..).trans (State.reply_linesKept ..)
  · exact s.replyRange_linesKept a ..

theorem ackAlertCommand_linesKept (zone : Byte) : LinesKept s (ackAlertCommand zone a s) := by
  unfold ackAlertCommand
  split
  · split
    · exact s.reply_linesKept a ..
    · split
      · exact (State.actOn_linesKept ..).trans (State.reply_linesKept ..)
      · exact s.reply_linesKept a ..
  · exact s.replyRange_linesKept a ..

theorem silenceCommand_linesKept (zone : Byte) (minutes : BitVec 16) :
    LinesKept s (silenceCommand zone minutes a s) := by
  unfold silenceCommand
  split
  · split
    · exact s.reply_linesKept a ..
    · exact (State.actOn_linesKept ..).trans (State.reply_linesKept ..)
  · exact s.replyRange_linesKept a ..

theorem serviceCommand_linesKept (zone state : Byte) : LinesKept s (serviceCommand zone state a s) := by
  unfold serviceCommand
  split
  · split
    · exact s.replyRange_linesKept a ..
    · split
      · exact s.reply_linesKept a ..
      · split
        · exact s.reply_linesKept a ..
        · exact (State.putService_linesKept ..).trans (State.reply_linesKept ..)
  · exact s.replyRange_linesKept a ..

theorem testCommand_linesKept (zone : Byte) : LinesKept s (testCommand zone a s) := by
  unfold testCommand
  split
  · split
    · exact s.reply_linesKept a ..
    · split
      · exact (State.actOn_linesKept ..).trans (State.reply_linesKept ..)
      · exact s.reply_linesKept a ..
  · exact s.replyRange_linesKept a ..

theorem clearLineCommand_linesKept (line : Byte) : LinesKept s (clearLineCommand line a s) := by
  unfold clearLineCommand
  split
  · split
    · exact s.replyRange_linesKept a ..
    · split
      · exact (State.clearLatch_linesKept ..).trans (State.reply_linesKept ..)
      · exact s.reply_linesKept a ..
  · exact s.replyRange_linesKept a ..

/-- RESTART keeps the line records but for the demands (R150). -/
theorem restartCommand_linesKept : LinesKept s (restartCommand a s) := by
  have marked : LinesKept s (s.restartLoop.markRestart a.port) :=
    (State.restartLoop_keeps s).linesKept.trans (State.markRestart_keeps ..).linesKept
  have before : ∀ t : State, LinesKept t t.restartStations.restartWind.restartSite.restartRisk := fun t =>
    ((State.restartStations_keeps t).linesKept.trans (State.restartWind_keeps _).linesKept).trans
      ((State.restartSite_keeps _).linesKept.trans (State.restartRisk_keeps _).linesKept)
  have blocks : ∀ t : State, LinesKept t t.restartBlocks := fun t =>
    (before t).trans ((State.restartZones_linesKept _).trans (State.restartSet_keeps _).linesKept)
  exact marked.trans ((State.reply_linesKept ..).trans (blocks _))

/-- The commands on zones, CLEAR LINE and RESTART reach the lines, and each leaves them in order. -/
theorem runCommand_linesKept (c : Command) : LinesKept s (runCommand c a s) := by
  cases c with
  | floor => exact floorCommand_linesKept ..
  | ackAlert => exact ackAlertCommand_linesKept ..
  | silence => exact silenceCommand_linesKept ..
  | service => exact serviceCommand_linesKept ..
  | test => exact testCommand_linesKept ..
  | clearLine => exact clearLineCommand_linesKept ..
  | restart => exact restartCommand_linesKept ..
  | ackLoss => exact (ackLossCommand_keeps ..).linesKept
  | reportWetting => exact (reportWettingCommand_keeps ..).linesKept
  | reportActivity => exact (reportActivityCommand_keeps ..).linesKept
  | stage => exact (stageCommand_keeps ..).linesKept
  | discard => exact (discardCommand_keeps ..).linesKept
  | propose => exact (proposeCommand_keeps ..).linesKept
  | accept => exact (acceptCommand_keeps ..).linesKept
  | refuse => exact (refuseCommand_keeps ..).linesKept
  | status => exact (statusCommand_keeps ..).linesKept
  | readZone => exact (readZoneCommand_keeps ..).linesKept
  | readPile => exact (readPileCommand_keeps ..).linesKept
  | readStations => exact (readStationsCommand_keeps ..).linesKept
  | readStrangers => exact (readStrangersCommand_keeps ..).linesKept
  | readGusts => exact (readGustsCommand_keeps ..).linesKept
  | readPaths => exact (readPathsCommand_keeps ..).linesKept
  | readConfigItem => exact (readConfigItemCommand_keeps ..).linesKept
  | readLoop => exact (readLoopCommand_keeps ..).linesKept
  | readLogNext => exact (readLogNextCommand_keeps ..).linesKept
  | readLogAt => exact (readLogAtCommand_keeps ..).linesKept

theorem judgeCommand_linesKept (c : Option Command) : LinesKept s (judgeCommand c a s) := by
  rcases judgeCommand_cases a s c with ⟨r, e⟩ | ⟨x, _, e⟩
  · rw [e]; exact s.reply_linesKept a ..
  · rw [e]; exact runCommand_linesKept ..

end

/-! ## The ports (R172, R173, R180) and the events -/

section
variable (s : State) (port : Port)

theorem State.issue_linesKept (tag : Byte) (c : Command) : LinesKept s (s.issue port tag c) := by
  rw [State.issue_eq]
  exact (State.held_keeps ..).linesKept.trans (judgeCommand_linesKept ..)

theorem State.takeContent_linesKept (content : List Byte) (releases : Bool) :
    LinesKept s (s.takeContent port content releases) := by
  unfold State.takeContent
  split
  · exact State.reply_linesKept ..
  · exact judgeCommand_linesKept ..

theorem State.updPort_linesKept (f : PortState → PortState) : LinesKept s (s.updPort port f) := .ofOda rfl

theorem State.holdContent_linesKept (content : List Byte) : LinesKept s (s.holdContent port content) := by
  unfold State.holdContent
  split
  · exact (State.updPort_linesKept ..).trans (State.takeContent_linesKept ..)
  · exact State.updPort_linesKept ..
  · exact State.updPort_linesKept ..

theorem State.receiveFrame_linesKept (bytes : List Byte) (e : Bool) : LinesKept s (s.receiveFrame port bytes e) := by
  unfold State.receiveFrame State.judgeFrame
  split
  · exact (State.openFrame_keeps ..).linesKept
  · dsimp only
    split
    · exact s.updPort_linesKept ..
    · exact (s.updPort_linesKept ..).trans
        ((State.restartWatch_keeps ..).linesKept.trans (State.holdContent_linesKept ..))

theorem State.completeFrame_linesKept : LinesKept s (s.completeFrame port) := by
  unfold State.completeFrame
  split
  · exact .ofOda rfl
  · rename_i x _
    have sent : ∀ f, LinesKept s ((s.reach x.ends).updPort port f) := fun _ => .ofOda rfl
    dsimp only
    split
    · unfold State.releaseHolding
      dsimp only
      split
      · exact (sent _).trans (State.updPort_linesKept ..)
      · exact (sent _).trans ((State.updPort_linesKept ..).trans (State.takeContent_linesKept ..))
    · exact sent _

theorem State.expireWatch_linesKept : LinesKept s (s.expireWatch port) := by
  unfold State.expireWatch
  split
  · exact .ofOda rfl
  · unfold State.silenceMaster
    refine LinesKept.trans ?_ (State.silenceSet_keeps ..).linesKept
    refine LinesKept.trans ?_ (State.silencePiles_keeps ..).linesKept
    refine LinesKept.trans (.ofOda ?_) (.foldl (fun t n => t.silenceZone_linesKept n port) _ _)
    rfl

variable {s} {t u : State}

theorem State.LinesOk.ofNext (h : s.LinesOk) (he : (.next u : Host.Outcome State Fault Refusal) = .next t)
    (hu : LinesKept s u) : t.LinesOk := by
  cases he
  exact hu.ok h

/-- Every command keeps the line records: the events of the lines, and what changes a zone's demand, reach them. -/
theorem exec_linesOk (i : Instr) (h : s.LinesOk) (he : exec i s = .next t) : t.LinesOk := by
  cases i
  case power => cases he; exact State.reset_linesOk
  case short n => exact h.ofNext he (s.shortLine_linesKept n)
  case retryWaitEnd n => exact h.ofNext he (s.endRetry_linesKept n)
  case patternPhaseChange g => exact h.ofNext he (s.changePhase_linesKept g)
  case cleanCountTick => exact h.ofNext he s.cleanTick_linesKept
  case lineCheck sense => exact h.ofNext he (s.checkLines_linesKept sense)
  case roundClose => exact h.ofNext he s.closeRound_linesKept
  case silenceExpiry n => exact h.ofNext he (s.expireSilence_linesKept n)
  case testEnd n => exact h.ofNext he (s.completeTest_linesKept n)
  case masterSilenceExpiry port => exact h.ofNext he (s.expireWatch_linesKept port)
  case portFrame port bytes e => exact h.ofNext he (s.receiveFrame_linesKept port bytes e)
  case transmitComplete port => exact h.ofNext he (s.completeFrame_linesKept port)
  case floorExpiry n role => exact h.ofNext he (State.expireFloor_keeps n role s).linesKept
  case listenPeriodEnd => exact h.ofNext he (State.endListen_keeps s).linesKept
  case foreignBeaconHeard => exact h.ofNext he (State.hearForeign_keeps s).linesKept
  case backOffEnd => exact h.ofNext he (State.endBackOff_keeps s).linesKept
  case roundStart => exact h.ofNext he (State.startRound_keeps s).linesKept
  case phaseBOut => exact h.ofNext he (State.startPhaseB_keeps s).linesKept
  case loopCopy side w e bytes => exact h.ofNext he (State.takeCopy_keeps side w e bytes s).linesKept
  case slotEnd n => exact h.ofNext he (State.endSlot_keeps n s).linesKept
  case idleExpiry => exact h.ofNext he (State.expireIdle_keeps s).linesKept
  case proposalExpiry => exact h.ofNext he (State.expireProposal_keeps s).linesKept
  case portFrameTimeout port => exact h.ofNext he (State.timeoutFrame_keeps port s).linesKept
  case portOpeningFlag port => exact h.ofNext he (State.openFrame_keeps port s).linesKept
  case portFrameOverlength port => exact h.ofNext he (State.discardLong_keeps port s).linesKept
  all_goals exact h.ofNext he (s.issue_linesKept ..)

end

/-- Settles O56: every command keeps the line records in order. -/
theorem stepKeepsTheLines : Obligations.StepKeepsTheLines :=
  fun _ _ h hstep => step_keeps (fun _ _ h => h) (fun i _ _ h he => exec_linesOk i h he) h hstep

end Sys2Proof.Machine

/-! # The events of the output lines (R138 to R149) -/

namespace Sys2Proof.Machine

/-! ## One line changes, with its notice (R148) -/

/-- Line `n` stands as `l` after an operation, and every other line as before. -/
structure LineBecomes (n : Nat) (l : Line) (s t : State) : Prop where
  line : t.line n = some l
  others : LinesBut [n] s t

/-- Line `n` stands as `l` after an operation that raises the LINE notice of it; of the parts of the state only those
listed, the lines and the ports have changed. -/
structure LineNoticed (ps : List Part) (n : Nat) (l : Line) (cls : NoticeClass) (event : LineEvent) (s t : State) :
    Prop where
  becomes : LineBecomes n l s t
  keeps : KeepsBut (.oda :: .pif :: ps) s t
  pif : t.pif = (s.raise cls (.line (l.notice s.seconds event))).pif

section
variable {ps : List Part} {s t u : State} {n : Nat} {l l' : Line} {cls : NoticeClass} {event : LineEvent}

theorem LineBecomes.trans (h : LineBecomes n l s t) (k : LineBecomes n l' t u) : LineBecomes n l' s u :=
  ⟨k.line, fun m hm => (k.others m hm).trans (h.others m hm)⟩

/-- An operation that leaves the lines. -/
theorem LineBecomes.ofOda (h : t.oda = s.oda) (hl : s.line n = some l) : LineBecomes n l s t :=
  ⟨(State.line_congr h n).trans hl, fun m _ => State.line_congr h m⟩

theorem State.updLine_becomes (hl : s.line n = some l) (f : Line → Line) (hf : ∀ l, (f l).line = l.line) :
    LineBecomes n (f l) s (s.updLine n f) where
  line := by rw [State.line_updLine s n n f hf, if_pos rfl, hl]; rfl
  others := fun m hm => by rw [State.line_updLine s n m f hf, if_neg (List.ne_of_not_mem_cons hm)]

theorem State.raiseLine_eq (hl : s.line n = some l) (cls : NoticeClass) (event : LineEvent) :
    s.raiseLine cls event n = s.raise cls (.line (l.notice s.seconds event)) := by
  rw [State.raiseLine, hl]

theorem State.raiseLine_noticed (ps : List Part) (hl : s.line n = some l) (cls : NoticeClass) (event : LineEvent) :
    LineNoticed ps n l cls event s (s.raiseLine cls event n) := by
  rw [State.raiseLine_eq hl]
  exact ⟨.ofOda rfl hl, (State.raise_keeps ..).mono (by simp), rfl⟩

/-- The change of the line, and entries about it, before the notice. -/
theorem LineNoticed.after (h : LineNoticed ps n l cls event t u) (before : LineBecomes n l s t)
    (keeps : KeepsBut (.oda :: ps) s t) (now : Part.now ∉ Part.oda :: ps := by decide)
    (pif : Part.pif ∉ Part.oda :: ps := by decide) : LineNoticed ps n l cls event s u where
  becomes := before.trans h.becomes
  keeps := (keeps.mono (List.cons_subset_cons _ (List.subset_cons_self ..))).trans h.keeps
  pif := by
    have clock : t.seconds = s.seconds := congrArg (· / 1000000) (keeps.now now)
    rw [h.pif, clock]
    exact State.raise_pif_congr _ _ (keeps.pif pif) (keeps.now now)

end

/-! ## DARK, judged at a fault report (R130, R147) -/

/-- DARK of zone `k` is judged anew: where the zone is configured, it is DARK just while both of its lines are faulty,
and a notice tells of a change. -/
structure DarkJudged (k : Nat) (s t : State) : Prop where
  keeps : KeepsBut [.zwc, .pif] s t
  others : ZonesBut k s t
  absent : s.zone k = none → t = s
  zone : ∀ z, s.zone k = some z → t.zone k = some { z with dark := s.bothFaulty k }
  pif : ∀ z, s.zone k = some z → t.pif = (s.darkNoticed z (s.bothFaulty k)).pif

section
variable {s t : State} (k : Nat)

theorem State.bothFaulty_congr (h : t.oda = s.oda) : t.bothFaulty k = s.bothFaulty k := by
  simp only [State.bothFaulty, State.lineFaulty, State.line_congr h]

theorem State.darkNoticed_now (s : State) (z : Zone) (dark : Bool) : (s.darkNoticed z dark).now = s.now :=
  (s.darkNoticed_spec z dark).1.now (by decide)

/-- The notice of DARK depends on the ports and the clock alone. -/
theorem State.darkNoticed_pif_congr (z : Zone) (dark : Bool) (hp : s.pif = t.pif) (hn : s.now = t.now) :
    (s.darkNoticed z dark).pif = (t.darkNoticed z dark).pif := by
  have clock : s.seconds = t.seconds := congrArg (· / 1000000) hn
  unfold State.darkNoticed
  split
  · exact hp
  · rw [clock]
    exact State.raise_pif_congr _ _ hp hn

end

theorem State.judgeDark_absent {s : State} {k : Nat} (hz : s.zone k = none) : s.judgeDark k = s := by
  rw [State.judgeDark, hz]

section
variable {s : State} {k : Nat} {z : Zone} (hz : s.zone k = some z)
include hz

theorem State.judgeDark_same (same : z.dark = s.bothFaulty k) : s.judgeDark k = s := by
  rw [State.judgeDark, hz]
  dsimp only
  rw [same]
  cases s.bothFaulty k <;> rfl

theorem State.judgeDark_changes (change : z.dark ≠ s.bothFaulty k) :
    s.judgeDark k =
      (s.updZone k (fun z => { z with dark := s.bothFaulty k })).raiseZone
        (if s.bothFaulty k then .urgent else .routine) .dark k := by
  rw [State.judgeDark, hz]
  dsimp only
  rw [Bool.eq_not.mpr change]
  cases s.bothFaulty k <;> rfl

/-- What the judgement makes of a configured zone, whether DARK changes or not. -/
theorem State.judgeDark_configured :
    ZoneBecomes k { z with dark := s.bothFaulty k } s (s.judgeDark k)
      ∧ (s.judgeDark k).pif = (s.darkNoticed z (s.bothFaulty k)).pif := by
  by_cases same : z.dark = s.bothFaulty k
  · rw [State.judgeDark_same hz same, ← same, State.darkNoticed_same]
    exact ⟨.ofZwc rfl hz, rfl⟩
  · have changed := State.updZone_becomes hz (fun z => { z with dark := s.bothFaulty k })
    rw [State.judgeDark_changes hz same, State.raiseZone_eq changed.zone, State.darkNoticed, if_neg same]
    exact ⟨changed.trans (.ofZwc rfl changed.zone), rfl⟩

end

theorem State.judgeDark_judged (s : State) (k : Nat) : DarkJudged k s (s.judgeDark k) := by
  have others : ZonesBut k s (s.judgeDark k) := by
    cases hz : s.zone k with
    | none => rw [State.judgeDark_absent hz]; exact fun _ _ => rfl
    | some z => exact (State.judgeDark_configured hz).1.others
  exact ⟨State.judgeDark_keeps .., others, State.judgeDark_absent, fun _ hz => (State.judgeDark_configured hz).1.zone,
    fun _ hz => (State.judgeDark_configured hz).2⟩

/-! ## A fault report with the notice of its line (R147, R148) -/

/-- Line `n` stands as `l` after an operation that reports it to its zone, which judges DARK anew, and then raises its
LINE notice. -/
structure LineReported (n : Nat) (l : Line) (cls : NoticeClass) (event : LineEvent) (s t : State) : Prop where
  becomes : LineBecomes n l s t
  zones : ZonesBut (zoneOfLine n) s t
  keeps : KeepsBut [.oda, .zwc, .pif] s t
  absent : s.zone (zoneOfLine n) = none →
    t.zwc = s.zwc ∧ t.pif = (s.raise cls (.line (l.notice s.seconds event))).pif
  judged : ∀ z, s.zone (zoneOfLine n) = some z →
    t.zone (zoneOfLine n) = some { z with dark := t.bothFaulty (zoneOfLine n) }
      ∧ t.pif = ((s.darkNoticed z (t.bothFaulty (zoneOfLine n))).raise cls (.line (l.notice s.seconds event))).pif

section
variable {s t u : State} {n : Nat} {l : Line} {cls : NoticeClass} {event : LineEvent}

theorem State.faultReport_raiseLine_reported (hl : s.line n = some l) (cls : NoticeClass) (event : LineEvent) :
    LineReported n l cls event s ((s.faultReport n).raiseLine cls event n) := by
  have report : DarkJudged (zoneOfLine n) s (s.faultReport n) := s.judgeDark_judged _
  have oda := report.keeps.oda (by decide)
  have now := report.keeps.now (by decide)
  have clock : (s.faultReport n).seconds = s.seconds := congrArg (· / 1000000) now
  have both : ∀ note, ((s.faultReport n).raise cls note).bothFaulty (zoneOfLine n) = s.bothFaulty (zoneOfLine n) :=
    fun _ => State.bothFaulty_congr _ oda
  rw [State.raiseLine_eq ((State.line_congr oda n).trans hl), clock]
  refine ⟨.ofOda oda hl, report.others, (State.raise_keeps ..).andThen (by decide) (report.keeps.mono (by decide)),
    fun none => ?_, fun z hz => ⟨?_, ?_⟩⟩
  · rw [report.absent none]
    exact ⟨rfl, rfl⟩
  · rw [both]
    exact report.zone z hz
  · rw [both]
    exact State.raise_pif_congr _ _ (report.pif z hz) (now.trans (s.darkNoticed_now ..).symm)

/-- The change of the line before the report. -/
theorem LineReported.after {y : Line} (h : LineReported n l cls event t u) (before : LineBecomes n y s t)
    (keeps : KeepsBut [.oda] s t) : LineReported n l cls event s u := by
  have zwc := keeps.zwc (by decide)
  have pif := keeps.pif (by decide)
  have now := keeps.now (by decide)
  have clock : t.seconds = s.seconds := congrArg (· / 1000000) now
  have zone : ∀ k, t.zone k = s.zone k := State.zone_congr zwc
  refine ⟨before.trans h.becomes, fun m hm => (h.zones m hm).trans (zone m), (keeps.mono (by decide)).trans h.keeps,
    fun none => ?_, fun z hz => ?_⟩
  · obtain ⟨zwc', pif'⟩ := h.absent ((zone _).trans none)
    refine ⟨zwc'.trans zwc, ?_⟩
    rw [pif', clock]
    exact State.raise_pif_congr _ _ pif now
  · obtain ⟨zone', pif'⟩ := h.judged z ((zone _).trans hz)
    refine ⟨zone', ?_⟩
    rw [pif', clock]
    exact State.raise_pif_congr _ _ (State.darkNoticed_pif_congr _ _ pif now)
      (by rw [State.darkNoticed_now, State.darkNoticed_now, now])

end

/-! ## Shorts and retries (R140, R141) -/

/-- A line after a short, field by field (R140). -/
theorem Line.shorted_eq (clock : Seconds) (l : Line) :
    l.shorted clock =
      { l with
        short := l.short + 1
        clean := 0
        driveStart := none
        state := if l.short + 1 < 8 then .retryWait else .latched
        retryEnd := if l.short + 1 < 8 then some (clock + 2) else none } := by
  unfold Line.shorted
  split <;> rfl

section
variable {s : State} {n : Nat} {l : Line} (hl : s.line n = some l) (on : l.state = .on)
include hl on

theorem State.shortLine_retries (few : l.short + 1 < 8) : s.shortLine n = s.updLine n (Line.shorted s.seconds) := by
  simp only [State.shortLine, hl, on, if_true, if_pos few]

/-- A line that was faulty already is latched with its notice alone (R147). -/
theorem State.shortLine_latched_open (many : ¬ l.short + 1 < 8) (open_ : l.openFlag = true) :
    LineNoticed [] n (l.shorted s.seconds) .urgent .latched s (s.shortLine n) := by
  have shorted := State.updLine_becomes hl _ (Line.shorted_line s.seconds)
  simp only [State.shortLine, hl, on, if_true, if_neg many, if_pos open_]
  exact (State.raiseLine_noticed [] shorted.line ..).after shorted (State.updLine_keeps ..)

/-- A line that becomes faulty by its 8th short is reported to its zone (R147). -/
theorem State.shortLine_latched_reported (many : ¬ l.short + 1 < 8) (open_ : l.openFlag = false) :
    LineReported n (l.shorted s.seconds) .urgent .latched s (s.shortLine n) := by
  have shorted := State.updLine_becomes hl _ (Line.shorted_line s.seconds)
  simp only [State.shortLine, hl, on, if_true, if_neg many, open_, Bool.false_eq_true, if_false]
  exact (State.faultReport_raiseLine_reported shorted.line ..).after shorted (State.updLine_keeps ..)

/-- The line and the zones after a short, latched or not. -/
theorem State.shortLine_becomes :
    LineBecomes n (l.shorted s.seconds) s (s.shortLine n) ∧ ZonesBut (zoneOfLine n) s (s.shortLine n) := by
  by_cases few : l.short + 1 < 8
  · rw [State.shortLine_retries hl on few]
    exact ⟨State.updLine_becomes hl _ (Line.shorted_line _), fun _ _ => rfl⟩
  · cases open_ : l.openFlag with
    | true =>
      have noticed := State.shortLine_latched_open hl on few open_
      exact ⟨noticed.becomes, fun m _ => State.zone_congr (noticed.keeps.zwc (by decide)) m⟩
    | false =>
      have reported := State.shortLine_latched_reported hl on few open_
      exact ⟨reported.becomes, reported.zones⟩

end

/-- Settles O22: a short by its count and the OPEN flag, and the end of a wait by the demand in force. -/
theorem shortsRetryThenLatch : Obligations.ShortsRetryThenLatch := by
  refine ⟨fun s n l hl on => ?_, fun s n l hl off => ?_, fun s n l e hl waits he => ?_⟩
  · obtain ⟨becomes, zones⟩ := State.shortLine_becomes hl on
    refine ⟨_, l.shorted s.seconds, rfl, State.shortLine_keeps n s, State.shortLine_quiet n s, becomes.others, zones,
      becomes.line, ?_⟩
    have latches : 8 ≤ l.short + 1 → ¬ l.short + 1 < 8 := Nat.not_lt.mpr
    have spec := l.shorted_eq s.seconds
    refine ⟨by rw [spec], by rw [spec], by rw [spec], by rw [spec], by rw [spec], by rw [spec], by rw [spec],
      fun few => ?_, fun many => ?_, fun many which => ?_, fun many closed z hz => ?_⟩
    · rw [State.shortLine_retries hl on few, spec]
      exact ⟨if_pos few, if_pos few, rfl, rfl⟩
    · rw [spec]
      exact ⟨if_neg (latches many), if_neg (latches many)⟩
    · cases open_ : l.openFlag with
      | true =>
        have noticed := State.shortLine_latched_open hl on (latches many) open_
        exact ⟨noticed.keeps.zwc (by decide), noticed.pif⟩
      | false =>
        have absent := which.resolve_left (by simp [open_])
        exact (State.shortLine_latched_reported hl on (latches many) open_).absent absent
    · exact (State.shortLine_latched_reported hl on (latches many) closed).judged z hz
  · have same : s.shortLine n = s := by simp only [State.shortLine, hl, if_neg off]
    exact congrArg Host.Outcome.next same
  · have ends : s.endRetry n = (s.reach (tickTime e)).updLine n (Line.resume s.oda (s.reach (tickTime e)).now) := by
      simp only [State.endRetry, hl, waits, he]
      rfl
    have becomes : LineBecomes n (l.resume s.oda (s.reach (tickTime e)).now) s (s.endRetry n) := by
      have reached : LineBecomes n l s (s.reach (tickTime e)) := .ofOda rfl hl
      rw [ends]
      exact reached.trans (State.updLine_becomes reached.line _ (Line.resume_line _ _))
    have now : (s.endRetry n).now = (s.reach (tickTime e)).now := by rw [ends]; rfl
    refine ⟨_, rfl, State.endRetry_keeps n s, now, becomes.others, fun calls => ?_, fun calls => ?_⟩
    · rw [becomes.line, Line.resume, if_pos calls, now]
    · rw [becomes.line, Line.resume, if_neg (by simp [calls])]

/-! ## Phase changes and clean seconds (R138, R139, R142) -/

/-- The lines after a change of every line. -/
theorem State.line_mapped {s t : State} {f : Line → Line} (lines : t.oda.lines = s.oda.lines.map f)
    (hf : ∀ l, (f l).line = l.line) (n : Nat) : t.line n = (s.line n).map f := by
  rw [State.line, lines]
  exact findKey_map hf n _

section
variable {l : Line} (o : Oda) (now : Time)

/-- A line in RETRY_WAIT or LATCHED does not follow (R139). -/
theorem Line.follow_held (h : l.state = .retryWait ∨ l.state = .latched) : l.follow o now = l := by
  unfold Line.follow
  rcases h with h | h <;> rw [h]

/-- A line in OFF or ON follows; one that goes ON takes the moment as its drive start (R139). -/
theorem Line.follow_free (h : l.state = .off ∨ l.state = .on) :
    (l.follow o now).state = (if o.calls l.demand then .on else .off)
      ∧ (o.calls l.demand = false → (l.follow o now).driveStart = none)
      ∧ (o.calls l.demand = true → l.state = .off → (l.follow o now).driveStart = some now)
      ∧ (o.calls l.demand = true → l.state = .on → (l.follow o now).driveStart = l.driveStart) := by
  unfold Line.follow
  cases calls : o.calls l.demand <;> rcases h with h | h <;> simp [h]

end

theorem Oda.calls_congr {o p : Oda} (slow : p.slowChanges = o.slowChanges) (fast : p.fastChanges = o.fastChanges) :
    p.calls = o.calls := by
  funext d
  cases d with
  | slow => simp only [Oda.calls, Oda.slowOn, slow]
  | fast => simp only [Oda.calls, Oda.fastOn, fast]
  | _ => rfl

/-- A count of changes has the other parity after one more (R138). -/
theorem evenCount_succ (n : Nat) : ((n + 1) % 2 == 0) = !(n % 2 == 0) := by
  rcases Nat.mod_two_eq_zero_or_one n with h | h <;> simp [Nat.add_mod, h]

theorem State.changePhase_line (s : State) (g : Generator) (n : Nat) :
    (s.changePhase g).line n
      = (s.line n).map (Line.atPhase (s.oda.advance g) (s.reach (s.oda.nextPhase g)).now g) := by
  refine State.line_mapped ?_ (fun l => l.atPhase_line ..) n
  cases g <;> rfl

/-- A line at a clean-count step (R142). -/
theorem Line.cleanTick_spec (l : Line) :
    (l.engaged = false → l.cleanTick = l)
      ∧ (l.engaged = true → 9 ≤ l.clean → l.cleanTick = { l with clean := 10, short := 0 })
      ∧ (l.engaged = true → l.clean < 9 → l.cleanTick = { l with clean := l.clean + 1 }) := by
  refine ⟨fun idle => ?_, fun engaged full => ?_, fun engaged short => ?_⟩
  · rw [Line.cleanTick, if_neg (by simp [idle])]
  · have count : countTo 10 l.clean = 10 := by unfold countTo; omega
    rw [Line.cleanTick, if_pos engaged, count, if_pos rfl]
  · have count : countTo 10 l.clean = l.clean + 1 := by unfold countTo; omega
    rw [Line.cleanTick, if_pos engaged, count, if_neg (by omega)]

/-- Settles O23: at both events every line changes by itself. -/
theorem phasesAndCleanSecondsReachTheLines : Obligations.PhasesAndCleanSecondsReachTheLines := by
  refine ⟨fun s g => ?_, fun s => ?_⟩
  · have calls : (s.changePhase g).oda.calls = (s.oda.advance g).calls := Oda.calls_congr rfl rfl
    refine ⟨s.changePhase g, rfl, State.changePhase_keeps g s, by cases g <;> rfl, ?_, ?_, fun n l hl => ?_⟩
    · cases g with
      | slow => exact evenCount_succ _
      | fast => rfl
    · cases g with
      | slow => rfl
      | fast => exact evenCount_succ _
    · refine ⟨l.atPhase (s.oda.advance g) (s.reach (s.oda.nextPhase g)).now g,
        by rw [State.changePhase_line, hl]; rfl, ?_, fun other => if_neg other, fun held => ?_,
        fun follows free => ?_⟩
      · unfold Line.atPhase
        split
        · exact Line.follow_fields ..
        · rfl
      · unfold Line.atPhase
        split
        · exact Line.follow_held _ _ held
        · rfl
      · rw [Line.atPhase, if_pos follows, calls]
        exact Line.follow_free _ _ free
  · refine ⟨s.cleanTick, rfl, State.cleanTick_keeps s, rfl, fun n l hl => ?_⟩
    have found : s.cleanTick.line n = some l.cleanTick := by
      rw [State.line_mapped (s := s) (t := s.cleanTick) rfl Line.cleanTick_line, hl]
      rfl
    obtain ⟨idle, full, short⟩ := l.cleanTick_spec
    rw [found]
    exact ⟨fun h => congrArg some (idle h), fun h k => congrArg some (full h k),
      fun h k => congrArg some (short h k)⟩

end Sys2Proof.Machine

/-! # Open-load checks (R144, R145) -/

namespace Sys2Proof.Machine

/-! ## One line at a check -/

/-- The OPEN flag after a check that counts (R145). -/
def Line.flagged (present : Bool) (l : Line) : Bool :=
  if present then l.openFlag && decide (l.openPresent + 1 < 3) else l.openFlag || decide (3 ≤ l.openMiss + 1)

/-- A line after a check (R144, R145). -/
def Line.checked (present : Bool) (now : Time) (l : Line) : Line :=
  if l.checkCounts now then { l.counted present with openFlag := l.flagged present } else l

section
variable {l : Line} {present : Bool} {now : Time}

theorem Line.checked_counts (counts : l.checkCounts now = true) :
    l.checked present now = { l.counted present with openFlag := l.flagged present } := if_pos counts

theorem Line.checked_passed (passed : l.checkCounts now = false) : l.checked present now = l :=
  if_neg (by simp [passed])

/-- A check changes the OPEN flag and its two counts alone. -/
theorem Line.checked_fields (present : Bool) (now : Time) (l : Line) :
    l.checked present now =
      { l with
        openFlag := (l.checked present now).openFlag
        openMiss := (l.checked present now).openMiss
        openPresent := (l.checked present now).openPresent } := by
  unfold Line.checked Line.counted
  split
  · split <;> rfl
  · rfl

/-- The fault state of a line at a check moves with its OPEN flag alone. -/
theorem Line.checked_inFault (still : (l.checked present now).openFlag = l.openFlag) :
    (l.checked present now).inFault = l.inFault := by
  rw [Line.checked_fields, still]
  rfl

/-- Three counted checks in a row without current set a flag that is clear (R145). -/
theorem Line.flagged_clear (clear : l.openFlag = false) :
    l.flagged present = true ↔ (l.counted present).openMiss = 3 := by
  unfold Line.flagged Line.counted countTo
  cases present <;> simp [clear]

/-- Three counted checks in a row with current clear a flag that is set (R145). -/
theorem Line.flagged_set (set : l.openFlag = true) :
    l.flagged present = false ↔ (l.counted present).openPresent = 3 := by
  unfold Line.flagged Line.counted countTo
  cases present <;> simp [set]

end

/-! ## The coordinator at a check of one line -/

/-- Whether a check of line `n` moves its OPEN flag (R145). -/
def State.FlagMoves (sense : BitVec 32) (n : Nat) (s : State) : Prop :=
  ∃ l, s.line n = some l ∧ (l.checked (sense.getLsbD (n - 1)) s.now).openFlag ≠ l.openFlag

section
variable {s : State} {n : Nat} {l : Line} {sense : BitVec 32} (hl : s.line n = some l)

theorem State.checkLine_absent (hl : s.line n = none) : s.checkLine sense n = s := by rw [State.checkLine, hl]

include hl

theorem State.checkLine_passed (passed : l.checkCounts s.now = false) : s.checkLine sense n = s := by
  simp only [State.checkLine, hl, passed, Bool.false_eq_true, if_false]

/-- A check that counts and leaves the OPEN flag. -/
theorem State.checkLine_still (counts : l.checkCounts s.now = true)
    (still : l.flagged (sense.getLsbD (n - 1)) = l.openFlag) :
    s.checkLine sense n = s.updLine n (Line.counted (sense.getLsbD (n - 1))) := by
  simp only [State.checkLine, hl, counts, if_true]
  cases flag : l.openFlag with
  | true =>
    have fewer : (l.counted (sense.getLsbD (n - 1))).openPresent ≠ 3 := fun third => by
      simp [(Line.flagged_set flag).mpr third, flag] at still
    simp [fewer]
  | false =>
    have fewer : (l.counted (sense.getLsbD (n - 1))).openMiss ≠ 3 := fun third => by
      simp [(Line.flagged_clear flag).mpr third, flag] at still
    simp [fewer]

/-- A check that moves the OPEN flag. -/
theorem State.checkLine_moves (counts : l.checkCounts s.now = true)
    (moved : l.flagged (sense.getLsbD (n - 1)) ≠ l.openFlag) :
    s.checkLine sense n =
      (s.updLine n (Line.counted (sense.getLsbD (n - 1)))).putOpen n (l.flagged (sense.getLsbD (n - 1))) := by
  simp only [State.checkLine, hl, counts, if_true]
  cases flag : l.openFlag with
  | true =>
    have cleared := Bool.eq_false_of_not_eq_true (flag ▸ moved)
    simp [cleared, (Line.flagged_set flag).mp cleared]
  | false =>
    have set := Bool.eq_true_of_not_eq_false (flag ▸ moved)
    simp [set, (Line.flagged_clear flag).mp set]

/-- A change of the OPEN flag is reported, with its notice (R145, R147, R148). -/
theorem State.putOpen_reported (v : Bool) {cls : NoticeClass} {event : LineEvent}
    (notice : (cls, event) = if v then (.urgent, .opened) else (.routine, .openCleared)) :
    LineReported n { l with openFlag := v } cls event s (s.putOpen n v) := by
  have put := State.updLine_becomes hl (fun l => { l with openFlag := v }) fun _ => rfl
  have reported := fun cls event =>
    (State.faultReport_raiseLine_reported put.line cls event).after put (State.updLine_keeps ..)
  cases v <;> cases notice <;> exact reported _ _

/-- A check that does not move the OPEN flag changes the line alone. -/
theorem State.checkLine_becomes_still
    (still : (l.checked (sense.getLsbD (n - 1)) s.now).openFlag = l.openFlag) :
    LineBecomes n (l.checked (sense.getLsbD (n - 1)) s.now) s (s.checkLine sense n)
      ∧ KeepsBut [.oda] s (s.checkLine sense n) := by
  cases counts : l.checkCounts s.now with
  | false =>
    rw [State.checkLine_passed hl counts, Line.checked_passed counts]
    exact ⟨.ofOda rfl hl, .refl _ _⟩
  | true =>
    rw [Line.checked_counts counts] at still ⊢
    change l.flagged (sense.getLsbD (n - 1)) = l.openFlag at still
    have same : { l.counted (sense.getLsbD (n - 1)) with openFlag := l.flagged (sense.getLsbD (n - 1)) }
        = l.counted (sense.getLsbD (n - 1)) := by
      rw [still]
      unfold Line.counted
      split <;> rfl
    rw [State.checkLine_still hl counts still, same]
    exact ⟨State.updLine_becomes hl _ (Line.counted_line _), State.updLine_keeps ..⟩

/-- A check that moves the OPEN flag reports the line (R145). -/
theorem State.checkLine_reported {cls : NoticeClass} {event : LineEvent}
    (moved : (l.checked (sense.getLsbD (n - 1)) s.now).openFlag ≠ l.openFlag)
    (notice : (cls, event) = if (l.checked (sense.getLsbD (n - 1)) s.now).openFlag then (.urgent, .opened)
      else (.routine, .openCleared)) :
    LineReported n (l.checked (sense.getLsbD (n - 1)) s.now) cls event s (s.checkLine sense n) := by
  cases counts : l.checkCounts s.now with
  | false => exact absurd (congrArg Line.openFlag (Line.checked_passed counts)) moved
  | true =>
    rw [Line.checked_counts counts] at moved notice ⊢
    have counted := State.updLine_becomes hl _ (Line.counted_line (sense.getLsbD (n - 1)))
    rw [State.checkLine_moves hl counts moved]
    exact (State.putOpen_reported counted.line _ notice).after counted (State.updLine_keeps ..)

/-- The line after its check, whether its OPEN flag moves or not. -/
theorem State.checkLine_becomes :
    LineBecomes n (l.checked (sense.getLsbD (n - 1)) s.now) s (s.checkLine sense n) := by
  by_cases still : (l.checked (sense.getLsbD (n - 1)) s.now).openFlag = l.openFlag
  · exact (State.checkLine_becomes_still hl still).1
  · exact (State.checkLine_reported hl still rfl).becomes

end

section
variable (s : State) (sense : BitVec 32) (n : Nat)

theorem State.checkLine_now : (s.checkLine sense n).now = s.now := (State.checkLine_keeps ..).now (by decide)

theorem State.checkLine_line (m : Nat) :
    (s.checkLine sense n).line m =
      if m = n then (s.line m).map (Line.checked (sense.getLsbD (n - 1)) s.now) else s.line m := by
  cases hl : s.line n with
  | none =>
    rw [State.checkLine_absent hl]
    split
    · rename_i same; rw [same, hl]; rfl
    · rfl
  | some l =>
    have becomes := State.checkLine_becomes (sense := sense) hl
    split
    · rename_i same; rw [same, becomes.line, hl]; rfl
    · rename_i other; exact becomes.others m (by simpa using other)

theorem State.checkLine_others (m : Nat) (h : m ≠ n) : (s.checkLine sense n).line m = s.line m := by
  rw [State.checkLine_line, if_neg h]

/-- A check of another line does not decide whether a line's flag moves. -/
theorem State.flagMoves_checkLine {m : Nat} (h : m ≠ n) :
    (s.checkLine sense n).FlagMoves sense m ↔ s.FlagMoves sense m := by
  simp only [State.FlagMoves, s.checkLine_others sense n m h, s.checkLine_now sense n]

/-- A check leaves the fault state of every line but one whose OPEN flag moves. -/
theorem State.checkLine_lineFaulty {m : Nat} (h : m = n → ¬ s.FlagMoves sense n) :
    (s.checkLine sense n).lineFaulty m = s.lineFaulty m := by
  unfold State.lineFaulty
  rw [State.checkLine_line]
  by_cases same : m = n
  · subst same
    rw [if_pos rfl]
    cases hl : s.line m with
    | none => rfl
    | some l => exact Line.checked_inFault (not_not.mp fun moved => h rfl ⟨l, hl, moved⟩)
  · rw [if_neg same]

/-- A check that moves no flag of zone `k` leaves the zone and the fault state of its lines. -/
theorem State.checkLine_zone_still {k : Nat} (h : zoneOfLine n = k → ¬ s.FlagMoves sense n) :
    (s.checkLine sense n).zone k = s.zone k ∧ (s.checkLine sense n).bothFaulty k = s.bothFaulty k := by
  have sign : zoneOfLine (2 * k - 1) = k := by unfold zoneOfLine; omega
  have siren : zoneOfLine (2 * k) = k := by unfold zoneOfLine; omega
  refine ⟨?_, ?_⟩
  · cases hl : s.line n with
    | none => rw [State.checkLine_absent hl]
    | some l =>
      by_cases still : (l.checked (sense.getLsbD (n - 1)) s.now).openFlag = l.openFlag
      · exact State.zone_congr ((State.checkLine_becomes_still hl still).2.zwc (by decide)) k
      · exact (State.checkLine_reported hl still rfl).zones k fun same => h same.symm ⟨l, hl, still⟩
  · unfold State.bothFaulty
    rw [s.checkLine_lineFaulty sense n fun e => h (e ▸ sign), s.checkLine_lineFaulty sense n fun e => h (e ▸ siren)]

/-- A check that moves the flag of a line has its zone judge DARK (R130, R147). -/
theorem State.checkLine_zone_moves (moves : s.FlagMoves sense n) :
    (s.checkLine sense n).zone (zoneOfLine n) =
      (s.zone (zoneOfLine n)).map
        (fun z => { z with dark := (s.checkLine sense n).bothFaulty (zoneOfLine n) }) := by
  obtain ⟨l, hl, moved⟩ := moves
  have reported := State.checkLine_reported hl moved rfl
  cases hz : s.zone (zoneOfLine n) with
  | none => rw [State.zone_congr (reported.absent hz).1, hz]; rfl
  | some z => exact (reported.judged z hz).1

end

/-! ## The lines one after another -/

/-- Lines checked one after another (R144). -/
def State.checkEach (sense : BitVec 32) (ns : List Nat) (s : State) : State :=
  ns.foldl (fun u n => u.checkLine sense n) s

theorem mem_lineNumbers (n : Nat) : n ∈ lineNumbers ↔ 1 ≤ n ∧ n ≤ 32 := by
  simp only [lineNumbers, List.mem_map, List.mem_range]
  constructor
  · rintro ⟨i, hi, rfl⟩
    omega
  · exact fun ⟨low, high⟩ => ⟨n - 1, by omega, by omega⟩

theorem lineNumbers_nodup : lineNumbers.Nodup := by decide

section
variable (sense : BitVec 32) {k : Nat}

theorem State.checkEach_keeps (ns : List Nat) (s : State) : KeepsBut [.oda, .zwc, .pif] s (s.checkEach sense ns) :=
  KeepsBut.foldl _ (fun t n => State.checkLine_keeps sense n t) ns s

/-- Each line is checked once, at the moment of the check. -/
theorem State.checkEach_line (m : Nat) : ∀ (ns : List Nat) (s : State), ns.Nodup →
    (s.checkEach sense ns).line m =
      if m ∈ ns then (s.line m).map (Line.checked (sense.getLsbD (m - 1)) s.now) else s.line m
  | [], _, _ => by simp [State.checkEach]
  | n :: ns, s, distinct => by
    obtain ⟨first, rest⟩ := List.nodup_cons.mp distinct
    have later := State.checkEach_line m ns (s.checkLine sense n) rest
    rw [State.checkLine_now, State.checkLine_line] at later
    rw [State.checkEach, List.foldl_cons, ← State.checkEach, later]
    by_cases same : m = n
    · simp [same, first]
    · simp [same]

/-- A zone without a line whose flag moves stands as before, and so does the fault state of its lines. -/
theorem State.checkEach_zone_still : ∀ (ns : List Nat) (s : State), ns.Nodup →
    (∀ n ∈ ns, zoneOfLine n = k → ¬ s.FlagMoves sense n) →
    (s.checkEach sense ns).zone k = s.zone k ∧ (s.checkEach sense ns).bothFaulty k = s.bothFaulty k
  | [], _, _, _ => ⟨rfl, rfl⟩
  | n :: ns, s, distinct, still => by
    obtain ⟨first, rest⟩ := List.nodup_cons.mp distinct
    obtain ⟨zone, both⟩ := s.checkLine_zone_still sense n (still n List.mem_cons_self)
    have later := State.checkEach_zone_still ns (s.checkLine sense n) rest fun m hm own moves =>
      still m (List.mem_cons_of_mem _ hm) own
        ((s.flagMoves_checkLine sense n fun (e : m = n) => first (e ▸ hm)).mp moves)
    exact ⟨later.1.trans zone, later.2.trans both⟩

/-- A zone with a line whose flag moves has judged DARK by both of its lines as the last check leaves them. -/
theorem State.checkEach_zone_moves : ∀ (ns : List Nat) (s : State), ns.Nodup →
    (∃ n ∈ ns, zoneOfLine n = k ∧ s.FlagMoves sense n) →
    (s.checkEach sense ns).zone k =
      (s.zone k).map (fun z => { z with dark := (s.checkEach sense ns).bothFaulty k })
  | [], _, _, ⟨_, hn, _⟩ => absurd hn List.not_mem_nil
  | n :: ns, s, distinct, moved => by
    obtain ⟨first, rest⟩ := List.nodup_cons.mp distinct
    have same : ∀ m ∈ ns, (s.checkLine sense n).FlagMoves sense m ↔ s.FlagMoves sense m := fun m hm =>
      s.flagMoves_checkLine sense n fun e => first (e ▸ hm)
    change ((s.checkLine sense n).checkEach sense ns).zone k = (s.zone k).map (fun z =>
      { z with dark := ((s.checkLine sense n).checkEach sense ns).bothFaulty k })
    by_cases own : zoneOfLine n = k ∧ s.FlagMoves sense n
    · obtain ⟨mine, moves⟩ := own
      have zone := s.checkLine_zone_moves sense n moves
      rw [mine] at zone
      by_cases more : ∃ m ∈ ns, zoneOfLine m = k ∧ (s.checkLine sense n).FlagMoves sense m
      · have later := State.checkEach_zone_moves ns (s.checkLine sense n) rest more
        rw [later, zone, Option.map_map]
        rfl
      · obtain ⟨zone', both⟩ := State.checkEach_zone_still sense ns (s.checkLine sense n) rest
          fun m hm own moves => more ⟨m, hm, own, moves⟩
        rw [zone', both, zone]
    · have zone := (s.checkLine_zone_still sense n (k := k) fun e moves => own ⟨e, moves⟩).1
      obtain ⟨m, hm, mine, moves⟩ := moved
      have later : m ∈ ns := (List.mem_cons.mp hm).resolve_left fun e => own ⟨e ▸ mine, e ▸ moves⟩
      have judged := State.checkEach_zone_moves ns (s.checkLine sense n) rest
        ⟨m, later, mine, (same m later).mpr moves⟩
      rw [judged, zone]

end

/-! ## The obligation -/

/-- The coordinator at the moment of a check, before the first line (R138). -/
def State.atCheck (s : State) : State :=
  { s.reach s.oda.nextCheck with oda.checks := s.oda.checks + 1 }

theorem State.checkLines_eq (s : State) (sense : BitVec 32) :
    s.checkLines sense = s.atCheck.checkEach sense lineNumbers := rfl

section
variable (s : State) (sense : BitVec 32)

theorem State.checkLines_now : (s.checkLines sense).now = s.atCheck.now :=
  (State.checkEach_keeps ..).now (by decide)

theorem State.checkLines_line {n : Nat} (low : 1 ≤ n) (high : n ≤ 32) :
    (s.checkLines sense).line n = (s.line n).map (Line.checked (sense.getLsbD (n - 1)) (s.checkLines sense).now) := by
  rw [State.checkLines_now, State.checkLines_eq, State.checkEach_line _ _ _ _ lineNumbers_nodup,
    if_pos ((mem_lineNumbers n).mpr ⟨low, high⟩)]
  rfl

/-- Whether a flag moves at a check of every line is read off the line before and after. -/
theorem State.flagMoves_iff {n : Nat} (low : 1 ≤ n) (high : n ≤ 32) :
    s.atCheck.FlagMoves sense n ↔
      ∃ l l', s.line n = some l ∧ (s.checkLines sense).line n = some l' ∧ l'.openFlag ≠ l.openFlag := by
  rw [State.checkLines_line s sense low high, State.checkLines_now]
  constructor
  · rintro ⟨l, hl, moved⟩
    have found : s.line n = some l := hl
    exact ⟨l, _, found, by rw [found]; rfl, moved⟩
  · rintro ⟨l, l', hl, hl', moved⟩
    rw [hl] at hl'
    cases hl'
    exact ⟨l, hl, moved⟩

end

section
variable {s : State} {sense : BitVec 32} {k : Nat} {z : Zone} (hz : s.zone k = some z)
include hz

theorem State.checkLines_zone_moves (moves : ∃ n ∈ lineNumbers, zoneOfLine n = k ∧ s.atCheck.FlagMoves sense n) :
    ∃ z', (s.checkLines sense).zone k = some z' ∧ z' = { z with dark := z'.dark }
      ∧ z'.dark = (s.checkLines sense).bothFaulty k := by
  have before : s.atCheck.zone k = some z := hz
  rw [State.checkLines_eq, State.checkEach_zone_moves sense _ _ lineNumbers_nodup moves, before]
  generalize (s.atCheck.checkEach sense lineNumbers).bothFaulty k = dark
  exact ⟨{ z with dark := dark }, rfl, rfl, rfl⟩

theorem State.checkLines_zone_still
    (still : ¬ ∃ n ∈ lineNumbers, zoneOfLine n = k ∧ s.atCheck.FlagMoves sense n) :
    (s.checkLines sense).zone k = some z :=
  (State.checkEach_zone_still sense lineNumbers s.atCheck lineNumbers_nodup
    fun n hn own moved => still ⟨n, hn, own, moved⟩).1.trans hz

end

/-- Settles O24: each line is checked once, and each zone follows the flags of its lines. -/
theorem threeChecksMoveTheOpenFlag : Obligations.ThreeChecksMoveTheOpenFlag := by
  refine ⟨fun s sense => ?_, fun s sense n l t hl ht => ?_⟩
  · have now := s.checkLines_now sense
    refine ⟨s.checkLines sense, rfl, State.checkLines_keeps sense s, State.checkLines_quiet sense s, now,
      fun n l low high hl => ?_, fun k z hz => ?_, by rw [now]; rfl⟩
    · refine ⟨_, by rw [s.checkLines_line sense low high, hl]; rfl, Line.checked_fields .., Line.checked_passed,
        fun counts current => ?_, fun counts none => ?_⟩
      · rw [Line.checked_counts counts, current]
        exact ⟨rfl, rfl, rfl⟩
      · rw [Line.checked_counts counts, none]
        exact ⟨rfl, rfl, rfl⟩
    · by_cases moves : ∃ n ∈ lineNumbers, zoneOfLine n = k ∧ s.atCheck.FlagMoves sense n
      · obtain ⟨z', zone, fields, dark⟩ := State.checkLines_zone_moves hz moves
        obtain ⟨n, hn, own, moved⟩ := moves
        obtain ⟨low, high⟩ := (mem_lineNumbers n).mp hn
        obtain ⟨l, l', hl, hl', change⟩ := (s.flagMoves_iff sense low high).mp moved
        refine ⟨z', zone, fields, fun still => ?_, fun _ _ _ _ _ _ _ _ _ => dark⟩
        exact absurd (still n l l' low high own hl hl') change
      · refine ⟨z, State.checkLines_zone_still hz moves, rfl, fun _ => rfl,
          fun n l l' low high own hl hl' change => ?_⟩
        exact absurd ⟨n, (mem_lineNumbers n).mpr ⟨low, high⟩, own,
          (s.flagMoves_iff sense low high).mpr ⟨l, l', hl, hl', change⟩⟩ moves
  · subst ht
    refine ⟨State.checkLine_passed hl, fun l' _ hl' => ?_⟩
    obtain rfl : l.checked (sense.getLsbD (n - 1)) s.now = l' :=
      Option.some.inj ((State.checkLine_becomes hl).line.symm.trans hl')
    refine ⟨fun still => (State.checkLine_becomes_still hl still).2, fun cls event moved notice => ?_⟩
    have reported := State.checkLine_reported hl moved notice
    exact ⟨reported.keeps, reported.absent, reported.judged⟩

end Sys2Proof.Machine

/-! # CLEAR LINE (R146) -/

namespace Sys2Proof.Machine

section
variable {s : State} {n : Nat} {l : Line}

/-- A latched line that is cleared and noticed, before any report (R146). -/
def State.clearNoticed (n : Nat) (s : State) : State :=
  ((s.updLine n (Line.cleared s.oda s.now)).record (.action (.lineClear n) .q)).raiseLine .routine .latchCleared n

theorem State.clearNoticed_noticed (hl : s.line n = some l) :
    LineNoticed [.wrl] n (l.cleared s.oda s.now) .routine .latchCleared s (s.clearNoticed n) := by
  have cleared := State.updLine_becomes hl _ (Line.cleared_line s.oda s.now)
  have recorded := cleared.trans (.ofOda (t := (s.updLine n (Line.cleared s.oda s.now)).record
    (.action (.lineClear n) .q)) rfl cleared.line)
  exact (State.raiseLine_noticed [.wrl] recorded.line ..).after recorded
    ((State.record_keeps ..).andThen (by decide) ((State.updLine_keeps ..).mono (by decide)))

theorem State.clearNoticed_wrl (s : State) (n : Nat) :
    (s.clearNoticed n).wrl = s.logged (.action (.lineClear n) .q) :=
  (State.raiseLine_keeps ..).wrl (by decide)

/-- A line that is faulty no more is reported to its zone after its notice (R147). -/
theorem State.clearLatch_reported (s : State) (n : Nat) :
    s.clearLatch n false = (s.clearNoticed n).judgeDark (zoneOfLine n) := rfl

theorem State.clearLatch_becomes (hl : s.line n = some l) (openFlag : Bool) :
    LineBecomes n (l.cleared s.oda s.now) s (s.clearLatch n openFlag)
      ∧ ZonesBut (zoneOfLine n) s (s.clearLatch n openFlag)
      ∧ (s.clearLatch n openFlag).wrl = s.logged (.action (.lineClear n) .q) := by
  have noticed := State.clearNoticed_noticed hl
  have zwc := noticed.keeps.zwc (by decide)
  cases openFlag with
  | true => exact ⟨noticed.becomes, fun m _ => State.zone_congr zwc m, s.clearNoticed_wrl n⟩
  | false =>
    have report := (s.clearNoticed n).judgeDark_judged (zoneOfLine n)
    rw [State.clearLatch_reported]
    refine ⟨noticed.becomes.trans (.ofOda (report.keeps.oda (by decide)) noticed.becomes.line),
      fun m hm => (report.others m hm).trans (State.zone_congr zwc m), ?_⟩
    rw [report.keeps.wrl (by decide), s.clearNoticed_wrl n]

/-- No zone judges DARK where the OPEN flag stands or the zone is not configured (R147). -/
theorem State.clearLatch_unreported {openFlag : Bool} (hl : s.line n = some l)
    (h : openFlag = true ∨ s.zone (zoneOfLine n) = none) : s.clearLatch n openFlag = s.clearNoticed n := by
  cases openFlag with
  | true => rfl
  | false =>
    have absent := h.resolve_left (by simp)
    rw [State.clearLatch_reported]
    refine State.judgeDark_absent ?_
    rw [State.zone_congr ((State.clearNoticed_noticed hl).keeps.zwc (by decide)), absent]

/-- A line that is faulty no more has its zone judge DARK after the LINE notice (R130, R147). -/
theorem State.clearLatch_judged (hl : s.line n = some l) {z : Zone} (hz : s.zone (zoneOfLine n) = some z) :
    (s.clearLatch n false).zone (zoneOfLine n)
        = some { z with dark := (s.clearLatch n false).bothFaulty (zoneOfLine n) }
      ∧ (s.clearLatch n false).pif =
        ((s.raise .routine (.line ((l.cleared s.oda s.now).notice s.seconds .latchCleared))).darkNoticed z
          ((s.clearLatch n false).bothFaulty (zoneOfLine n))).pif := by
  have noticed := State.clearNoticed_noticed hl
  have report := (s.clearNoticed n).judgeDark_judged (zoneOfLine n)
  have before : (s.clearNoticed n).zone (zoneOfLine n) = some z :=
    (State.zone_congr (noticed.keeps.zwc (by decide)) _).trans hz
  rw [State.clearLatch_reported, State.bothFaulty_congr _ (report.keeps.oda (by decide))]
  exact ⟨report.zone z before,
    (report.pif z before).trans (State.darkNoticed_pif_congr z _ noticed.pif (noticed.keeps.now (by decide)))⟩

end

/-! ## The command -/

section
variable {s : State} {line : Byte} {a : Asked} {l : Line}

theorem clearLineCommand_latched (low : 1 ≤ line.toNat) (high : line.toNat ≤ 32) (hl : s.line line.toNat = some l)
    (latched : l.state = .latched) :
    clearLineCommand line a s = (s.clearLatch line.toNat l.openFlag).reply a .done [] := by
  simp only [clearLineCommand, decide_eq_true (And.intro low high), hl, latched, if_true]

theorem clearLineCommand_refused (low : 1 ≤ line.toNat) (high : line.toNat ≤ 32) (hl : s.line line.toNat = some l)
    (free : l.state ≠ .latched) : clearLineCommand line a s = s.reply a .refusedState [] := by
  simp only [clearLineCommand, decide_eq_true (And.intro low high), hl, if_neg free, if_true]

theorem clearLineCommand_outOfRange (out : line.toNat = 0 ∨ 32 < line.toNat) :
    clearLineCommand line a s = s.reply a .refusedRange [bytes1 0] := by
  have no : ¬ (1 ≤ line.toNat ∧ line.toNat ≤ 32) := by omega
  simp only [clearLineCommand, decide_eq_false no, Bool.false_eq_true, if_false]
  rfl

end

theorem State.held_line (s : State) (port : Port) (content : List Byte) (n : Nat) :
    (s.held port content).line n = s.line n := State.line_congr (State.held_oda ..) n

/-- The row of CLEAR LINE runs the command from the holding on. -/
theorem exec_clearLine (s : State) {tag : Byte} (line : Byte) (ht : tag ≠ 0) :
    exec (.clearLine .q tag line) s =
      .next (clearLineCommand line (rowAsked s .q tag (.clearLine line))
        (s.held .q ((Command.clearLine line).content tag))) :=
  exec_runs .q tag (.clearLine line) s ht rfl rfl

/-- Settles O25: a latched line is cleared from the holding on, and any other command is answered alone. -/
theorem clearLineReleasesALatch : Obligations.ClearLineReleasesALatch := by
  intro s tag line ht
  rw [exec_clearLine s line ht]
  have found : ∀ {l}, s.line line.toNat = some l →
      (s.held .q ((Command.clearLine line).content tag)).line line.toNat = some l := fun hl =>
    (State.held_line ..).trans hl
  refine ⟨fun l low high hl latched => ?_, fun l low high hl free => ?_, fun out => ?_⟩
  · have noticed := State.clearNoticed_noticed (found hl)
    have unreported := State.clearLatch_unreported (openFlag := l.openFlag) (found hl)
    have judged := fun z => State.clearLatch_judged (z := z) (found hl)
    obtain ⟨becomes, zones, wrl⟩ := State.clearLatch_becomes (found hl) l.openFlag
    have keeps := State.clearLatch_keeps line.toNat l.openFlag (s.held .q ((Command.clearLine line).content tag))
    have now := keeps.now (by decide)
    have pif := noticed.pif
    simp only [State.held_oda, State.held_now, State.held_seconds, State.held_zone] at becomes pif unreported judged
    rw [clearLineCommand_latched low high (found hl) latched]
    refine ⟨_, rfl, .ofReply (keeps.mono (by decide)) (State.clearLatch_quiet ..), fun m hm => ?_, fun m hm => ?_, ?_,
      fun calls => ?_, fun calls => ?_, fun l' hl' => ?_⟩
    · exact (becomes.others m hm).trans (State.held_line ..)
    · exact (zones m hm).trans (State.held_zone ..)
    · exact wrl.trans (State.held_logged ..)
    · exact becomes.line.trans (congrArg some (if_pos calls))
    · exact becomes.line.trans (congrArg some (if_neg (by simp [calls])))
    · obtain rfl : l.cleared s.oda s.now = l' := Option.some.inj (becomes.line.symm.trans hl')
      refine ⟨fun which => ?_, fun z clear hz => ?_⟩
      · rw [unreported which]
        exact ⟨(noticed.keeps.zwc (by decide)).trans (State.held_zwc ..),
          State.reply_pif_congr _ _ _ pif (noticed.keeps.now (by decide))⟩
      · rw [clear] at now ⊢
        obtain ⟨zone, dark⟩ := judged z hz
        exact ⟨zone, State.reply_pif_congr _ _ _ dark (by rw [State.darkNoticed_now]; exact now)⟩
  · rw [clearLineCommand_refused low high (found hl) free]
    exact ⟨_, rfl, .plain ..⟩
  · rw [clearLineCommand_outOfRange out]
    exact ⟨_, rfl, .plain ..⟩

end Sys2Proof.Machine

/-! # The pending set stays as R154 has it -/

namespace Sys2Proof.Machine

/-! ## The staged items and their keys (R154, R155) -/

/-- A replacement keeps the keys and their places, and so the number of items. -/
theorem replaceStaged_keys (y : Item) : ∀ l : List Item, (replaceStaged y l).map Item.key = l.map Item.key
  | [] => rfl
  | x :: l => by
    unfold replaceStaged
    split
    · rename_i same
      simp [same]
    · simp [replaceStaged_keys y l]

theorem replaceStaged_length (y : Item) (l : List Item) : (replaceStaged y l).length = l.length := by
  simpa using congrArg List.length (replaceStaged_keys y l)

/-- Only a key that no item has is not found. -/
theorem stagedIndex_eq_none {k : ItemKey} : ∀ {n : Nat} {l : List Item}, stagedIndex k n l = none →
    ∀ x ∈ l, x.key ≠ k
  | _, [], _ => fun _ hx => absurd hx List.not_mem_nil
  | n, x :: l, h => by
    unfold stagedIndex at h
    split at h
    · cases h
    · rename_i other
      exact List.forall_mem_cons.mpr ⟨other, stagedIndex_eq_none h⟩

/-- At most one item for a key. -/
def KeysDistinct (l : List Item) : Prop := l.Pairwise (fun x y => x.key ≠ y.key)

theorem keysDistinct_iff (l : List Item) : KeysDistinct l ↔ (l.map Item.key).Pairwise (· ≠ ·) :=
  List.pairwise_map.symm

section
variable {l : List Item} (h : KeysDistinct l)
include h

theorem KeysDistinct.replaceStaged (y : Item) : KeysDistinct (replaceStaged y l) := by
  rw [keysDistinct_iff] at h ⊢
  rwa [replaceStaged_keys]

theorem KeysDistinct.append {x : Item} (new : stagedIndex x.key 1 l = none) : KeysDistinct (l ++ [x]) := by
  refine List.pairwise_append.mpr ⟨h, List.pairwise_singleton .., fun y hy z hz => ?_⟩
  obtain rfl := List.mem_singleton.mp hz
  exact stagedIndex_eq_none new y hy

end

/-! ## The set in each of its states (R154) -/

theorem nextProposal_le (n : Nat) : nextProposal n ≤ 255 := by
  unfold nextProposal
  split <;> omega

section
variable {c : Cau} (h : c.SetOk)
include h

/-- A set that returns to FREE keeps its number alone. -/
theorem Cau.SetOk.freed : c.freed.SetOk := ⟨List.Pairwise.nil, h.2.1, rfl, rfl, rfl, rfl⟩

/-- A set of one item, claimed by T or Q. -/
theorem Cau.SetOk.claimed (x : Item) {port : Port} (master : port ≠ .s) (e : Seconds) :
    ({ c with items := [x], state := .opened, owner := some port, idleExpiry := some e,
              proposalExpiry := none } : Cau).SetOk := by
  have owner : some port = some Port.t ∨ some port = some Port.q := by cases port <;> simp at master ⊢
  exact ⟨List.pairwise_singleton .., h.2.1, ⟨le_rfl, by simp, owner⟩, rfl, rfl⟩

/-- The items of an OPEN set may change, and its idle expiry starts again. -/
theorem Cau.SetOk.staged (opened : c.state = .opened) {items : List Item} (e : Seconds) (keys : KeysDistinct items)
    (low : c.items.length ≤ items.length) (high : items.length ≤ 64) :
    ({ c with items := items, idleExpiry := some e } : Cau).SetOk := by
  obtain ⟨-, number, st⟩ := h
  simp only [Cau.StateOk, opened] at st
  obtain ⟨⟨some, -, owner⟩, -, proposal⟩ := st
  refine ⟨keys, number, ?_⟩
  simp only [Cau.StateOk, opened]
  exact ⟨⟨some.trans low, high, owner⟩, rfl, proposal⟩

theorem Cau.SetOk.held (used : c.state ≠ .free) : c.Held := by
  have st := h.2.2
  unfold Cau.StateOk at st
  split at st
  · exact absurd ‹_› used
  · exact st.1
  · exact st.1
  · exact st.1

theorem Cau.SetOk.proposed (opened : c.state = .opened) {n : Nat} (e : Seconds) (number : n ≤ 255) :
    ({ c with number := n, state := .proposed, idleExpiry := none, proposalExpiry := some e } : Cau).SetOk :=
  ⟨h.1, number, h.held (by simp [opened]), rfl, rfl⟩

theorem Cau.SetOk.accepted (proposed : c.state = .proposed) :
    ({ c with state := .accepted, proposalExpiry := none } : Cau).SetOk := by
  have st := h.2.2
  simp only [Cau.StateOk, proposed] at st
  exact ⟨h.1, h.2.1, st.1, st.2.1, rfl⟩

end

/-! ## An operation that keeps the set -/

/-- `t` has the pending set as R154 has it where `s` has. -/
structure SetKept (s t : State) : Prop where
  ok : s.cau.SetOk → t.cau.SetOk

section
variable {s t u : State}

theorem SetKept.ofCau (h : t.cau = s.cau) : SetKept s t := ⟨fun ok => h ▸ ok⟩

theorem SetKept.trans (h : SetKept s t) (k : SetKept t u) : SetKept s u := ⟨fun ok => k.ok (h.ok ok)⟩

theorem KeepsBut.setKept {ps : List Part} (k : KeepsBut ps s t) (h : Part.cau ∉ ps := by decide) : SetKept s t :=
  .ofCau (k.cau h)

end

section
variable (s : State) (a : Asked)

theorem State.reply_setKept (r : Result) (units : List (List Byte)) : SetKept s (s.reply a r units) := .ofCau rfl

theorem State.replyRange_setKept (i : Nat) : SetKept s (s.replyRange a i) := .ofCau rfl

theorem State.freeSet_setKept (event : ConfigEvent) : SetKept s (s.freeSet event) := ⟨fun h => h.freed⟩

/-! ## The commands of the CAU (R155 to R160) -/

/-- The owner of an OPEN set stages (R155): every branch restarts the idle expiry. -/
theorem State.stageOpen_setKept (item : List Byte) (opened : s.cau.state = .opened) :
    SetKept s (s.stageOpen item a) := by
  refine ⟨fun h => ?_⟩
  have size := (h.held (by simp [opened])).2.1
  have idle : s.restartIdle.cau.SetOk := h.staged opened _ h.1 le_rfl size
  unfold State.stageOpen
  dsimp only
  split
  · exact idle
  · split
    · exact h.staged opened _ (KeysDistinct.replaceStaged h.1 _) (by simp [replaceStaged_length])
        (by rwa [replaceStaged_length])
    · split
      · rename_i new room
        exact h.staged opened _ (KeysDistinct.append h.1 new) (by simp) (by simpa using room)
      · exact idle

theorem stageCommand_setKept (item : List Byte) (master : a.port ≠ .s) : SetKept s (stageCommand item a s) := by
  unfold stageCommand
  split
  · split
    · exact s.replyRange_setKept a _
    · exact ⟨fun h => h.claimed _ master _⟩
  · split
    · exact s.stageOpen_setKept a item ‹_›
    · exact s.reply_setKept a ..
  · split <;> exact s.reply_setKept a ..
  · exact s.reply_setKept a ..

theorem discardCommand_setKept : SetKept s (discardCommand a s) := by
  have freed : SetKept s ((s.freeSet (.discarded .command)).reply a .done []) :=
    (s.freeSet_setKept _).trans (State.reply_setKept ..)
  unfold discardCommand
  split
  · exact s.reply_setKept a ..
  · split
    · exact freed
    · exact s.reply_setKept a ..
  · split
    · exact freed
    · exact s.reply_setKept a ..
  · split <;> exact s.reply_setKept a ..

theorem proposeCommand_setKept : SetKept s (proposeCommand a s) := by
  unfold proposeCommand
  split
  · exact s.reply_setKept a ..
  · split
    · exact ⟨fun h => h.proposed ‹_› _ (nextProposal_le _)⟩
    · exact s.reply_setKept a ..
  · split <;> exact s.reply_setKept a ..
  · split <;> exact s.reply_setKept a ..

theorem acceptCommand_setKept (n : Byte) : SetKept s (acceptCommand n a s) := by
  unfold acceptCommand
  split
  · exact s.replyRange_setKept a _
  · split
    · exact s.reply_setKept a ..
    · split <;> exact s.reply_setKept a ..
    · split
      · exact s.reply_setKept a ..
      · split
        · exact ⟨fun h => h.accepted ‹_›⟩
        · exact s.reply_setKept a ..
    · split <;> exact s.reply_setKept a ..

theorem refuseCommand_setKept (n : Byte) : SetKept s (refuseCommand n a s) := by
  unfold refuseCommand
  split
  · exact s.replyRange_setKept a _
  · split
    · exact s.reply_setKept a ..
    · split <;> exact s.reply_setKept a ..
    · split
      · exact s.reply_setKept a ..
      · split
        · exact (s.freeSet_setKept _).trans (State.reply_setKept ..)
        · exact s.reply_setKept a ..
    · split <;> exact s.reply_setKept a ..

/-! ## RESTART, master silence and the expiries (R157, R161, R162) -/

theorem State.restartSet_setKept : SetKept s s.restartSet := by
  unfold State.restartSet
  split
  · exact .ofCau rfl
  · exact s.freeSet_setKept _

theorem State.silenceSet_setKept (port : Port) : SetKept s (s.silenceSet port) := by
  unfold State.silenceSet
  split
  · exact s.freeSet_setKept _
  · exact .ofCau rfl

theorem State.expireIdle_setKept : SetKept s s.expireIdle := by
  unfold State.expireIdle
  split
  · exact (State.reach_keeps ..).setKept.trans (State.freeSet_setKept ..)
  · exact .ofCau rfl

theorem State.expireProposal_setKept : SetKept s s.expireProposal := by
  unfold State.expireProposal
  split
  · exact (State.reach_keeps ..).setKept.trans (State.freeSet_setKept ..)
  · exact .ofCau rfl

/-- Of the blocks that a RESTART reaches the CAU alone touches the set, and comes last (R162, R181). -/
theorem restartCommand_setKept : SetKept s (restartCommand a s) := by
  have marked : SetKept s (s.restartLoop.markRestart a.port) :=
    (State.restartLoop_keeps s).setKept.trans (State.markRestart_keeps ..).setKept
  have before : ∀ t : State, SetKept t t.restartStations.restartWind.restartSite.restartRisk.restartZones := fun t =>
    (State.restartStations_keeps t).setKept.trans ((State.restartWind_keeps _).setKept.trans
      ((State.restartSite_keeps _).setKept.trans ((State.restartRisk_keeps _).setKept.trans
        (State.restartZones_keeps _).setKept)))
  exact marked.trans ((State.reply_setKept ..).trans ((before _).trans (State.restartSet_setKept _)))

/-! ## The apply (R163 to R166) -/

/-- Of the items a SITE put alone touches the CAU, and of that the site parameters alone. -/
theorem State.applyPut_number (x : Item) : (s.applyPut x).cau.number = s.cau.number := by
  cases x with
  | remove k => rfl
  | station y =>
    exact congrArg Cau.number
      (((State.changeOccupant_keeps ..).cau (by decide)).trans ((State.applyStation_keeps ..).cau (by decide)))
  | pile y =>
    exact congrArg Cau.number
      (((State.applyWind_keeps ..).cau (by decide)).trans ((State.applyPile_keeps ..).cau (by decide)))
  | zone y =>
    exact congrArg Cau.number
      (((State.applyZoneResult_keeps ..).cau (by decide)).trans ((State.applyZone_keeps ..).cau (by decide)))
  | path y => exact congrArg Cau.number ((State.applyPath_keeps ..).cau (by decide))
  | site p => rfl

end

theorem foldl_applyPut_number : ∀ (l : List Item) (s : State),
    (l.foldl State.applyPut s).cau.number = s.cau.number
  | [], _ => rfl
  | x :: l, s => (foldl_applyPut_number l (s.applyPut x)).trans (s.applyPut_number x)

theorem State.applyItems_number (items : List Item) (s : State) :
    (s.applyItems items).cau.number = s.cau.number := by
  rw [State.applyItems, foldl_applyPut_number, foldl_applyOut_cau]

section
variable (s : State)

/-- The apply of an ACCEPTED set frees it, with its items applied or not (R165, R166). -/
theorem State.applySet_setKept : SetKept s s.applySet := by
  unfold State.applySet
  split
  · split
    · exact s.freeSet_setKept _
    · refine ⟨fun h => ?_⟩
      have number : (s.applyItems s.cau.items).cau.number ≤ 255 := (s.applyItems_number _).trans_le h.2.1
      exact ⟨List.Pairwise.nil, number, rfl, rfl, rfl, rfl⟩
  · exact .ofCau rfl
  · exact .ofCau rfl
  · exact .ofCau rfl

/-- Of the blocks at a round close the CAU alone touches the set (R163). -/
theorem State.closeRound_setKept : SetKept s s.closeRound := by
  have blocks : ∀ t : State, SetKept t t.closeBlocks := fun t =>
    t.applySet_setKept.trans ((State.closeLoop_keeps _).setKept.trans ((State.closeWind_keeps _).setKept.trans
      ((State.closeSite_keeps _).setKept.trans (State.assess_keeps _).setKept)))
  unfold State.closeRound
  split
  · exact .ofCau rfl
  · split
    · refine SetKept.trans ?_ (blocks _)
      exact .ofCau rfl
    · exact .ofCau rfl

/-! ## The commands, the ports and the step -/

variable (a : Asked)

/-- A port that may issue a command of the agreement is T's or Q's (R175). -/
theorem runCommand_setKept (c : Command) (allowed : c.allowed a.port = true) : SetKept s (runCommand c a s) := by
  cases c with
  | stage item => exact stageCommand_setKept s a item (bne_iff_ne.mp allowed)
  | discard => exact discardCommand_setKept ..
  | propose => exact proposeCommand_setKept ..
  | accept => exact acceptCommand_setKept ..
  | refuse => exact refuseCommand_setKept ..
  | restart => exact restartCommand_setKept ..
  | status => exact (statusCommand_keeps ..).setKept
  | readZone => exact (readZoneCommand_keeps ..).setKept
  | readPile => exact (readPileCommand_keeps ..).setKept
  | readStations => exact (readStationsCommand_keeps ..).setKept
  | readStrangers => exact (readStrangersCommand_keeps ..).setKept
  | readGusts => exact (readGustsCommand_keeps ..).setKept
  | readPaths => exact (readPathsCommand_keeps ..).setKept
  | readConfigItem => exact (readConfigItemCommand_keeps ..).setKept
  | readLoop => exact (readLoopCommand_keeps ..).setKept
  | reportWetting => exact (reportWettingCommand_keeps ..).setKept
  | reportActivity => exact (reportActivityCommand_keeps ..).setKept
  | floor => exact (floorCommand_keeps ..).setKept
  | ackAlert => exact (ackAlertCommand_keeps ..).setKept
  | silence => exact (silenceCommand_keeps ..).setKept
  | service => exact (serviceCommand_keeps ..).setKept
  | test => exact (testCommand_keeps ..).setKept
  | clearLine => exact (clearLineCommand_keeps ..).setKept
  | ackLoss => exact (ackLossCommand_keeps ..).setKept
  | readLogNext => exact (readLogNextCommand_keeps ..).setKept
  | readLogAt => exact (readLogAtCommand_keeps ..).setKept

theorem judgeCommand_setKept (c : Option Command) : SetKept s (judgeCommand c a s) := by
  unfold judgeCommand
  split
  · exact s.reply_setKept a ..
  · split
    · exact s.reply_setKept a ..
    · split
      · exact runCommand_setKept s a _ ‹_›
      · exact s.reply_setKept a ..

variable (port : Port)

theorem State.issue_setKept (tag : Byte) (c : Command) : SetKept s (s.issue port tag c) := by
  rw [State.issue_eq]
  exact (State.held_keeps ..).setKept.trans (judgeCommand_setKept ..)

theorem State.takeContent_setKept (content : List Byte) (releases : Bool) :
    SetKept s (s.takeContent port content releases) := by
  unfold State.takeContent
  split
  · exact State.reply_setKept ..
  · exact judgeCommand_setKept ..

theorem State.updPort_setKept (f : PortState → PortState) : SetKept s (s.updPort port f) := .ofCau rfl

theorem State.holdContent_setKept (content : List Byte) : SetKept s (s.holdContent port content) := by
  unfold State.holdContent
  split
  · exact (State.updPort_setKept ..).trans (State.takeContent_setKept ..)
  · exact State.updPort_setKept ..
  · exact State.updPort_setKept ..

theorem State.receiveFrame_setKept (bytes : List Byte) (e : Bool) : SetKept s (s.receiveFrame port bytes e) := by
  unfold State.receiveFrame State.judgeFrame
  split
  · exact (State.openFrame_keeps ..).setKept
  · dsimp only
    split
    · exact s.updPort_setKept ..
    · exact (s.updPort_setKept ..).trans
        ((State.restartWatch_keeps ..).setKept.trans (State.holdContent_setKept ..))

theorem State.releaseHolding_setKept : SetKept s (s.releaseHolding port) := by
  unfold State.releaseHolding
  dsimp only
  split
  · exact s.updPort_setKept ..
  · exact (s.updPort_setKept ..).trans (State.takeContent_setKept ..)

theorem State.completeFrame_setKept : SetKept s (s.completeFrame port) := by
  unfold State.completeFrame
  split
  · exact .ofCau rfl
  · dsimp only
    split
    · refine SetKept.trans ?_ (State.releaseHolding_setKept ..)
      exact .ofCau rfl
    · exact .ofCau rfl

/-- The expiry of a watchdog may free the set of its master (R162, R180). -/
theorem State.expireWatch_setKept : SetKept s (s.expireWatch port) := by
  unfold State.expireWatch
  split
  · exact .ofCau rfl
  · unfold State.silenceMaster
    refine SetKept.trans ?_ (State.silenceSet_setKept ..)
    refine SetKept.trans ?_ (State.silencePiles_keeps ..).setKept
    refine SetKept.trans ?_ (State.silenceZones_keeps ..).setKept
    exact .ofCau rfl

variable {s} {t u : State}

theorem Cau.SetOk.ofNext (h : s.cau.SetOk) (he : (.next u : Host.Outcome State Fault Refusal) = .next t)
    (hu : SetKept s u) : t.cau.SetOk := by
  cases he
  exact hu.ok h

/-- Every command keeps the pending set: the commands of the agreement, the two expiries, a RESTART, a silence and
a round close reach it. -/
theorem exec_setOk (i : Instr) (h : s.cau.SetOk) (he : exec i s = .next t) : t.cau.SetOk := by
  cases i
  case power => cases he; exact Cau.afterPower_setOk
  case roundClose => exact h.ofNext he s.closeRound_setKept
  case idleExpiry => exact h.ofNext he s.expireIdle_setKept
  case proposalExpiry => exact h.ofNext he s.expireProposal_setKept
  case masterSilenceExpiry port => exact h.ofNext he (s.expireWatch_setKept port)
  case portFrame port bytes e => exact h.ofNext he (s.receiveFrame_setKept port bytes e)
  case transmitComplete port => exact h.ofNext he (s.completeFrame_setKept port)
  case listenPeriodEnd => exact h.ofNext he (State.endListen_keeps s).setKept
  case foreignBeaconHeard => exact h.ofNext he (State.hearForeign_keeps s).setKept
  case backOffEnd => exact h.ofNext he (State.endBackOff_keeps s).setKept
  case roundStart => exact h.ofNext he (State.startRound_keeps s).setKept
  case phaseBOut => exact h.ofNext he (State.startPhaseB_keeps s).setKept
  case loopCopy side w e bytes => exact h.ofNext he (State.takeCopy_keeps side w e bytes s).setKept
  case slotEnd n => exact h.ofNext he (State.endSlot_keeps n s).setKept
  case short n => exact h.ofNext he (State.shortLine_keeps n s).setKept
  case retryWaitEnd n => exact h.ofNext he (State.endRetry_keeps n s).setKept
  case patternPhaseChange g => exact h.ofNext he (State.changePhase_keeps g s).setKept
  case lineCheck sense => exact h.ofNext he (State.checkLines_keeps sense s).setKept
  case cleanCountTick => exact h.ofNext he (State.cleanTick_keeps s).setKept
  case floorExpiry n role => exact h.ofNext he (State.expireFloor_keeps n role s).setKept
  case silenceExpiry n => exact h.ofNext he (State.expireSilence_keeps n s).setKept
  case testEnd n => exact h.ofNext he (State.completeTest_keeps n s).setKept
  case portFrameTimeout port => exact h.ofNext he (State.timeoutFrame_keeps port s).setKept
  case portOpeningFlag port => exact h.ofNext he (State.openFrame_keeps port s).setKept
  case portFrameOverlength port => exact h.ofNext he (State.discardLong_keeps port s).setKept
  all_goals exact h.ofNext he (s.issue_setKept ..)

end

/-- Settles O55: every command keeps the pending set as R154 has it. -/
theorem stepKeepsThePendingSet : Obligations.StepKeepsThePendingSet :=
  fun _ _ h hstep => step_keeps (P := fun s => s.cau.SetOk) (fun _ _ h => h) (fun i _ _ h he => exec_setOk i h he) h
    hstep

end Sys2Proof.Machine

/-! # The commands of the configuration agreement (R155 to R160), state by state and sender by sender -/

namespace Sys2Proof.Machine

/-! ## STAGE (R155) -/

section
variable {item : List Byte} {x : Item} {i : Nat} {a : Asked} {s : State}

theorem stageCommand_claims (free : s.cau.state = .free) (good : checkItem item = .good x) :
    stageCommand item a s = (s.claimSet x a.port).reply a .done [bytes1 1, bytes1 1] := by
  simp only [stageCommand, free, good]

theorem stageCommand_badClaim (free : s.cau.state = .free) (bad : checkItem item = .bad i) :
    stageCommand item a s = s.replyRange a i := by
  simp only [stageCommand, free, bad]

theorem stageCommand_owner (opened : s.cau.state = .opened) (owner : s.cau.owner = some a.port) :
    stageCommand item a s = s.stageOpen item a := by
  simp only [stageCommand, opened, if_pos owner]

theorem stageCommand_counterparty (held : s.cau.state = .opened ∨ s.cau.state = .proposed)
    (other : s.cau.owner ≠ some a.port) : stageCommand item a s = s.reply a .refusedBusy [] := by
  rcases held with opened | proposed
  · simp only [stageCommand, opened, if_neg other]
  · simp only [stageCommand, proposed, if_neg other]

theorem stageCommand_proposed (proposed : s.cau.state = .proposed) (owner : s.cau.owner = some a.port) :
    stageCommand item a s = s.reply a .refusedState [] := by
  simp only [stageCommand, proposed, if_pos owner]

theorem stageCommand_accepted (accepted : s.cau.state = .accepted) :
    stageCommand item a s = s.reply a .refusedBusy [] := by
  simp only [stageCommand, accepted]

section
variable (opened : s.cau.state = .opened) (owner : s.cau.owner = some a.port)
include opened owner

theorem stageCommand_replaces {n : Nat} (good : checkItem item = .good x)
    (old : stagedIndex x.key 1 s.cau.items = some n) :
    stageCommand item a s =
      ({ s with
        cau := { s.cau with items := replaceStaged x s.cau.items, idleExpiry := some (s.seconds + 300) } } : State).reply
        a .done [bytes1 n, bytes1 s.cau.items.length, bytes1 1] := by
  rw [stageCommand_owner opened owner]
  simp only [State.stageOpen, good, old]
  rfl

theorem stageCommand_appends (good : checkItem item = .good x) (new : stagedIndex x.key 1 s.cau.items = none)
    (room : s.cau.items.length < 64) :
    stageCommand item a s =
      ({ s with cau := { s.cau with items := s.cau.items ++ [x], idleExpiry := some (s.seconds + 300) } } : State).reply
        a .done [bytes1 (s.cau.items.length + 1), bytes1 (s.cau.items.length + 1)] := by
  rw [stageCommand_owner opened owner]
  simp only [State.stageOpen, good, new, if_pos room]
  rfl

theorem stageCommand_full (good : checkItem item = .good x) (new : stagedIndex x.key 1 s.cau.items = none)
    (full : 64 ≤ s.cau.items.length) : stageCommand item a s = s.restartIdle.reply a .refusedFull [] := by
  rw [stageCommand_owner opened owner]
  simp only [State.stageOpen, good, new, if_neg (Nat.not_lt.mpr full)]

theorem stageCommand_bad (bad : checkItem item = .bad i) :
    stageCommand item a s = s.restartIdle.replyRange a i := by
  rw [stageCommand_owner opened owner]
  simp only [State.stageOpen, bad]

end

end

/-! ## DISCARD and PROPOSE (R156, R158) -/

section
variable {a : Asked} {s : State}

theorem discardCommand_free (free : s.cau.state = .free) : discardCommand a s = s.reply a .refusedState [] := by
  simp only [discardCommand, free]

theorem discardCommand_owner (held : s.cau.state = .opened ∨ s.cau.state = .proposed)
    (owner : s.cau.owner = some a.port) :
    discardCommand a s = (s.freeSet (.discarded .command)).reply a .done [] := by
  rcases held with opened | proposed
  · simp only [discardCommand, opened, if_pos owner]
  · simp only [discardCommand, proposed, if_pos owner]

theorem discardCommand_counterparty (used : s.cau.state ≠ .free) (other : s.cau.owner ≠ some a.port) :
    discardCommand a s = s.reply a .refusedRole [] := by
  unfold discardCommand
  split
  · exact absurd ‹_› used
  · rw [if_neg other]
  · rw [if_neg other]
  · rw [if_neg other]

theorem discardCommand_late (accepted : s.cau.state = .accepted) (owner : s.cau.owner = some a.port) :
    discardCommand a s = s.reply a .tooLate [] := by
  simp only [discardCommand, accepted, if_pos owner]

theorem proposeCommand_owner (opened : s.cau.state = .opened) (owner : s.cau.owner = some a.port) :
    proposeCommand a s = s.proposeSet.reply a .done s.proposeSet.proposalUnits := by
  simp only [proposeCommand, opened, if_pos owner]

theorem proposeCommand_counterparty (used : s.cau.state ≠ .free) (other : s.cau.owner ≠ some a.port) :
    proposeCommand a s = s.reply a .refusedRole [] := by
  unfold proposeCommand
  split
  · exact absurd ‹_› used
  · rw [if_neg other]
  · rw [if_neg other]
  · rw [if_neg other]

theorem proposeCommand_again (later : s.cau.state = .proposed ∨ s.cau.state = .accepted)
    (owner : s.cau.owner = some a.port) : proposeCommand a s = s.reply a .refusedState [] := by
  rcases later with proposed | accepted
  · simp only [proposeCommand, proposed, if_pos owner]
  · simp only [proposeCommand, accepted, if_pos owner]

theorem proposeCommand_free (free : s.cau.state = .free) : proposeCommand a s = s.reply a .refusedState [] := by
  simp only [proposeCommand, free]

end

/-! ## ACCEPT and REFUSE (R159, R160) -/

section
variable {n : Byte} {a : Asked} {s : State}

theorem acceptCommand_zero : acceptCommand 0 a s = s.replyRange a 0 := if_pos rfl

theorem refuseCommand_zero : refuseCommand 0 a s = s.replyRange a 0 := if_pos rfl

variable (hn : n ≠ 0)
include hn

theorem acceptCommand_named (proposed : s.cau.state = .proposed) (other : s.cau.owner ≠ some a.port)
    (named : n.toNat = s.cau.number) :
    acceptCommand n a s = s.acceptSet.reply a .accepted s.acceptSet.proposalUnits := by
  simp only [acceptCommand, if_neg hn, proposed, if_neg other, if_pos named]

theorem acceptCommand_misnamed (proposed : s.cau.state = .proposed) (other : s.cau.owner ≠ some a.port)
    (misnamed : n.toNat ≠ s.cau.number) : acceptCommand n a s = s.reply a .refusedState [] := by
  simp only [acceptCommand, if_neg hn, proposed, if_neg other, if_neg misnamed]

theorem acceptCommand_owner (used : s.cau.state ≠ .free) (owner : s.cau.owner = some a.port) :
    acceptCommand n a s = s.reply a .refusedRole [] := by
  rw [acceptCommand, if_neg hn]
  split
  · exact absurd ‹_› used
  · rw [if_pos owner]
  · rw [if_pos owner]
  · rw [if_pos owner]

theorem acceptCommand_accepted (accepted : s.cau.state = .accepted) (other : s.cau.owner ≠ some a.port) :
    acceptCommand n a s = s.reply a .refusedState [] := by
  simp only [acceptCommand, if_neg hn, accepted, if_neg other]

theorem acceptCommand_late (late : s.cau.state = .free ∨ s.cau.state = .opened ∧ s.cau.owner ≠ some a.port) :
    acceptCommand n a s = s.reply a (lateResult n s.cau.number) [] := by
  rcases late with free | ⟨opened, other⟩
  · simp only [acceptCommand, if_neg hn, free]
  · simp only [acceptCommand, if_neg hn, opened, if_neg other]

theorem refuseCommand_named (proposed : s.cau.state = .proposed) (other : s.cau.owner ≠ some a.port)
    (named : n.toNat = s.cau.number) : refuseCommand n a s = (s.freeSet .refused).reply a .done [] := by
  simp only [refuseCommand, if_neg hn, proposed, if_neg other, if_pos named]

theorem refuseCommand_misnamed (proposed : s.cau.state = .proposed) (other : s.cau.owner ≠ some a.port)
    (misnamed : n.toNat ≠ s.cau.number) : refuseCommand n a s = s.reply a .refusedState [] := by
  simp only [refuseCommand, if_neg hn, proposed, if_neg other, if_neg misnamed]

theorem refuseCommand_owner (used : s.cau.state ≠ .free) (owner : s.cau.owner = some a.port) :
    refuseCommand n a s = s.reply a .refusedRole [] := by
  rw [refuseCommand, if_neg hn]
  split
  · exact absurd ‹_› used
  · rw [if_pos owner]
  · rw [if_pos owner]
  · rw [if_pos owner]

theorem refuseCommand_late (unproposed : s.cau.state ≠ .proposed)
    (late : s.cau.state = .free ∨ s.cau.owner ≠ some a.port) :
    refuseCommand n a s = s.reply a (lateResult n s.cau.number) [] := by
  rw [refuseCommand, if_neg hn]
  split
  · rfl
  · rename_i opened
    rw [if_neg (late.resolve_left (by simp [opened]))]
  · exact absurd ‹_› unproposed
  · rename_i accepted
    rw [if_neg (late.resolve_left (by simp [accepted]))]

end

/-! ## The row of such a command -/

section
variable {s : State} {port : Port} {tag : Byte} {c : Command} {r : Result} {units : List (List Byte)} {cau : Cau}
  (ht : tag ≠ 0) (hf : c.formatGood = true) (ha : c.allowed port = true)
include ht hf ha

/-- The row of a command that its owner answers without any other effect, whatever the ports hold. -/
theorem exec_answers
    (run : ∀ p, runCommand c (rowAsked s port tag c) { s with pif := p } =
      State.reply (rowAsked s port tag c) r units { s with pif := p }) :
    ∃ t, exec (rowOf port tag c) s = .next t ∧ RowResult [] s port tag c r units t := by
  refine ⟨_, exec_runs port tag c s ht hf ha, ?_⟩
  rw [State.held_eq, run, ← State.held_eq]
  exact .plain ..

/-- The row of a command that changes the pending set and answers. -/
theorem exec_changesSet
    (run : ∀ p, runCommand c (rowAsked s port tag c) { s with pif := p } =
      State.reply (rowAsked s port tag c) r units { s with cau := cau, pif := p }) :
    ∃ t, exec (rowOf port tag c) s = .next t ∧ RowResult [.cau] s port tag c r units t ∧ t.cau = cau := by
  refine ⟨_, exec_runs port tag c s ht hf ha, ?_⟩
  rw [State.held_eq, run]
  refine ⟨.ofReply ?_ (.ofPif rfl), rfl⟩
  rw [State.held_eq]
  exact .putCau _ (by decide) (.refl _ _)

/-- The row of a command that changes the pending set with a CONFIG notice, and answers (R167). -/
theorem exec_noticesSet {event : ConfigEvent} {owner : Option Port} {items : Nat}
    (run : ∀ p, runCommand c (rowAsked s port tag c) { s with pif := p } =
      (({ s with cau := cau, pif := p } : State).raiseConfig event owner items).reply (rowAsked s port tag c) r units) :
    ∃ t, exec (rowOf port tag c) s = .next t ∧ RowResult [.cau] s port tag c r units t ∧ t.cau = cau
      ∧ t.pif = s.portsNoticed port tag c .routine
          (.config { event := event, number := cau.number, owner := owner, items := items, state := cau.state,
                     round := s.flc.round, time := s.seconds }) r units := by
  refine ⟨_, exec_runs port tag c s ht hf ha, ?_⟩
  rw [State.held_eq, run]
  refine ⟨.ofReply ?_ ?_, rfl, State.reply_pif_congr _ _ _ (State.raise_pif_congr _ _ rfl ?_) ?_⟩
  · rw [State.held_eq]
    exact (KeepsBut.putCau _ (by decide) (.refl _ _)).trans ((State.raiseConfig_keeps ..).mono (by simp))
  · refine PortsQuiet.trans ?_ (State.raiseConfig_quiet ..)
    exact .ofPif rfl
  · exact (State.held_now port _ s).symm
  · exact (State.held_now port _ s).symm

end

/-- The row of a command of the agreement from the S-port is REFUSED_ROLE (R175). -/
theorem exec_fromS {tag : Byte} (c : Command) (s : State) (ht : tag ≠ 0) (hf : c.formatGood = true)
    (ha : c.allowed .s = false) :
    ∃ t, exec (rowOf .s tag c) s = .next t ∧ RowResult [] s .s tag c .refusedRole [] t :=
  ⟨_, exec_refusedRole .s tag c s ht hf ha, .plain ..⟩

/-! ## The obligations -/

/-- Settles O36: the judgement of the sender and the state comes first, then the item and its key. -/
theorem stageFillsTheSet : Obligations.StageFillsTheSet := by
  intro s port tag item ht hport format
  have allowed : (Command.stage item).allowed port = true := bne_iff_ne.mpr hport
  refine ⟨fun x free good => ?_, fun i free bad => ?_, fun x n opened owner good old => ?_,
    fun x opened owner good new room => ?_, fun x opened owner good new full => ?_,
    fun i opened owner bad => ?_, fun held other => ?_, fun proposed owner => ?_, fun accepted => ?_⟩
  · exact exec_noticesSet (c := .stage item) ht format allowed fun _ => stageCommand_claims free good
  · exact exec_answers (c := .stage item) ht format allowed fun _ => stageCommand_badClaim free bad
  · exact exec_changesSet (c := .stage item) ht format allowed fun p =>
      stageCommand_replaces (s := { s with pif := p }) opened owner good old
  · exact exec_changesSet (c := .stage item) ht format allowed fun _ => stageCommand_appends opened owner good new room
  · exact exec_changesSet (c := .stage item) ht format allowed fun _ => stageCommand_full opened owner good new full
  · exact exec_changesSet (c := .stage item) ht format allowed fun _ => stageCommand_bad opened owner bad
  · exact exec_answers (c := .stage item) ht format allowed fun _ => stageCommand_counterparty held other
  · exact exec_answers (c := .stage item) ht format allowed fun _ => stageCommand_proposed proposed owner
  · exact exec_answers (c := .stage item) ht format allowed fun _ => stageCommand_accepted accepted

/-- Settles O37: each command is answered by the state and the sender, and acts for the owner alone. -/
theorem discardAndProposeAreTheOwners : Obligations.DiscardAndProposeAreTheOwners := by
  refine ⟨fun s port tag ht => ⟨?_, fun hport => ?_⟩, fun s port tag ht => ⟨?_, fun hport => ?_⟩⟩
  · rintro rfl
    exact exec_fromS .discard s ht rfl rfl
  · have allowed : Command.discard.allowed port = true := bne_iff_ne.mpr hport
    refine ⟨fun free => ?_, fun held owner => ?_, fun used other => ?_, fun accepted owner => ?_⟩
    · exact exec_answers ht rfl allowed fun _ => discardCommand_free free
    · rw [← owner]
      exact exec_noticesSet ht rfl allowed fun _ => discardCommand_owner held owner
    · exact exec_answers ht rfl allowed fun _ => discardCommand_counterparty used other
    · exact exec_answers ht rfl allowed fun _ => discardCommand_late accepted owner
  · rintro rfl
    exact exec_fromS .propose s ht rfl rfl
  · have allowed : Command.propose.allowed port = true := bne_iff_ne.mpr hport
    refine ⟨fun opened owner => ?_, fun used other => ?_, fun later owner => ?_, fun free => ?_⟩
    · rintro n rfl
      rw [← owner]
      exact exec_noticesSet ht rfl allowed fun _ => proposeCommand_owner opened owner
    · exact exec_answers ht rfl allowed fun _ => proposeCommand_counterparty used other
    · exact exec_answers ht rfl allowed fun _ => proposeCommand_again later owner
    · exact exec_answers ht rfl allowed fun _ => proposeCommand_free free

/-- Settles O38: each command is answered by the number, the state and the sender, and acts for the counterparty that
names the proposal. -/
theorem acceptAndRefuseAreTheCounterpartys : Obligations.AcceptAndRefuseAreTheCounterpartys := by
  refine ⟨fun s port tag n ht => ⟨?_, fun hport => ?_⟩, fun s port tag n ht => ⟨?_, fun hport => ?_⟩⟩
  · rintro rfl
    exact exec_fromS (.accept n) s ht rfl rfl
  · have allowed : (Command.accept n).allowed port = true := bne_iff_ne.mpr hport
    refine ⟨?_, fun hn proposed other named => ?_, fun hn proposed other misnamed => ?_, fun hn used owner => ?_,
      fun hn accepted other => ?_, fun hn late => ?_⟩
    · rintro rfl
      exact exec_answers ht rfl allowed fun _ => acceptCommand_zero
    · exact exec_noticesSet ht rfl allowed fun _ => acceptCommand_named hn proposed other named
    · exact exec_answers ht rfl allowed fun _ => acceptCommand_misnamed hn proposed other misnamed
    · exact exec_answers ht rfl allowed fun _ => acceptCommand_owner hn used owner
    · exact exec_answers ht rfl allowed fun _ => acceptCommand_accepted hn accepted other
    · exact exec_answers ht rfl allowed fun _ => acceptCommand_late hn late
  · rintro rfl
    exact exec_fromS (.refuse n) s ht rfl rfl
  · have allowed : (Command.refuse n).allowed port = true := bne_iff_ne.mpr hport
    refine ⟨?_, fun hn proposed other named => ?_, fun hn proposed other misnamed => ?_, fun hn used owner => ?_,
      fun hn unproposed late => ?_⟩
    · rintro rfl
      exact exec_answers ht rfl allowed fun _ => refuseCommand_zero
    · exact exec_noticesSet ht rfl allowed fun _ => refuseCommand_named hn proposed other named
    · exact exec_answers ht rfl allowed fun _ => refuseCommand_misnamed hn proposed other misnamed
    · exact exec_answers ht rfl allowed fun _ => refuseCommand_owner hn used owner
    · exact exec_answers ht rfl allowed fun _ => refuseCommand_late hn unproposed late

end Sys2Proof.Machine

/-! # READ CONFIG ITEM, and the expiries of the pending set (R157, R161, R168) -/

namespace Sys2Proof.Machine

/-! ## READ CONFIG ITEM (R168, R196) -/

section
variable {kind key1 key2 : Byte} {a : Asked} {s : State}

theorem readPending_header : readPending 0 0 0 a s = s.reply a .done [s.setHeader] := rfl

theorem Byte.ne_zero {b : Byte} (low : 1 ≤ b.toNat) : b ≠ 0#8 := by
  rintro rfl
  simp at low

theorem Cau.itemAt_pos (c : Cau) {n : Nat} (low : 1 ≤ n) : c.itemAt n = c.items[n - 1]? := if_neg (by omega)

theorem readPending_item (low : 1 ≤ key2.toNat) (high : key2.toNat ≤ 64) {x : Item}
    (found : s.cau.items[key2.toNat - 1]? = some x) : readPending 0 0 key2 a s = s.reply a .done [x.report] := by
  simp [readPending, Byte.ne_zero low, Nat.not_lt.mpr high, Cau.itemAt_pos _ low, found]

theorem readPending_pastCount (low : 1 ≤ key2.toNat) (high : key2.toNat ≤ 64)
    (past : s.cau.items[key2.toNat - 1]? = none) : readPending 0 0 key2 a s = s.reply a .unknownItem [] := by
  simp [readPending, Byte.ne_zero low, Nat.not_lt.mpr high, Cau.itemAt_pos _ low, past]

theorem readPending_kind (hk : kind ≠ 0) : readPending kind key1 key2 a s = s.replyRange a 1 := if_pos hk

theorem readPending_key (out : key1 ≠ 0 ∨ 64 < key2.toNat) :
    readPending 0 key1 key2 a s = s.replyRange a 2 := if_pos out

theorem readInForce_kind (out : kind.toNat = 0 ∨ 5 < kind.toNat) :
    readInForce kind key1 key2 a s = s.replyRange a 1 := by
  have no : inRange 1 5 kind.toNat = false := decide_eq_false (by omega)
  simp [readInForce, no]

variable (low : 1 ≤ kind.toNat) (high : kind.toNat ≤ 5)
include low high

theorem readInForce_key (out : keyOf kind.toNat key1.toNat key2.toNat = none) :
    readInForce kind key1 key2 a s = s.replyRange a 2 := by
  have yes : inRange 1 5 kind.toNat = true := decide_eq_true ⟨low, high⟩
  simp [readInForce, yes, out]

variable {k : ItemKey} (key : keyOf kind.toNat key1.toNat key2.toNat = some k)
include key

theorem readInForce_configured {data : List Byte} (inForce : s.inForceBytes k = some data) :
    readInForce kind key1 key2 a s = s.reply a .done [data] := by
  have yes : inRange 1 5 kind.toNat = true := decide_eq_true ⟨low, high⟩
  simp [readInForce, yes, key, inForce]

theorem readInForce_absent (absent : s.inForceBytes k = none) :
    readInForce kind key1 key2 a s = s.reply a .unknownItem [] := by
  have yes : inRange 1 5 kind.toNat = true := decide_eq_true ⟨low, high⟩
  simp [readInForce, yes, key, absent]

end

/-- A READ CONFIG ITEM of another source than the two (R168). -/
theorem readConfigItemCommand_source {source kind key1 key2 : Byte} {a : Asked} {s : State} (pending : source ≠ 1)
    (inForce : source ≠ 2) : readConfigItemCommand source kind key1 key2 a s = s.replyRange a 0 :=
  (if_neg pending).trans (if_neg inForce)

/-- What is in force for a key does not look at the ports. -/
theorem State.inForceBytes_pif (s : State) (p : Pif) (k : ItemKey) :
    ({ s with pif := p } : State).inForceBytes k = s.inForceBytes k := by cases k <;> rfl

/-- The row of a READ CONFIG ITEM, from any port, answers alone. -/
theorem exec_readConfigItem {s : State} {port : Port} {tag source kind key1 key2 : Byte} {r : Result}
    {units : List (List Byte)} (ht : tag ≠ 0)
    (run : ∀ a p, readConfigItemCommand source kind key1 key2 a { s with pif := p } =
      State.reply a r units { s with pif := p }) :
    ∃ t, exec (.readConfigItem port tag source kind key1 key2) s = .next t
      ∧ RowResult [] s port tag (.readConfigItem source kind key1 key2) r units t :=
  exec_answers (c := .readConfigItem source kind key1 key2) ht rfl rfl fun p => run _ p

/-- Settles O46: the source chooses the reader, and each reader judges the kind, then the key. -/
theorem configItemsAreRead : Obligations.ConfigItemsAreRead := by
  intro s port tag kind key1 key2 ht
  refine ⟨?_, fun low high => ⟨fun x found => ?_, fun past => ?_⟩, fun hk => ?_, fun out => ?_,
    fun k low high key => ⟨fun data inForce => ?_, fun absent => ?_⟩, fun low high out => ?_, fun out => ?_,
    fun source pending inForce => ?_⟩
  · exact exec_readConfigItem ht fun _ _ => readPending_header
  · exact exec_readConfigItem ht fun _ _ => readPending_item low high found
  · exact exec_readConfigItem ht fun _ _ => readPending_pastCount low high past
  · exact exec_readConfigItem ht fun _ _ => readPending_kind hk
  · exact exec_readConfigItem ht fun _ _ => readPending_key out
  · exact exec_readConfigItem ht fun _ p =>
      readInForce_configured low high key ((s.inForceBytes_pif p k).trans inForce)
  · exact exec_readConfigItem ht fun _ p => readInForce_absent low high key ((s.inForceBytes_pif p k).trans absent)
  · exact exec_readConfigItem ht fun _ _ => readInForce_key low high out
  · exact exec_readConfigItem ht fun _ _ => readInForce_kind out
  · exact exec_readConfigItem ht fun _ _ => readConfigItemCommand_source pending inForce

/-! ## The expiries (R157, R161) -/

section
variable {s : State} {e : Seconds}

theorem State.expireIdle_opened (opened : s.cau.state = .opened) (expiry : s.cau.idleExpiry = some e) :
    s.expireIdle = (s.reach (tickTime e)).freeSet (.expired .idle) := by
  simp only [State.expireIdle, opened, expiry]

theorem State.expireIdle_other (other : s.cau.state ≠ .opened) : s.expireIdle = s := by
  unfold State.expireIdle
  split
  · exact absurd ‹_› other
  · rfl

theorem State.expireProposal_proposed (proposed : s.cau.state = .proposed)
    (expiry : s.cau.proposalExpiry = some e) :
    s.expireProposal = (s.reach (tickTime e)).freeSet (.expired .proposal) := by
  simp only [State.expireProposal, proposed, expiry]

theorem State.expireProposal_other (other : s.cau.state ≠ .proposed) : s.expireProposal = s := by
  unfold State.expireProposal
  split
  · exact absurd ‹_› other
  · rfl

end

/-- A set that is freed by an expiry, at its time (R154, R167). -/
theorem exec_freesSet {s : State} {i : Instr} {e : Seconds} {event : ConfigEvent}
    (he : exec i s = .next ((s.reach (tickTime e)).freeSet event)) :
    ∃ t, exec i s = .next t ∧ KeepsBut [.now, .cau, .pif] s t ∧ PortsQuiet s t
      ∧ t.now = max s.now (e * 1000000)
      ∧ t.cau = { s.cau with items := [], state := .free, owner := none, idleExpiry := none, proposalExpiry := none }
      ∧ t.pif = (({ s with now := t.now } : State).raise .routine
          (.config { event := event, number := s.cau.number, owner := s.cau.owner, items := s.cau.items.length,
                     state := .free, round := s.flc.round, time := t.seconds })).pif := by
  have keeps : KeepsBut [.now, .cau, .pif] s ((s.reach (tickTime e)).freeSet event) :=
    ((State.reach_keeps ..).mono (by decide)).trans ((State.freeSet_keeps ..).mono (by decide))
  have quiet : PortsQuiet s ((s.reach (tickTime e)).freeSet event) :=
    PortsQuiet.trans (.ofPif (State.reach_pif ..)) (State.freeSet_quiet ..)
  exact ⟨_, he, keeps, quiet, rfl, rfl, rfl⟩

/-- Settles O39: in its own state each expiry frees the set, and in another one it does nothing. -/
theorem expiriesFreeTheSet : Obligations.ExpiriesFreeTheSet := by
  refine ⟨fun s e opened expiry => ?_, fun s e proposed expiry => ?_, fun s other => ?_, fun s other => ?_⟩
  · exact exec_freesSet (congrArg Host.Outcome.next (State.expireIdle_opened opened expiry))
  · exact exec_freesSet (congrArg Host.Outcome.next (State.expireProposal_proposed proposed expiry))
  · exact congrArg Host.Outcome.next (State.expireIdle_other other)
  · exact congrArg Host.Outcome.next (State.expireProposal_other other)

end Sys2Proof.Machine

/-! # The notice queue of a port (R177, R178) -/

namespace Sys2Proof.Machine

/-! ## The order of the notices (R177) -/

/-- Two queued notices in their order: the first stands ahead of the second, with another stamp. -/
def Queued.Before (x y : Queued) : Prop := x.ahead y = true ∧ x.stamp ≠ y.stamp

/-- Two queued notices that no subject joins: one of them has none, or they are of two. -/
def Queued.Apart (x y : Queued) : Prop := x.notice.subject = none ∨ x.notice.subject ≠ y.notice.subject

theorem Queued.Apart.symm {x y : Queued} (h : x.Apart y) : y.Apart x := by
  rcases h with hx | h
  · by_cases hy : y.notice.subject = none
    · exact .inl hy
    · exact .inr fun e => hy (e.trans hx)
  · exact .inr h.symm

/-- One stands ahead of another exactly where it is URGENT and the other is ROUTINE, or within a class by its
stamp. -/
theorem Queued.ahead_iff {x y : Queued} :
    x.ahead y = true ↔ (x.cls = .urgent ∧ y.cls = .routine) ∨ (x.cls = y.cls ∧ x.stamp < y.stamp) := by
  cases hx : x.cls <;> cases hy : y.cls <;> simp [Queued.ahead, hx, hy]

theorem Queued.ahead_trans {x y z : Queued} (h : x.ahead y = true) (k : y.ahead z = true) : x.ahead z = true := by
  rw [Queued.ahead_iff] at *
  rcases h with ⟨ux, ry⟩ | ⟨c, l⟩ <;> rcases k with ⟨uy, rz⟩ | ⟨d, m⟩
  · exact .inl ⟨ux, rz⟩
  · exact .inl ⟨ux, d ▸ ry⟩
  · exact .inl ⟨c ▸ uy, rz⟩
  · exact .inr ⟨c.trans d, l.trans m⟩

/-- Of two notices with different stamps one stands ahead of the other. -/
theorem Queued.ahead_of_not {x y : Queued} (h : ¬ x.ahead y = true) (stamp : x.stamp ≠ y.stamp) :
    y.ahead x = true := by
  rw [Queued.ahead_iff] at *
  cases hx : x.cls <;> cases hy : y.cls <;> simp [hx, hy] at h ⊢ <;> omega

/-- A notice put at its place is one more notice of the queue. -/
theorem insertQueued_perm (x : Queued) : ∀ l : List Queued, (insertQueued x l).Perm (x :: l)
  | [] => .refl _
  | y :: l => by
    unfold insertQueued
    split
    · exact .refl _
    · exact ((insertQueued_perm x l).cons y).trans (.swap x y l)

/-- The order stays where a notice of another stamp is put at its place. -/
theorem insertQueued_sorted {x : Queued} : ∀ {l : List Queued}, l.Pairwise Queued.Before →
    (∀ y ∈ l, x.stamp ≠ y.stamp) → (insertQueued x l).Pairwise Queued.Before
  | [], _, _ => List.pairwise_singleton _ _
  | y :: l, sorted, new => by
    obtain ⟨first, rest⟩ := List.pairwise_cons.mp sorted
    have other := new y (List.mem_cons_self ..)
    unfold insertQueued
    split
    · rename_i ahead
      refine List.pairwise_cons.mpr ⟨fun z hz => ?_, sorted⟩
      rcases List.mem_cons.mp hz with rfl | hz
      · exact ⟨ahead, other⟩
      · exact ⟨Queued.ahead_trans ahead (first z hz).1, new z (List.mem_cons_of_mem _ hz)⟩
    · rename_i behind
      refine List.pairwise_cons.mpr ⟨fun z hz => ?_, insertQueued_sorted rest fun z hz =>
        new z (List.mem_cons_of_mem _ hz)⟩
      rcases List.mem_cons.mp ((insertQueued_perm x l).mem_iff.mp hz) with rfl | hz
      · exact ⟨Queued.ahead_of_not behind other, other.symm⟩
      · exact first z hz

/-! ## The displacement (R178) -/

theorem dropRoutine_sublist : ∀ l : List Queued, (dropRoutine l).Sublist l
  | [] => .refl _
  | x :: l => by
    unfold dropRoutine
    split
    · exact .cons _ (.refl _)
    · exact (dropRoutine_sublist l).cons_cons x

theorem length_dropRoutine : ∀ {l : List Queued}, (∃ x ∈ l, x.cls = .routine) →
    (dropRoutine l).length + 1 = l.length
  | [], h => by simp at h
  | x :: l, h => by
    unfold dropRoutine
    split
    · rfl
    · rename_i urgent
      rw [List.length_cons, List.length_cons, length_dropRoutine (by simpa [urgent] using h)]

theorem displace_sublist (l : List Queued) : (displace l).Sublist l := by
  unfold displace
  split
  · exact dropRoutine_sublist l
  · exact List.drop_sublist ..

/-- A displacement takes one notice out. -/
theorem length_displace {l : List Queued} (h : l ≠ []) : (displace l).length + 1 = l.length := by
  unfold displace
  split
  · rename_i routine
    exact length_dropRoutine (by simpa using routine)
  · rw [List.length_drop]
    have := List.length_pos_iff.mpr h
    omega

/-- The notice that a displacement takes out: a ROUTINE one where there is one, and the oldest of its class. -/
structure Queued.Displaced (old : Queued) (l : List Queued) : Prop where
  mem : old ∈ l
  routine : ∀ x ∈ l, x.cls = .routine → old.cls = .routine
  oldest : ∀ x ∈ l, x.cls = old.cls → old.stamp ≤ x.stamp

/-- No notice of its own class stands ahead of the oldest one. -/
theorem Queued.not_ahead_of_le {x y : Queued} (cls : x.cls = y.cls) (stamp : y.stamp ≤ x.stamp) :
    ¬ x.ahead y = true := by
  rw [Queued.ahead_iff, cls]
  rintro (⟨u, r⟩ | ⟨-, l⟩)
  · simp [u] at r
  · omega

theorem dropRoutine_eq_erase {old : Queued} (cls : old.cls = .routine) : ∀ {l : List Queued},
    l.Pairwise Queued.Before → old ∈ l → (∀ x ∈ l, x.cls = .routine → old.stamp ≤ x.stamp) →
    dropRoutine l = l.erase old
  | [], _, mem, _ => absurd mem List.not_mem_nil
  | x :: l, sorted, mem, oldest => by
    obtain ⟨first, rest⟩ := List.pairwise_cons.mp sorted
    by_cases same : x = old
    · subst same
      simp [dropRoutine, cls]
    · have later : old ∈ l := (List.mem_cons.mp mem).resolve_left (Ne.symm same)
      have urgent : x.cls ≠ .routine := fun r => Queued.not_ahead_of_le (r.trans cls.symm)
        (oldest x (List.mem_cons_self ..) r) (first old later).1
      rw [List.erase_cons_tail (by simpa using same), dropRoutine, if_neg urgent,
        dropRoutine_eq_erase cls rest later fun y hy => oldest y (List.mem_cons_of_mem _ hy)]

/-- A displacement takes out the oldest ROUTINE notice, or the oldest one where none is ROUTINE. -/
theorem displace_eq_erase {old : Queued} {l : List Queued} (sorted : l.Pairwise Queued.Before)
    (h : old.Displaced l) : displace l = l.erase old := by
  unfold displace
  split
  · rename_i routine
    obtain ⟨x, hx, cls⟩ : ∃ x ∈ l, x.cls = .routine := by simpa using routine
    have cls := h.routine x hx cls
    exact dropRoutine_eq_erase cls sorted h.mem fun y hy r => h.oldest y hy (r.trans cls.symm)
  · rename_i none
    have urgent : ∀ x ∈ l, x.cls = .urgent := fun x hx => by
      cases cls : x.cls with
      | urgent => rfl
      | routine => exact absurd (List.any_eq_true.mpr ⟨x, hx, by simp [cls]⟩) none
    cases l with
    | nil => rfl
    | cons x l =>
      by_cases same : x = old
      · simp [same]
      · have later : old ∈ l := (List.mem_cons.mp h.mem).resolve_left (Ne.symm same)
        have cls : x.cls = old.cls := (urgent x (List.mem_cons_self ..)).trans (urgent old h.mem).symm
        exact absurd ((List.pairwise_cons.mp sorted).1 old later).1
          (Queued.not_ahead_of_le cls (h.oldest x (List.mem_cons_self ..) cls))

/-! ## A notice that enters a queue (R177, R178) -/

section
variable {p : PortState} {cls : NoticeClass} {n : Notice} {old : Queued}

theorem PortState.QueueOk.sorted (h : p.QueueOk) : p.notices.Pairwise Queued.Before := h.2.1

theorem PortState.QueueOk.nodup (h : p.QueueOk) : p.notices.Nodup :=
  h.sorted.imp fun before same => before.2 (congrArg Queued.stamp same)

/-- Another notice of the queue has another stamp. -/
theorem PortState.QueueOk.stamp_ne (h : p.QueueOk) {x y : Queued} (hx : x ∈ p.notices) (hy : y ∈ p.notices)
    (other : x ≠ y) : x.stamp ≠ y.stamp := by
  have stamps : (p.notices.map Queued.stamp).Nodup := List.pairwise_map.mpr (h.sorted.imp fun before => before.2)
  exact fun same => other (List.inj_on_of_nodup_map stamps hx hy same)

/-- A subject has one queued notice at most. -/
theorem PortState.QueueOk.eq_of_subject (h : p.QueueOk) {x y : Queued} (hx : x ∈ p.notices) (hy : y ∈ p.notices)
    (subject : x.notice.subject ≠ none) (same : x.notice.subject = y.notice.subject) : x = y := by
  obtain ⟨-, -, -, subjects⟩ := h
  have symm : Std.Symm Queued.Apart := ⟨fun _ _ => Queued.Apart.symm⟩
  by_contra other
  exact (List.Pairwise.forall (R := Queued.Apart) subjects hx hy other).elim subject (absurd same)

/-- The queued notices of other subjects are those but the one of the subject. -/
theorem PortState.QueueOk.filter_subject (h : p.QueueOk) (mem : old ∈ p.notices) (subject : n.subject ≠ none)
    (same : old.notice.subject = n.subject) :
    p.notices.filter (fun x => x.notice.subject != n.subject) = p.notices.erase old := by
  rw [h.nodup.erase_eq_filter]
  refine List.filter_congr fun x hx => ?_
  rw [Bool.eq_iff_iff, bne_iff_ne, bne_iff_ne, not_iff_not, ← same]
  exact ⟨fun e => h.eq_of_subject hx mem (by rwa [e, same]) e, fun e => e ▸ rfl⟩

/-- The queued notice of a subject is found. -/
theorem queuedSame_eq_some {l : List Queued} (h : queuedSame n l = some old) :
    old ∈ l ∧ n.subject ≠ none ∧ old.notice.subject = n.subject := by
  unfold queuedSame at h
  split at h
  · cases h
  · rename_i k subject
    exact ⟨List.mem_of_find?_eq_some h, by simp [subject], by simpa [subject] using List.find?_some h⟩

theorem queuedSame_eq_none {l : List Queued} :
    queuedSame n l = none ↔ n.subject = none ∨ ∀ x ∈ l, x.notice.subject ≠ n.subject := by
  unfold queuedSame
  split
  · rename_i subject
    simp [subject]
  · rename_i k subject
    simp [subject]

/-- A notice of a subject that is queued takes the place of that notice and its stamp (R177). -/
theorem PortState.queueNotice_replaces (h : p.QueueOk) (mem : old ∈ p.notices) (subject : n.subject ≠ none)
    (same : old.notice.subject = n.subject) :
    p.queueNotice cls n = { p with
      notices := insertQueued { cls := cls, stamp := old.stamp, notice := n } (p.notices.erase old) } := by
  have found : queuedSame n p.notices = some old := by
    cases hq : queuedSame n p.notices with
    | none => exact (queuedSame_eq_none.mp hq).elim (absurd · subject) fun none => absurd same (none old mem)
    | some x =>
      obtain ⟨hx, -, sx⟩ := queuedSame_eq_some hq
      rw [h.eq_of_subject hx mem (sx ▸ subject) (sx.trans same.symm)]
  rw [PortState.queueNotice, found, h.filter_subject mem subject same]

/-- A notice of a subject that is not queued enters with the next stamp, in a full queue after a displacement
(R177, R178). -/
theorem PortState.queueNotice_enters (new : n.subject = none ∨ ∀ x ∈ p.notices, x.notice.subject ≠ n.subject) :
    p.queueNotice cls n = { p with
      notices := insertQueued { cls := cls, stamp := p.nextStamp, notice := n }
        (if 32 ≤ p.notices.length then displace p.notices else p.notices)
      nextStamp := p.nextStamp + 1
      dropped := p.dropped || decide (32 ≤ p.notices.length) } := by
  simp only [PortState.queueNotice, queuedSame_eq_none.mpr new, decide_eq_true_eq]

/-- What a queue is after a notice has entered it, with the stamp of its subject's or a new one. -/
theorem PortState.QueueOk.insert (h : p.QueueOk) {rest : List Queued} {stamp next : Nat} (sub : rest.Sublist p.notices)
    (room : rest.length ≤ 31) (stamps : ∀ y ∈ rest, stamp ≠ y.stamp) (below : stamp < next)
    (later : p.nextStamp ≤ next) (subjects : ∀ y ∈ rest, n.subject = none ∨ n.subject ≠ y.notice.subject)
    {q : PortState} (notices : q.notices = insertQueued { cls := cls, stamp := stamp, notice := n } rest)
    (nextStamp : q.nextStamp = next) : q.QueueOk := by
  obtain ⟨-, sorted, given, coalesced⟩ := h
  have perm := insertQueued_perm { cls := cls, stamp := stamp, notice := n } rest
  rw [← notices] at perm
  refine ⟨by rw [perm.length_eq]; exact Nat.succ_le_succ room, ?_, fun x hx => ?_, ?_⟩
  · rw [notices]
    exact insertQueued_sorted (sorted.sublist sub) stamps
  · rw [nextStamp]
    rcases List.mem_cons.mp (perm.mem_iff.mp hx) with rfl | hx
    · exact below
    · exact (given x (sub.subset hx)).trans_le later
  · exact (perm.pairwise_iff Queued.Apart.symm).mpr (List.pairwise_cons.mpr ⟨subjects, coalesced.sublist sub⟩)

/-- A notice that enters leaves the queue in order (R177, R178). -/
theorem PortState.QueueOk.queueNotice (h : p.QueueOk) (cls : NoticeClass) (n : Notice) :
    (p.queueNotice cls n).QueueOk := by
  have ⟨size, _, given, _⟩ := h
  cases found : queuedSame n p.notices with
  | some old =>
    obtain ⟨mem, subject, same⟩ := queuedSame_eq_some found
    have other : ∀ y ∈ p.notices.erase old, y ∈ p.notices ∧ old ≠ y := fun y hy =>
      have hy := (h.nodup.mem_erase_iff).mp hy
      ⟨hy.2, hy.1.symm⟩
    rw [PortState.queueNotice_replaces h mem subject same]
    refine h.insert List.erase_sublist ?_ (fun y hy => ?_) (given old mem) le_rfl (fun y hy => ?_) rfl rfl
    · rw [List.length_erase_of_mem mem]
      omega
    · exact h.stamp_ne mem (other y hy).1 (other y hy).2
    · exact .inr fun e => (other y hy).2 (h.eq_of_subject mem (other y hy).1 (same ▸ subject) (same.trans e))
  | none =>
    have new := queuedSame_eq_none.mp found
    rw [PortState.queueNotice_enters new]
    have sub : (if 32 ≤ p.notices.length then displace p.notices else p.notices).Sublist p.notices := by
      split
      · exact displace_sublist _
      · exact .refl _
    refine h.insert sub ?_ (fun y hy => ?_) (Nat.lt_succ_self _) (Nat.le_succ _) (fun y hy => ?_) rfl rfl
    · split
      · rename_i full
        have := length_displace (l := p.notices) (by rintro e; simp [e] at full)
        omega
      · omega
    · exact (given y (sub.subset hy)).ne'
    · exact new.imp_right fun new e => new y (sub.subset hy) e.symm

/-- The queue of a subject that is queued, with its notice in the place of the one before (R177). -/
theorem PortState.queueNotice_replaced (h : p.QueueOk) (mem : old ∈ p.notices) (subject : n.subject ≠ none)
    (same : old.notice.subject = n.subject) :
    (∀ x, x ∈ (p.queueNotice cls n).notices ↔
        (x ∈ p.notices ∧ x ≠ old) ∨ x = { cls := cls, stamp := old.stamp, notice := n })
    ∧ (p.queueNotice cls n).notices.length = p.notices.length
    ∧ (p.queueNotice cls n).nextStamp = p.nextStamp ∧ (p.queueNotice cls n).dropped = p.dropped := by
  rw [PortState.queueNotice_replaces h mem subject same]
  have perm := insertQueued_perm { cls := cls, stamp := old.stamp, notice := n } (p.notices.erase old)
  refine ⟨fun x => ?_, ?_, rfl, rfl⟩
  · rw [perm.mem_iff, List.mem_cons, h.nodup.mem_erase_iff]
    tauto
  · rw [perm.length_eq, List.length_cons, List.length_erase_of_mem mem]
    have := List.length_pos_of_mem mem
    omega

/-- The queue with room, one notice longer (R177). -/
theorem PortState.queueNotice_entered (new : n.subject = none ∨ ∀ x ∈ p.notices, x.notice.subject ≠ n.subject)
    (room : p.notices.length < 32) :
    (∀ x, x ∈ (p.queueNotice cls n).notices ↔
        x ∈ p.notices ∨ x = { cls := cls, stamp := p.nextStamp, notice := n })
    ∧ (p.queueNotice cls n).notices.length = p.notices.length + 1 ∧ (p.queueNotice cls n).dropped = p.dropped := by
  have perm := insertQueued_perm { cls := cls, stamp := p.nextStamp, notice := n } p.notices
  rw [PortState.queueNotice_enters new, if_neg (by omega)]
  refine ⟨fun x => ?_, perm.length_eq, by simp [Nat.not_le.mpr room]⟩
  rw [perm.mem_iff, List.mem_cons, or_comm]

/-- The full queue, with the notice displaced out of it (R178). -/
theorem PortState.queueNotice_displaced (h : p.QueueOk)
    (new : n.subject = none ∨ ∀ x ∈ p.notices, x.notice.subject ≠ n.subject) (full : 32 ≤ p.notices.length)
    (out : old.Displaced p.notices) :
    (∀ x, x ∈ (p.queueNotice cls n).notices ↔
        (x ∈ p.notices ∧ x ≠ old) ∨ x = { cls := cls, stamp := p.nextStamp, notice := n })
    ∧ (p.queueNotice cls n).notices.length = 32 ∧ (p.queueNotice cls n).dropped = true := by
  have perm := insertQueued_perm { cls := cls, stamp := p.nextStamp, notice := n } (p.notices.erase old)
  rw [PortState.queueNotice_enters new, if_pos full, displace_eq_erase h.sorted out]
  refine ⟨fun x => ?_, ?_, by simp [full]⟩
  · rw [perm.mem_iff, List.mem_cons, h.nodup.mem_erase_iff]
    tauto
  · rw [perm.length_eq, List.length_cons, List.length_erase_of_mem out.mem]
    have := h.1
    omega

/-- A notice changes the queue of a port, its next stamp and its flag, and nothing else. -/
theorem PortState.queueNotice_fields (cls : NoticeClass) (n : Notice) (p : PortState) :
    p.queueNotice cls n = { p with
      notices := (p.queueNotice cls n).notices
      nextStamp := (p.queueNotice cls n).nextStamp
      dropped := (p.queueNotice cls n).dropped } := by
  unfold PortState.queueNotice
  split <;> rfl

end

/-! ## The notice at the ports (R176, R177, R179) -/

section
variable {p : PortState} (cls : NoticeClass) (n : Notice) (port : Port)

@[simp] theorem PortState.queueNotice_sending : (p.queueNotice cls n).sending = p.sending := by
  rw [PortState.queueNotice_fields]

@[simp] theorem PortState.queueNotice_responses : (p.queueNotice cls n).responses = p.responses := by
  rw [PortState.queueNotice_fields]

/-- A transmitter that sends goes on sending (R176). -/
theorem PortState.arbitrate_sending (now : Time) (busy : p.sending ≠ none) : p.arbitrate now = p := by
  obtain ⟨x, hx⟩ := Option.ne_none_iff_exists'.mp busy
  simp [PortState.arbitrate, hx]

/-- An idle transmitter takes the oldest response first (R176). -/
theorem PortState.arbitrate_response (now : Time) {f : TxFrame} {rest : List TxFrame} (idle : p.sending = none)
    (responses : p.responses = f :: rest) :
    p.arbitrate now = { p with
      responses := rest, sending := some { frame := f, ends := now + txTime f.content } } := by
  simp [PortState.arbitrate, idle, responses, PortState.send]

/-- An idle transmitter without a response takes the head of the notice queue (R176). -/
theorem PortState.arbitrate_notice (now : Time) {x : Queued} {rest : List Queued} (idle : p.sending = none)
    (responses : p.responses = []) (notices : p.notices = x :: rest) :
    p.arbitrate now = { p with
      notices := rest
      sending := some { frame := { content := noticeContent x.cls x.notice, releases := false, busy := false },
                        ends := now + txTime (noticeContent x.cls x.notice) } } := by
  simp [PortState.arbitrate, idle, responses, notices, PortState.send]

/-- An idle transmitter without a response or a notice stays idle (R176). -/
theorem PortState.arbitrate_none (now : Time) (responses : p.responses = []) (notices : p.notices = []) :
    p.arbitrate now = p := by
  cases sending : p.sending <;> simp [PortState.arbitrate, sending, responses, notices]

theorem PortState.notify_unrouted (now : Time) (h : n.routed port = false) : p.notify now cls n port = p := by
  simp [PortState.notify, h]

theorem PortState.notify_routed (now : Time) (h : n.routed port = true) :
    p.notify now cls n port = (p.queueNotice cls n).arbitrate now := by
  simp [PortState.notify, h]

end

/-- Settles O44: the queue by the subject of the notice and by its room, each port by the routing of the notice. -/
theorem noticesEnterAQueue : Obligations.NoticesEnterAQueue := by
  refine ⟨?_, fun s cls n port => ⟨State.raise_keeps .., fun unrouted => ?_, fun routed busy => ?_,
    fun x rest routed idle responses notices => ?_⟩, fun port => ?_⟩
  · rintro p q cls n ok rfl
    refine ⟨ok.queueNotice cls n, p.queueNotice_fields cls n, fun old mem subject same =>
      PortState.queueNotice_replaced ok mem subject same, fun new => ⟨?_, fun room =>
      PortState.queueNotice_entered new room, fun old mem full routine oldest =>
      PortState.queueNotice_displaced ok new full ⟨mem, routine, oldest⟩⟩⟩
    rw [PortState.queueNotice_enters new]
  · rw [State.raise_port, PortState.notify_unrouted cls n port _ unrouted]
  · rw [State.raise_port, PortState.notify_routed cls n port _ routed,
      PortState.arbitrate_sending _ (by rwa [PortState.queueNotice_sending])]
  · rw [State.raise_port, PortState.notify_routed cls n port _ routed,
      PortState.arbitrate_notice _ (by rwa [PortState.queueNotice_sending])
        (by rwa [PortState.queueNotice_responses]) notices]
  · refine ⟨fun _ => rfl, ?_, ?_, ?_, ?_, ?_, ?_, ?_, fun w => ?_, fun n other => ?_⟩
    case refine_9 =>
      cases n with
      | masterSilent w => exact absurd rfl (other w).1
      | masterRestored w => exact absurd rfl (other w).2
      | _ => cases port <;> rfl
    case refine_8 => cases port <;> cases w <;> exact ⟨rfl, rfl⟩
    all_goals cases port <;> intro _ <;> rfl

end Sys2Proof.Machine

/-! # The notice queues of the three ports, block by block (R177, R178) -/

namespace Sys2Proof.Machine

/-! ## What keeps a port's queue in order -/

section
variable {p q : PortState}

/-- The order of a queue reads the queue and the next stamp alone. -/
theorem PortState.QueueOk.congr (h : p.QueueOk) (notices : q.notices = p.notices)
    (nextStamp : q.nextStamp = p.nextStamp) : q.QueueOk := by
  rwa [PortState.QueueOk, notices, nextStamp]

/-- A queue that has lost notices. -/
theorem PortState.QueueOk.sublist (h : p.QueueOk) (notices : q.notices.Sublist p.notices)
    (nextStamp : q.nextStamp = p.nextStamp) : q.QueueOk := by
  obtain ⟨size, sorted, given, subjects⟩ := h
  refine ⟨notices.length_le.trans size, sorted.sublist notices, fun x hx => ?_, subjects.sublist notices⟩
  rw [nextStamp]
  exact given x (notices.subset hx)

/-- The arbiter takes the head of the queue at most (R176). -/
theorem PortState.QueueOk.arbitrate (h : p.QueueOk) (now : Time) : (p.arbitrate now).QueueOk := by
  unfold PortState.arbitrate
  split
  · exact h
  · split
    · exact h.congr rfl rfl
    · split
      · rename_i x rest notices
        exact h.sublist (by rw [notices]; exact .cons _ (.refl _)) rfl
      · exact h

theorem PortState.QueueOk.queueFrames (h : p.QueueOk) (now : Time) (frames : List TxFrame) :
    (p.queueFrames now frames).QueueOk :=
  PortState.QueueOk.arbitrate (p := { p with responses := p.responses ++ frames }) (h.congr rfl rfl) now

theorem PortState.QueueOk.notify (h : p.QueueOk) (now : Time) (cls : NoticeClass) (n : Notice) (port : Port) :
    (p.notify now cls n port).QueueOk := by
  unfold PortState.notify
  split
  · exact (h.queueNotice cls n).arbitrate now
  · exact h

theorem PortState.QueueOk.refuseBusy (h : p.QueueOk) (now : Time) (content : List Byte) :
    (p.refuseBusy now content).QueueOk := by
  unfold PortState.refuseBusy
  split
  · exact h.queueFrames ..
  · exact h

end

/-! ## An operation that keeps the queues -/

section
variable {s t u : State}

theorem State.queuesOk_iff : s.QueuesOk ↔ ∀ port, (s.pif.port port).QueueOk :=
  ⟨fun ⟨t, q, s⟩ port => by cases port <;> assumption, fun h => ⟨h .t, h .q, h .s⟩⟩

/-- The notice queues are in order after an operation if they were before it. -/
structure QueuesKept (s t : State) : Prop where
  ok : s.QueuesOk → t.QueuesOk

theorem QueuesKept.refl (s : State) : QueuesKept s s := ⟨id⟩

theorem QueuesKept.trans (h : QueuesKept s t) (k : QueuesKept t u) : QueuesKept s u := ⟨fun ok => k.ok (h.ok ok)⟩

/-- A change of the other parts of the state. -/
theorem QueuesKept.put (h : QueuesKept s t) (e : u.pif = t.pif) : QueuesKept s u :=
  ⟨fun ok => by rw [State.QueuesOk, e]; exact h.ok ok⟩

/-- An operation that leaves the ports. -/
theorem QueuesKept.ofPif (e : t.pif = s.pif) : QueuesKept s t := (QueuesKept.refl s).put e

/-- An operation that leaves each port, such as one on the watchdogs. -/
theorem QueuesKept.ofPorts (e : ∀ o, t.pif.port o = s.pif.port o) : QueuesKept s t :=
  ⟨fun ok => State.queuesOk_iff.mpr fun o => by rw [e]; exact State.queuesOk_iff.mp ok o⟩

/-- An operation whose changes do not reach the ports. -/
theorem KeepsBut.queuesKept {ps : List Part} (k : KeepsBut ps s t) (h : ps.contains .pif = false) :
    QueuesKept s t :=
  .ofPif (k.pif fun mem => by simp [mem] at h)

/-- An operation after a change of the other parts of the state. -/
theorem QueuesKept.after (k : QueuesKept t u) (e : t.pif = s.pif) : QueuesKept s u := (QueuesKept.ofPif e).trans k

theorem QueuesKept.foldl {α : Type} {f : State → α → State} (h : ∀ s a, QueuesKept s (f s a)) (l : List α)
    (s : State) : QueuesKept s (l.foldl f s) := ⟨foldl_holds (fun s a => (h s a).ok) l⟩

/-- A change of one port that keeps its queue. -/
theorem QueuesKept.updPort (h : QueuesKept s t) (port : Port) {f : PortState → PortState}
    (kept : ∀ p : PortState, p.QueueOk → (f p).QueueOk) : QueuesKept s (t.updPort port f) := by
  refine h.trans ⟨fun ok => State.queuesOk_iff.mpr fun o => ?_⟩
  have ok := State.queuesOk_iff.mp ok o
  by_cases same : o = port
  · subst same
    rw [State.updPort, Pif.port_updPort_same]
    exact kept _ ok
  · rwa [State.updPort, Pif.port_updPort_other _ same]

/-- A notice enters each queue at its place (R177). -/
theorem QueuesKept.raise (h : QueuesKept s t) (cls : NoticeClass) (n : Notice) : QueuesKept s (t.raise cls n) := by
  refine h.trans ⟨fun ok => State.queuesOk_iff.mpr fun port => ?_⟩
  rw [State.raise_port]
  exact (State.queuesOk_iff.mp ok port).notify ..

theorem QueuesKept.replySegments (h : QueuesKept s t) (a : Asked) (r : Result) (segments : List (List Byte)) :
    QueuesKept s (t.replySegments a r segments) :=
  h.updPort a.port fun _ ok => ok.queueFrames ..

theorem QueuesKept.reply (h : QueuesKept s t) (a : Asked) (r : Result) (units : List (List Byte)) :
    QueuesKept s (t.reply a r units) := h.replySegments a r _

end

section
variable (s : State) (n : Nat)

theorem State.raise_queuesKept (cls : NoticeClass) (note : Notice) : QueuesKept s (s.raise cls note) :=
  (QueuesKept.refl s).raise ..

theorem State.reply_queuesKept (a : Asked) (r : Result) (units : List (List Byte)) :
    QueuesKept s (s.reply a r units) := (QueuesKept.refl s).reply ..

theorem State.replyRange_queuesKept (a : Asked) (index : Nat) : QueuesKept s (s.replyRange a index) :=
  s.reply_queuesKept ..

/-! ## The zones (chapter 6) -/

theorem State.raiseZone_queuesKept (cls : NoticeClass) (event : LevelEvent) :
    QueuesKept s (s.raiseZone cls event n) := by
  unfold State.raiseZone
  split
  · exact .refl s
  · exact s.raise_queuesKept ..

theorem State.judgeDark_queuesKept : QueuesKept s (s.judgeDark n) := by
  unfold State.judgeDark
  split
  · exact .refl s
  · split
    · exact ((State.updZone_keeps ..).queuesKept rfl).trans (State.raiseZone_queuesKept ..)
    · exact ((State.updZone_keeps ..).queuesKept rfl).trans (State.raiseZone_queuesKept ..)
    · exact .refl s
    · exact .refl s

theorem State.changeLevel_queuesKept (new : Level) (cause : LevelCause) :
    QueuesKept s (s.changeLevel n new cause) := by
  unfold State.changeLevel
  split
  · exact .refl s
  · have changed : ∀ body f, QueuesKept s (((s.record body).updZone n f).abortTest n new) := fun _ _ =>
      .ofPif ((State.abortTest_keeps ..).pif (by decide))
    dsimp only
    split
    · exact changed ..
    · exact (changed ..).raise ..

theorem State.decideLevel_queuesKept (r : Nat) : QueuesKept s (s.decideLevel n r) := by
  unfold State.decideLevel
  split
  · exact .refl s
  · split
    · exact ((State.updZone_keeps ..).queuesKept rfl).trans (State.changeLevel_queuesKept ..)
    · split
      · dsimp only
        split
        · exact ((State.updZone_keeps ..).queuesKept rfl).trans (State.changeLevel_queuesKept ..)
        · exact (State.updZone_keeps ..).queuesKept rfl
      · exact (State.updZone_keeps ..).queuesKept rfl

theorem State.deliverRisk_queuesKept (d : Delivery) : QueuesKept s (s.deliverRisk d) :=
  (((State.updZone_keeps ..).queuesKept rfl).trans (State.decideLevel_queuesKept ..)).trans
    ((State.deriveDemand_keeps ..).queuesKept rfl)

theorem State.endFloor_queuesKept (role : Port) (byExpiry : Bool) : QueuesKept s (s.endFloor n role byExpiry) := by
  unfold State.endFloor
  split
  · exact .refl s
  · split
    · exact .refl s
    · exact (((State.updZone_keeps ..).queuesKept rfl).trans ((State.record_keeps ..).queuesKept rfl)).trans
        (State.raiseZone_queuesKept ..)

theorem State.setFloor_queuesKept (role : Port) (l : Level) (minutes : Nat) :
    QueuesKept s (s.setFloor n role l minutes) := by
  unfold State.setFloor
  split
  · exact .refl s
  · have set : ∀ f body, QueuesKept s ((s.updZone n f).record body) := fun _ _ => .ofPif rfl
    dsimp only
    refine QueuesKept.trans ?_ ((State.deriveDemand_keeps ..).queuesKept rfl)
    split
    · exact ((set ..).trans ((State.updZone_keeps ..).queuesKept rfl)).trans (State.changeLevel_queuesKept ..)
    · split
      · exact ((set ..).trans ((State.updZone_keeps ..).queuesKept rfl)).trans (State.raiseZone_queuesKept ..)
      · exact (set ..).trans (State.raiseZone_queuesKept ..)

theorem State.expireFloor_queuesKept (role : Port) : QueuesKept s (s.expireFloor n role) := by
  unfold State.expireFloor
  split
  · exact .refl s
  · split
    · exact .refl s
    · exact ((State.reach_keeps ..).queuesKept rfl).trans (State.endFloor_queuesKept ..)

theorem State.actOn_queuesKept (f : Zone → Zone) (action : Action) (event : LevelEvent) :
    QueuesKept s (s.actOn n f action event) :=
  (((State.updZone_keeps ..).queuesKept rfl).trans ((State.record_keeps ..).queuesKept rfl)).trans
    ((State.raiseZone_queuesKept ..).trans ((State.deriveDemand_keeps ..).queuesKept rfl))

theorem State.expireSilence_queuesKept : QueuesKept s (s.expireSilence n) := by
  unfold State.expireSilence
  split
  · exact .refl s
  · split
    · exact .refl s
    · exact ((State.reach_keeps ..).queuesKept rfl).trans (State.actOn_queuesKept ..)

theorem State.completeTest_queuesKept : QueuesKept s (s.completeTest n) := by
  unfold State.completeTest
  split
  · exact .refl s
  · split
    · exact .refl s
    · exact ((State.reach_keeps ..).queuesKept rfl).trans (State.actOn_queuesKept ..)

theorem State.silenceZone_queuesKept (port : Port) : QueuesKept s (s.silenceZone port n) := by
  unfold State.silenceZone
  split
  · exact .refl s
  · split
    · exact (((State.updZone_keeps ..).queuesKept rfl).trans ((State.deriveDemand_keeps ..).queuesKept rfl)).trans
        (State.raiseZone_queuesKept ..)
    · exact .refl s

theorem State.applyZone_queuesKept (c : ZoneCfg) : QueuesKept s (s.applyZone c) := by
  unfold State.applyZone
  split
  · exact (State.updZone_keeps ..).queuesKept rfl
  · have created : QueuesKept s
        { s with zwc.zones := insertKey (fun z => z.cfg.zone) (Zone.created c) s.zwc.zones } := .ofPif rfl
    exact (created.trans (State.judgeDark_queuesKept ..)).trans ((State.deriveDemand_keeps ..).queuesKept rfl)

/-! ## The lines (chapter 7) -/

theorem State.raiseLine_queuesKept (cls : NoticeClass) (event : LineEvent) :
    QueuesKept s (s.raiseLine cls event n) := by
  unfold State.raiseLine
  split
  · exact .refl s
  · exact s.raise_queuesKept ..

theorem State.faultReport_queuesKept : QueuesKept s (s.faultReport n) := s.judgeDark_queuesKept _

theorem State.shortLine_queuesKept : QueuesKept s (s.shortLine n) := by
  unfold State.shortLine
  split
  · exact .refl s
  · split
    · dsimp only
      split
      · exact (State.updLine_keeps ..).queuesKept rfl
      · refine QueuesKept.trans ?_ (State.raiseLine_queuesKept ..)
        split
        · exact (State.updLine_keeps ..).queuesKept rfl
        · exact ((State.updLine_keeps ..).queuesKept rfl).trans (State.faultReport_queuesKept ..)
    · exact .refl s

theorem State.putOpen_queuesKept (v : Bool) : QueuesKept s (s.putOpen n v) := by
  have reported := ((State.updLine_keeps n (fun l => { l with openFlag := v }) s).queuesKept rfl).trans
    (State.faultReport_queuesKept _ n)
  unfold State.putOpen
  dsimp only
  split
  · exact reported.trans (State.raiseLine_queuesKept ..)
  · exact reported.trans (State.raiseLine_queuesKept ..)

theorem State.checkLine_queuesKept (sense : BitVec 32) : QueuesKept s (s.checkLine sense n) := by
  unfold State.checkLine
  split
  · exact .refl s
  · split
    · dsimp only
      split
      · exact ((State.updLine_keeps ..).queuesKept rfl).trans (State.putOpen_queuesKept ..)
      · split
        · exact ((State.updLine_keeps ..).queuesKept rfl).trans (State.putOpen_queuesKept ..)
        · exact (State.updLine_keeps ..).queuesKept rfl
    · exact .refl s

theorem State.checkLines_queuesKept (sense : BitVec 32) : QueuesKept s (s.checkLines sense) := by
  have counted : QueuesKept s { s.reach s.oda.nextCheck with
      oda.checks := (s.reach s.oda.nextCheck).oda.checks + 1 } := .ofPif rfl
  exact counted.trans (.foldl (fun t n => t.checkLine_queuesKept n sense) _ _)

theorem State.clearLatch_queuesKept (openFlag : Bool) : QueuesKept s (s.clearLatch n openFlag) := by
  have cleared : ∀ f body, QueuesKept s (((s.updLine n f).record body).raiseLine .routine .latchCleared n) :=
    fun _ _ => (State.raiseLine_queuesKept ..).after rfl
  unfold State.clearLatch
  dsimp only
  split
  · exact cleared ..
  · exact (cleared ..).trans (State.faultReport_queuesKept ..)

/-! ## The wind (chapter 3) -/

theorem State.updateBlind_queuesKept : QueuesKept s s.updateBlind := by
  unfold State.updateBlind
  split
  · exact (State.raise_queuesKept ..).after rfl
  · exact (State.raise_queuesKept ..).after rfl
  · exact .refl s
  · exact .refl s

theorem State.raiseGust_queuesKept (event : GustEvent) (reason : Option RemoveReason) (joined : Option Nat)
    (g : Gust) : QueuesKept s (s.raiseGust event reason joined g) := s.raise_queuesKept ..

theorem State.confirmGust_queuesKept (slot : Nat) : QueuesKept s (s.confirmGust n slot) := by
  unfold State.confirmGust
  split
  · exact .refl s
  · split
    · exact ((State.updGust_keeps ..).queuesKept rfl).trans (State.raiseGust_queuesKept ..)
    · exact .refl s

theorem State.mergeGust_queuesKept (g : Gust) (slot peak : Nat) : QueuesKept s (s.mergeGust g slot peak) :=
  (((State.updGust_keeps ..).queuesKept rfl).trans (State.raiseGust_queuesKept ..)).trans
    (State.confirmGust_queuesKept ..)

theorem State.appendGust_queuesKept (slot dir peak : Nat) : QueuesKept s (s.appendGust slot dir peak) :=
  (State.raise_queuesKept ..).after rfl

theorem State.openGust_queuesKept (slot dir peak : Nat) : QueuesKept s (s.openGust slot dir peak) := by
  unfold State.openGust
  split
  · exact s.appendGust_queuesKept ..
  · split
    · rename_i g _
      have removed : QueuesKept s
          (({ s with wgt.gusts := removeKey (fun x => x.id) g.id s.wgt.gusts }).raiseGust .removed (some .room) none g) :=
        (State.raise_queuesKept ..).after rfl
      exact removed.trans (State.appendGust_queuesKept ..)
    · split
      · exact s.mergeGust_queuesKept ..
      · exact .refl s

theorem State.gustMember_queuesKept (slot dir peak : Nat) : QueuesKept s (s.gustMember slot dir peak) := by
  unfold State.gustMember
  split
  · exact (State.updGust_keeps ..).queuesKept rfl
  · split
    · exact ((State.updGust_keeps ..).queuesKept rfl).trans (State.confirmGust_queuesKept ..)
    · exact s.openGust_queuesKept ..

theorem State.gustMembership_queuesKept : QueuesKept s s.gustMembership := by
  refine .foldl (fun t m => ?_) _ _
  split
  · exact t.gustMember_queuesKept ..
  · exact .refl t

/-- A notice of each gust record of a list, in its order. -/
theorem State.raiseGusts_queuesKept (event : GustEvent) (reason : Option RemoveReason) (f : State → Gust → Gust)
    (l : List Gust) : QueuesKept s (l.foldl (fun t g => t.raiseGust event reason none (f t g)) s) :=
  .foldl (fun t _ => t.raiseGust_queuesKept ..) _ _

theorem State.closeGusts_queuesKept : QueuesKept s s.closeGusts :=
  (State.raiseGusts_queuesKept _ .closed none (fun t g => g.shut t.flc.round) _).after rfl

theorem State.ageGusts_queuesKept : QueuesKept s s.ageGusts :=
  (State.raiseGusts_queuesKept _ .removed (some .aged) (fun _ g => g) _).after rfl

theorem State.leaveGusts_queuesKept : QueuesKept s (s.leaveGusts n) :=
  (State.raiseGusts_queuesKept _ .closed none (fun t g => g.shut t.flc.round) _).after rfl

theorem State.closeWind_queuesKept : QueuesKept s s.closeWind := by
  have pushed : QueuesKept s { s.pushMasts with wgt.site := windSiteOf s.pushMasts.wgt.masts } := .ofPif rfl
  have judged : QueuesKept s s.pushMasts.chooseLead.judgeMasts :=
    (pushed.trans (State.updateBlind_queuesKept _)).put rfl
  exact (((judged.trans (State.gustMembership_queuesKept _)).trans (State.closeGusts_queuesKept _)).trans
    (State.ageGusts_queuesKept _)).put rfl

theorem State.applyMast_queuesKept (before after : Option (Kind × Identity)) :
    QueuesKept s (s.applyMast n before after) := by
  unfold State.applyMast
  split
  · split
    · exact .refl s
    · exact ((State.updMast_keeps ..).queuesKept rfl).trans (State.leaveGusts_queuesKept ..)
  · exact (State.leaveGusts_queuesKept ..).after rfl
  · exact .ofPif rfl
  · exact .refl s

theorem State.restartWind_queuesKept : QueuesKept s s.restartWind := by
  unfold State.restartWind
  dsimp only
  split
  · exact .ofPif rfl
  · exact (State.raise_queuesKept ..).after rfl

/-! ## The site and the piles (chapter 4) -/

theorem State.noticeGauges_queuesKept (before : Nat) : QueuesKept s (s.noticeGauges before) := by
  unfold State.noticeGauges
  split
  · exact s.raise_queuesKept ..
  · split
    · exact s.raise_queuesKept ..
    · exact .refl s

theorem State.changeBand_queuesKept (new : Band) (reason : BandReason) : QueuesKept s (s.changeBand new reason) :=
  (State.raise_queuesKept ..).after rfl

theorem State.actCandidate_queuesKept (c : Band) : QueuesKept s (s.actCandidate c) := by
  unfold State.actCandidate
  split
  · exact .ofPif rfl
  · split
    · exact s.changeBand_queuesKept ..
    · split
      · split
        · exact s.changeBand_queuesKept ..
        · exact .ofPif rfl
      · exact .ofPif rfl

theorem State.evaluateBand_queuesKept : QueuesKept s s.evaluateBand := by
  unfold State.evaluateBand
  split
  · unfold State.noGaugeClose
    dsimp only
    split
    · exact (State.changeBand_queuesKept ..).after rfl
    · exact .ofPif rfl
  · exact (State.actCandidate_queuesKept ..).after rfl

theorem State.closeSite_queuesKept : QueuesKept s s.closeSite :=
  ((((State.ageSite_keeps s).queuesKept rfl).trans (State.noticeGauges_queuesKept ..)).trans
    (State.evaluateBand_queuesKept _)).put rfl

theorem State.storePile_queuesKept (v : PileValues) (estimated : Bool) (leadMean : Nat) :
    QueuesKept s (s.storePile n v estimated leadMean) := by
  unfold State.storePile
  split
  · exact .refl s
  · dsimp only
    split
    · exact (State.updPile_keeps ..).queuesKept rfl
    · exact ((State.updPile_keeps ..).queuesKept rfl).raise ..

/-! ## The assessment (chapter 5) -/

theorem State.assessPile_queuesKept : QueuesKept s (s.assessPile n) := by
  unfold State.assessPile
  split
  · exact .refl s
  · split
    · exact .refl s
    · exact ((State.putWind_keeps ..).queuesKept rfl).trans (State.storePile_queuesKept ..)

theorem State.assess_queuesKept : QueuesKept s s.assess := by
  have before : QueuesKept s s.beforeZones := by
    unfold State.beforeZones
    split
    · exact .refl s
    · exact (QueuesKept.foldl (fun t n => t.assessPile_queuesKept n) _ _).trans
        ((State.assessPaths_keeps _).queuesKept rfl)
  exact (before.trans ((State.assessZones_keeps _).queuesKept rfl)).trans
    (.foldl (fun t r => t.deliverRisk_queuesKept _) _ _)

/-! ## The stations (chapter 2) -/

theorem State.raiseStation_queuesKept (cls : NoticeClass) (cause : StationCause) :
    QueuesKept s (s.raiseStation cls cause n) := by
  unfold State.raiseStation
  split
  · exact .refl s
  · exact s.raise_queuesKept ..

theorem State.delivered_queuesKept (f : StationFrame) (heardA heardB : Bool) :
    QueuesKept s (s.delivered n f heardA heardB) := by
  unfold State.delivered
  split
  · exact .refl s
  · dsimp only
    have revoked : ∀ (b : Bool) g, QueuesKept s (if b then (s.updStation n g).revoke n else s.updStation n g) :=
      fun b g => by cases b <;> exact .ofPif rfl
    have admitted : ∀ (b c : Bool) g, QueuesKept s
        (if c then (if b then (s.updStation n g).revoke n else s.updStation n g).raiseStation .routine .admitted n
         else if b then (s.updStation n g).revoke n else s.updStation n g) := fun b c g => by
      cases c
      · exact revoked b g
      · exact (revoked b g).trans (State.raiseStation_queuesKept ..)
    split
    · exact (admitted ..).trans ((State.handOff_keeps ..).queuesKept rfl)
    · exact admitted ..

theorem State.missed_queuesKept : QueuesKept s (s.missed n) := by
  have left : ∀ (f : Station → Station) (cls : NoticeClass) (cause : StationCause),
      QueuesKept s (((s.updStation n f).revoke n).raiseStation cls cause n) := fun _ _ _ =>
    (State.raiseStation_queuesKept ..).after rfl
  unfold State.missed
  split
  · exact .refl s
  · split
    case h_7 =>
      split
      · exact left ..
      · exact .ofPif rfl
    case h_8 =>
      split
      · exact left ..
      · exact .ofPif rfl
    all_goals exact .ofPif rfl

theorem State.takeAnnounce_queuesKept (a : Announce) : QueuesKept s (s.takeAnnounce a) := by
  unfold State.takeAnnounce
  split
  · unfold State.strangerAnnounce
    split
    · exact .ofPif rfl
    · exact (State.raise_queuesKept ..).after rfl
  · dsimp only
    split
    · exact s.raiseStation_queuesKept ..
    · split
      case h_1 => split <;> exact .ofPif rfl
      case h_2 => exact (State.raiseStation_queuesKept ..).after rfl
      all_goals exact .ofPif rfl

theorem State.lapseSlot_queuesKept : QueuesKept s (s.lapseSlot n) := by
  unfold State.lapseSlot
  split
  · exact .refl s
  · split
    · exact (State.raiseStation_queuesKept ..).after rfl
    · exact .refl s

/-! ## The loop (chapter 1) -/

theorem State.raiseLoop_queuesKept (cls : NoticeClass) (round : Round) : QueuesKept s (s.raiseLoop cls round) :=
  s.raise_queuesKept ..

theorem State.loopNoticed_queuesKept (cls : Option NoticeClass) (note : LoopNotice) :
    QueuesKept s (s.loopNoticed cls note) := by
  cases cls with
  | none => exact .refl s
  | some cls => exact s.raise_queuesKept ..

theorem State.hearForeign_queuesKept : QueuesKept s s.hearForeign := by
  unfold State.hearForeign
  split
  · split <;> exact (State.raiseLoop_queuesKept ..).after rfl
  · exact .refl s

theorem State.takeCopy_queuesKept (side : Side) (w : Window) (e : CopyEnd) (bytes : List Byte) :
    QueuesKept s (s.takeCopy side w e bytes) := by
  unfold State.takeCopy
  split
  · unfold State.listenCopy
    split
    · split
      · exact s.hearForeign_queuesKept
      · exact .refl s
    · exact .refl s
  · exact (State.roundCopy_keeps ..).queuesKept rfl
  · exact (State.roundCopy_keeps ..).queuesKept rfl
  · exact .refl s

theorem State.endListen_queuesKept : QueuesKept s s.endListen := by
  unfold State.endListen
  split
  · exact (State.raiseLoop_queuesKept ..).after ((State.beginRound_keeps ..).pif (by decide))
  · exact .refl s

theorem State.endSlot_queuesKept : QueuesKept s (s.endSlot n) := by
  unfold State.endSlot
  split
  · exact .refl s
  · split
    · dsimp only
      split
      · exact .ofPif rfl
      · unfold State.passVerdict
        split
        · exact (State.delivered_queuesKept ..).after rfl
        · exact (State.missed_queuesKept ..).after rfl
        · exact (State.missed_queuesKept ..).after rfl
    · exact .refl s

theorem State.closeLoop_queuesKept : QueuesKept s s.closeLoop := by
  have registry : QueuesKept s s.registryClose :=
    (QueuesKept.foldl (fun t a => t.takeAnnounce_queuesKept a) _ _).trans
      (.foldl (fun t n => t.lapseSlot_queuesKept n) _ _)
  rw [State.closeLoop_eq]
  exact (registry.trans (State.loopNoticed_queuesKept ..)).put rfl

/-! ## The pending set and its apply (chapter 8) -/

theorem State.freeSet_queuesKept (event : ConfigEvent) : QueuesKept s (s.freeSet event) :=
  (State.raise_queuesKept ..).after rfl

theorem State.expireIdle_queuesKept : QueuesKept s s.expireIdle := by
  unfold State.expireIdle
  split
  · exact ((State.reach_keeps ..).queuesKept rfl).trans (State.freeSet_queuesKept ..)
  · exact .refl s

theorem State.expireProposal_queuesKept : QueuesKept s s.expireProposal := by
  unfold State.expireProposal
  split
  · exact ((State.reach_keeps ..).queuesKept rfl).trans (State.freeSet_queuesKept ..)
  · exact .refl s

theorem State.changeOccupant_queuesKept (before after : Option (Kind × Identity)) :
    QueuesKept s (s.changeOccupant n before after) :=
  ((State.applyMast_queuesKept ..).trans ((State.applyGauge_keeps ..).queuesKept rfl)).trans
    ((State.applyMonitor_keeps ..).queuesKept rfl)

theorem State.applyOut_queuesKept (x : Item) : QueuesKept s (s.applyOut x) := by
  cases x with
  | remove k =>
    cases k with
    | station n => exact ((State.dropStation_keeps n s).queuesKept rfl).trans (State.changeOccupant_queuesKept ..)
    | pile n => exact ((State.dropPile_keeps n s).queuesKept rfl).trans ((State.dropWind_keeps ..).queuesKept rfl)
    | zone n => exact ((State.dropZone_keeps n s).queuesKept rfl).trans ((State.dropZoneResult_keeps ..).queuesKept rfl)
    | path p z => exact (State.dropPath_keeps ..).queuesKept rfl
    | site => exact .refl s
  | _ => exact .refl s

theorem State.applyPut_queuesKept (x : Item) : QueuesKept s (s.applyPut x) := by
  cases x with
  | remove k => exact .refl s
  | station c => exact ((State.applyStation_keeps c s).queuesKept rfl).trans (State.changeOccupant_queuesKept ..)
  | pile c => exact ((State.applyPile_keeps c s).queuesKept rfl).trans ((State.applyWind_keeps ..).queuesKept rfl)
  | zone c => exact (s.applyZone_queuesKept c).trans ((State.applyZoneResult_keeps ..).queuesKept rfl)
  | path c => exact (State.applyPath_keeps ..).queuesKept rfl
  | site p => exact .ofPif rfl

theorem State.applySet_queuesKept : QueuesKept s s.applySet := by
  have items : QueuesKept s (s.applyItems s.cau.items) :=
    (QueuesKept.foldl State.applyOut_queuesKept _ _).trans (.foldl State.applyPut_queuesKept _ _)
  unfold State.applySet
  split
  · split
    · exact s.freeSet_queuesKept ..
    · exact (items.trans ((State.record_keeps ..).queuesKept rfl)).trans (State.freeSet_queuesKept ..)
  · exact .refl s
  · exact .refl s
  · exact .refl s

/-! ## The round close (R3, R163) -/

theorem State.closeRound_queuesKept : QueuesKept s s.closeRound := by
  unfold State.closeRound
  split
  · exact .refl s
  · rename_i p _
    split
    · have begun : QueuesKept s (s.atClose p) := .ofPif rfl
      have applied := begun.trans (State.applySet_queuesKept _)
      have wind := (applied.trans (State.closeLoop_queuesKept _)).trans (State.closeWind_queuesKept _)
      exact (wind.trans (State.closeSite_queuesKept _)).trans (State.assess_queuesKept _)
    · exact .refl s

end

end Sys2Proof.Machine

/-! # Every command keeps the notice queues of the ports (R177, R178) -/

namespace Sys2Proof.Machine

/-! ## The commands of the masters -/

section
variable (a : Asked) (s : State)

theorem reportWettingCommand_queuesKept (pile : Byte) : QueuesKept s (reportWettingCommand pile a s) := by
  unfold reportWettingCommand
  split
  · split
    · exact s.reply_queuesKept a ..
    · exact ((State.updPile_keeps ..).queuesKept rfl).reply ..
  · exact s.replyRange_queuesKept a ..

theorem reportActivityCommand_queuesKept (pile activity : Byte) :
    QueuesKept s (reportActivityCommand pile activity a s) := by
  unfold reportActivityCommand
  split
  · split
    · exact s.replyRange_queuesKept a ..
    · split
      · exact s.reply_queuesKept a ..
      · exact ((State.updPile_keeps ..).queuesKept rfl).reply ..
  · exact s.replyRange_queuesKept a ..

theorem floorCommand_queuesKept (zone level : Byte) (minutes : BitVec 16) :
    QueuesKept s (floorCommand zone level minutes a s) := by
  unfold floorCommand
  split
  · split
    · exact s.replyRange_queuesKept a ..
    · split
      · exact s.reply_queuesKept a ..
      · split
        · exact s.reply_queuesKept a ..
        · split
          · exact (s.endFloor_queuesKept ..).reply ..
          · exact (s.setFloor_queuesKept ..).reply ..
  · exact s.replyRange_queuesKept a ..

theorem ackAlertCommand_queuesKept (zone : Byte) : QueuesKept s (ackAlertCommand zone a s) := by
  unfold ackAlertCommand
  split
  · split
    · exact s.reply_queuesKept a ..
    · split
      · exact (s.actOn_queuesKept ..).reply ..
      · exact s.reply_queuesKept a ..
  · exact s.replyRange_queuesKept a ..

theorem silenceCommand_queuesKept (zone : Byte) (minutes : BitVec 16) :
    QueuesKept s (silenceCommand zone minutes a s) := by
  unfold silenceCommand
  split
  · split
    · exact s.reply_queuesKept a ..
    · exact (s.actOn_queuesKept ..).reply ..
  · exact s.replyRange_queuesKept a ..

theorem serviceCommand_queuesKept (zone state : Byte) : QueuesKept s (serviceCommand zone state a s) := by
  unfold serviceCommand
  split
  · split
    · exact s.replyRange_queuesKept a ..
    · split
      · exact s.reply_queuesKept a ..
      · split
        · exact s.reply_queuesKept a ..
        · exact (s.actOn_queuesKept ..).reply ..
  · exact s.replyRange_queuesKept a ..

theorem testCommand_queuesKept (zone : Byte) : QueuesKept s (testCommand zone a s) := by
  unfold testCommand
  split
  · split
    · exact s.reply_queuesKept a ..
    · split
      · exact (s.actOn_queuesKept ..).reply ..
      · exact s.reply_queuesKept a ..
  · exact s.replyRange_queuesKept a ..

theorem clearLineCommand_queuesKept (line : Byte) : QueuesKept s (clearLineCommand line a s) := by
  unfold clearLineCommand
  split
  · split
    · exact s.replyRange_queuesKept a ..
    · split
      · exact (s.clearLatch_queuesKept ..).reply ..
      · exact s.reply_queuesKept a ..
  · exact s.replyRange_queuesKept a ..

theorem State.ackToSilent_queuesKept (slot : Nat) : QueuesKept s (s.ackToSilent slot) :=
  (State.raiseStation_queuesKept ..).after rfl

theorem State.ackToQueue_queuesKept (slot : Nat) : QueuesKept s (s.ackToQueue slot) :=
  (State.raiseStation_queuesKept ..).after rfl

theorem ackLossCommand_queuesKept (slot : Byte) : QueuesKept s (ackLossCommand slot a s) := by
  unfold ackLossCommand
  split
  · split
    · exact s.reply_queuesKept a ..
    · split
      case h_1 => exact (s.ackToSilent_queuesKept ..).reply ..
      case h_2 =>
        split
        · exact (s.ackToQueue_queuesKept ..).reply ..
        · exact (s.ackToSilent_queuesKept ..).reply ..
      all_goals exact s.reply_queuesKept a ..
  · exact s.replyRange_queuesKept a ..

theorem State.claimSet_queuesKept (x : Item) (port : Port) : QueuesKept s (s.claimSet x port) :=
  (State.raise_queuesKept ..).after rfl

theorem State.stageOpen_queuesKept (item : List Byte) : QueuesKept s (s.stageOpen item a) := by
  have answered : ∀ (c : Cau) r units, QueuesKept s (({ s with cau := c }).reply a r units) := fun _ _ _ =>
    (State.reply_queuesKept ..).after rfl
  unfold State.stageOpen
  dsimp only
  split
  · exact answered ..
  · split
    · exact answered ..
    · split <;> exact answered ..

theorem stageCommand_queuesKept (item : List Byte) : QueuesKept s (stageCommand item a s) := by
  unfold stageCommand
  split
  · split
    · exact s.replyRange_queuesKept a ..
    · exact (s.claimSet_queuesKept ..).reply ..
  · split
    · exact s.stageOpen_queuesKept ..
    · exact s.reply_queuesKept a ..
  · split <;> exact s.reply_queuesKept a ..
  · exact s.reply_queuesKept a ..

theorem discardCommand_queuesKept : QueuesKept s (discardCommand a s) := by
  unfold discardCommand
  split
  · exact s.reply_queuesKept a ..
  · split
    · exact (s.freeSet_queuesKept ..).reply ..
    · exact s.reply_queuesKept a ..
  · split
    · exact (s.freeSet_queuesKept ..).reply ..
    · exact s.reply_queuesKept a ..
  · split <;> exact s.reply_queuesKept a ..

theorem State.proposeSet_queuesKept : QueuesKept s s.proposeSet := (State.raise_queuesKept ..).after rfl

theorem proposeCommand_queuesKept : QueuesKept s (proposeCommand a s) := by
  unfold proposeCommand
  split
  · exact s.reply_queuesKept a ..
  · split
    · exact s.proposeSet_queuesKept.reply ..
    · exact s.reply_queuesKept a ..
  · split <;> exact s.reply_queuesKept a ..
  · split <;> exact s.reply_queuesKept a ..

theorem State.acceptSet_queuesKept : QueuesKept s s.acceptSet := (State.raise_queuesKept ..).after rfl

theorem acceptCommand_queuesKept (n : Byte) : QueuesKept s (acceptCommand n a s) := by
  unfold acceptCommand
  split
  · exact s.replyRange_queuesKept a ..
  · split
    · exact s.reply_queuesKept a ..
    · split <;> exact s.reply_queuesKept a ..
    · split
      · exact s.reply_queuesKept a ..
      · split
        · exact s.acceptSet_queuesKept.reply ..
        · exact s.reply_queuesKept a ..
    · split <;> exact s.reply_queuesKept a ..

theorem refuseCommand_queuesKept (n : Byte) : QueuesKept s (refuseCommand n a s) := by
  unfold refuseCommand
  split
  · exact s.replyRange_queuesKept a ..
  · split
    · exact s.reply_queuesKept a ..
    · split <;> exact s.reply_queuesKept a ..
    · split
      · exact s.reply_queuesKept a ..
      · split
        · exact (s.freeSet_queuesKept ..).reply ..
        · exact s.reply_queuesKept a ..
    · split <;> exact s.reply_queuesKept a ..

/-- STATUS clears the dropped flag of its port. -/
theorem statusCommand_queuesKept : QueuesKept s (statusCommand a s) := by
  have cleared : QueuesKept s (s.updPort a.port fun p => { p with dropped := false }) :=
    (QueuesKept.refl s).updPort a.port fun _ ok => ok.congr rfl rfl
  exact cleared.reply ..

theorem readZoneCommand_queuesKept (zone : Byte) : QueuesKept s (readZoneCommand zone a s) := by
  unfold readZoneCommand
  split
  · split <;> exact s.reply_queuesKept a ..
  · exact s.replyRange_queuesKept a ..

theorem readPending_queuesKept (kind key1 key2 : Byte) : QueuesKept s (readPending kind key1 key2 a s) := by
  unfold readPending
  split
  · exact s.replyRange_queuesKept a ..
  · split
    · exact s.replyRange_queuesKept a ..
    · split
      · exact s.reply_queuesKept a ..
      · split <;> exact s.reply_queuesKept a ..

theorem readInForce_queuesKept (kind key1 key2 : Byte) : QueuesKept s (readInForce kind key1 key2 a s) := by
  unfold readInForce
  split
  · split
    · exact s.replyRange_queuesKept a ..
    · split <;> exact s.reply_queuesKept a ..
  · exact s.replyRange_queuesKept a ..

theorem readConfigItemCommand_queuesKept (source kind key1 key2 : Byte) :
    QueuesKept s (readConfigItemCommand source kind key1 key2 a s) := by
  unfold readConfigItemCommand
  split
  · exact readPending_queuesKept ..
  · split
    · exact readInForce_queuesKept ..
    · exact s.replyRange_queuesKept a ..

theorem readLogNextCommand_queuesKept : QueuesKept s (readLogNextCommand a s) := by
  have read : QueuesKept s { s with wrl := s.wrl.afterNext } := .ofPif rfl
  exact read.replySegments ..

theorem readLogAtCommand_queuesKept (seq : Seq) : QueuesKept s (readLogAtCommand seq a s) := by
  unfold readLogAtCommand
  split <;> exact s.reply_queuesKept a ..

theorem State.restartSet_queuesKept : QueuesKept s s.restartSet := by
  unfold State.restartSet
  split
  · exact .refl s
  · exact s.freeSet_queuesKept ..

/-- A RESTART raises WIND_BLIND and CONFIG DISCARDED at most, after its response (R67, R162). -/
theorem restartCommand_queuesKept : QueuesKept s (restartCommand a s) := by
  have marked : QueuesKept s (s.restartLoop.markRestart a.port) :=
    ((State.restartLoop_keeps s).queuesKept rfl).trans ((State.markRestart_keeps ..).queuesKept rfl)
  have blocks : ∀ t : State, QueuesKept t t.restartBlocks := fun t =>
    (((((State.restartStations_keeps t).queuesKept rfl).trans (State.restartWind_queuesKept _)).trans
      ((State.restartSite_keeps _).queuesKept rfl)).trans ((State.restartRisk_keeps _).queuesKept rfl)).trans
      (((State.restartZones_keeps _).queuesKept rfl).trans (State.restartSet_queuesKept _))
  exact (marked.reply ..).trans (blocks _)

/-- Each command of the table leaves the notice queues in order. -/
theorem runCommand_queuesKept (c : Command) : QueuesKept s (runCommand c a s) := by
  cases c with
  | status => exact statusCommand_queuesKept ..
  | readZone => exact readZoneCommand_queuesKept ..
  | readPile | readStations | readStrangers | readGusts | readPaths | readLoop => exact s.reply_queuesKept a ..
  | readConfigItem => exact readConfigItemCommand_queuesKept ..
  | reportWetting => exact reportWettingCommand_queuesKept ..
  | reportActivity => exact reportActivityCommand_queuesKept ..
  | floor => exact floorCommand_queuesKept ..
  | ackAlert => exact ackAlertCommand_queuesKept ..
  | silence => exact silenceCommand_queuesKept ..
  | service => exact serviceCommand_queuesKept ..
  | test => exact testCommand_queuesKept ..
  | clearLine => exact clearLineCommand_queuesKept ..
  | ackLoss => exact ackLossCommand_queuesKept ..
  | stage => exact stageCommand_queuesKept ..
  | discard => exact discardCommand_queuesKept ..
  | propose => exact proposeCommand_queuesKept ..
  | accept => exact acceptCommand_queuesKept ..
  | refuse => exact refuseCommand_queuesKept ..
  | restart => exact restartCommand_queuesKept ..
  | readLogNext => exact readLogNextCommand_queuesKept ..
  | readLogAt => exact readLogAtCommand_queuesKept ..

theorem judgeCommand_queuesKept (c : Option Command) : QueuesKept s (judgeCommand c a s) := by
  rcases judgeCommand_cases a s c with ⟨r, e⟩ | ⟨x, _, e⟩
  · rw [e]; exact s.reply_queuesKept a ..
  · rw [e]; exact runCommand_queuesKept ..

end

/-! ## The ports (R171, R172, R180) -/

section
variable (s : State) (port : Port)

/-- A change of a port's receiver, of its holding or of what it sends. -/
theorem State.updPort_queuesKept {f : PortState → PortState}
    (kept : ∀ p : PortState, p.QueueOk → (f p).QueueOk) : QueuesKept s (s.updPort port f) :=
  (QueuesKept.refl s).updPort port kept

theorem State.issue_queuesKept (tag : Byte) (c : Command) : QueuesKept s (s.issue port tag c) := by
  rw [State.issue_eq]
  refine QueuesKept.trans ?_ (judgeCommand_queuesKept ..)
  unfold State.held
  split
  · exact s.updPort_queuesKept port fun _ ok => ok.congr rfl rfl
  · exact .refl s

theorem State.takeContent_queuesKept (content : List Byte) (releases : Bool) :
    QueuesKept s (s.takeContent port content releases) := by
  unfold State.takeContent
  split
  · exact State.reply_queuesKept ..
  · exact judgeCommand_queuesKept ..

theorem State.holdContent_queuesKept (content : List Byte) : QueuesKept s (s.holdContent port content) := by
  have held : QueuesKept s (s.updPort port fun p => { p with executing := some content }) :=
    s.updPort_queuesKept port fun _ ok => ok.congr rfl rfl
  unfold State.holdContent
  split
  · exact held.trans (State.takeContent_queuesKept ..)
  · exact s.updPort_queuesKept port fun _ ok => ok.congr rfl rfl
  · exact s.updPort_queuesKept port fun _ ok => ok.refuseBusy ..

theorem State.setReceiver_queuesKept (r : Receiver) : QueuesKept s (s.setReceiver port r) :=
  s.updPort_queuesKept port fun _ ok => ok.congr rfl rfl

theorem State.restartWatch_queuesKept : QueuesKept s (s.restartWatch port) := by
  unfold State.restartWatch
  split
  · dsimp only
    split
    · exact QueuesKept.raise (.ofPorts fun o => by cases o <;> rfl) ..
    · exact .ofPorts fun o => by cases o <;> rfl
  · dsimp only
    split
    · exact QueuesKept.raise (.ofPorts fun o => by cases o <;> rfl) ..
    · exact .ofPorts fun o => by cases o <;> rfl
  · exact .refl s

theorem State.receiveFrame_queuesKept (bytes : List Byte) (e : Bool) :
    QueuesKept s (s.receiveFrame port bytes e) := by
  unfold State.receiveFrame State.judgeFrame
  split
  · exact s.setReceiver_queuesKept ..
  · dsimp only
    split
    · exact s.setReceiver_queuesKept ..
    · exact ((s.setReceiver_queuesKept ..).trans (State.restartWatch_queuesKept ..)).trans
        (State.holdContent_queuesKept ..)

theorem State.timeoutFrame_queuesKept : QueuesKept s (s.timeoutFrame port) := by
  unfold State.timeoutFrame
  split
  · exact .refl s
  · exact ((State.reach_keeps ..).queuesKept rfl).trans (State.setReceiver_queuesKept ..)

theorem State.releaseHolding_queuesKept : QueuesKept s (s.releaseHolding port) := by
  have released : QueuesKept s (s.updPort port fun p => { p with executing := p.waiting, waiting := none }) :=
    s.updPort_queuesKept port fun _ ok => ok.congr rfl rfl
  unfold State.releaseHolding
  dsimp only
  split
  · exact released
  · exact released.trans (State.takeContent_queuesKept ..)

theorem State.completeFrame_queuesKept : QueuesKept s (s.completeFrame port) := by
  unfold State.completeFrame
  split
  · exact .refl s
  · have sent : ∀ end_ now, QueuesKept s
        ((s.reach end_).updPort port fun p => { p with sending := none }.arbitrate now) := fun _ _ =>
      ((State.reach_keeps ..).queuesKept rfl).updPort port fun p ok =>
        PortState.QueueOk.arbitrate (p := { p with sending := none }) (ok.congr rfl rfl) _
    dsimp only
    split
    · exact (sent ..).trans (State.releaseHolding_queuesKept ..)
    · exact sent ..

theorem State.silenceSet_queuesKept : QueuesKept s (s.silenceSet port) := by
  unfold State.silenceSet
  split
  · exact s.freeSet_queuesKept ..
  · exact .refl s

theorem State.silenceMaster_queuesKept : QueuesKept s (s.silenceMaster port) := by
  have stopped : QueuesKept s { s with pif := s.pif.stopWatch port } :=
    .ofPorts fun o => by cases port <;> cases o <;> rfl
  have noticed := (stopped.trans ((State.record_keeps (.action .masterSilent port) _).queuesKept rfl)).raise .urgent
    (.site (.masterSilent port))
  have zones : ∀ t : State, QueuesKept t (t.silenceZones port) := fun t =>
    .foldl (fun t n => t.silenceZone_queuesKept n port) _ _
  exact ((noticed.trans (zones _)).trans ((State.silencePiles_keeps ..).queuesKept rfl)).trans
    (State.silenceSet_queuesKept ..)

theorem State.expireWatch_queuesKept : QueuesKept s (s.expireWatch port) := by
  unfold State.expireWatch
  split
  · exact .refl s
  · exact ((State.reach_keeps ..).queuesKept rfl).trans (State.silenceMaster_queuesKept ..)

end

/-! ## The events -/

section
variable {s t u : State}

theorem State.QueuesOk.ofNext (h : s.QueuesOk) (he : (.next u : Host.Outcome State Fault Refusal) = .next t)
    (hu : QueuesKept s u) : t.QueuesOk := by
  cases he
  exact hu.ok h

/-- Every command and every event keeps the notice queues. -/
theorem exec_queuesOk (i : Instr) (h : s.QueuesOk) (he : exec i s = .next t) : t.QueuesOk := by
  cases i
  case power => cases he; exact State.queuesOk_iff.mpr fun port => by cases port <;> exact PortState.afterPower_queueOk
  case short n => exact h.ofNext he (s.shortLine_queuesKept n)
  case retryWaitEnd n => exact h.ofNext he ((State.endRetry_keeps n s).queuesKept rfl)
  case patternPhaseChange g => exact h.ofNext he ((State.changePhase_keeps g s).queuesKept rfl)
  case cleanCountTick => exact h.ofNext he ((State.cleanTick_keeps s).queuesKept rfl)
  case lineCheck sense => exact h.ofNext he (s.checkLines_queuesKept sense)
  case roundClose => exact h.ofNext he s.closeRound_queuesKept
  case silenceExpiry n => exact h.ofNext he (s.expireSilence_queuesKept n)
  case testEnd n => exact h.ofNext he (s.completeTest_queuesKept n)
  case masterSilenceExpiry port => exact h.ofNext he (s.expireWatch_queuesKept port)
  case portFrame port bytes e => exact h.ofNext he (s.receiveFrame_queuesKept port bytes e)
  case transmitComplete port => exact h.ofNext he (s.completeFrame_queuesKept port)
  case floorExpiry n role => exact h.ofNext he (s.expireFloor_queuesKept n role)
  case listenPeriodEnd => exact h.ofNext he s.endListen_queuesKept
  case foreignBeaconHeard => exact h.ofNext he s.hearForeign_queuesKept
  case backOffEnd => exact h.ofNext he ((State.endBackOff_keeps s).queuesKept rfl)
  case roundStart => exact h.ofNext he ((State.startRound_keeps s).queuesKept rfl)
  case phaseBOut => exact h.ofNext he ((State.startPhaseB_keeps s).queuesKept rfl)
  case loopCopy side w e bytes => exact h.ofNext he (s.takeCopy_queuesKept side w e bytes)
  case slotEnd n => exact h.ofNext he (s.endSlot_queuesKept n)
  case idleExpiry => exact h.ofNext he s.expireIdle_queuesKept
  case proposalExpiry => exact h.ofNext he s.expireProposal_queuesKept
  case portFrameTimeout port => exact h.ofNext he (s.timeoutFrame_queuesKept port)
  case portOpeningFlag port => exact h.ofNext he (s.setReceiver_queuesKept port _)
  case portFrameOverlength port => exact h.ofNext he (s.setReceiver_queuesKept port _)
  all_goals exact h.ofNext he (s.issue_queuesKept ..)

end

/-- Settles O52: every step keeps the notice queues ordered, bounded and coalesced. -/
theorem stepKeepsTheNoticeQueues : Obligations.StepKeepsTheNoticeQueues :=
  fun _ _ h hstep => step_keeps (fun _ _ h => h) (fun i _ _ h he => exec_queuesOk i h he) h hstep

end Sys2Proof.Machine

/-! # A command in its frame, and the order in which it is judged (R171, R173, R196) -/

namespace Sys2Proof.Machine

/-! ## Words of a command's parameters -/

/-- The two bytes of a number below 65,536 hold it. -/
theorem word16_bytes (n : Nat) (h : n < 65536) : word16 (BitVec.ofNat 8 (n / 256)) (BitVec.ofNat 8 n) = n := by
  simp only [word16, BitVec.toNat_ofNat]
  omega

theorem ofNat_word16_toNat (v : BitVec 16) :
    BitVec.ofNat 16 (word16 (BitVec.ofNat 8 (v.toNat / 256)) (BitVec.ofNat 8 v.toNat)) = v := by
  rw [word16_bytes _ v.isLt, BitVec.ofNat_toNat, BitVec.setWidth_eq]

/-- The four bytes of a number below 2^32 hold it, two and two. -/
theorem word16_pair_bytes (n : Nat) (h : n < 4294967296) :
    word16 (BitVec.ofNat 8 (n / 16777216)) (BitVec.ofNat 8 (n / 65536)) * 65536
      + word16 (BitVec.ofNat 8 (n / 256)) (BitVec.ofNat 8 n) = n := by
  simp only [word16, BitVec.toNat_ofNat]
  omega

theorem ofNat_word16_pair_toNat (v : BitVec 32) :
    BitVec.ofNat 32 (word16 (BitVec.ofNat 8 (v.toNat / 16777216)) (BitVec.ofNat 8 (v.toNat / 65536)) * 65536
      + word16 (BitVec.ofNat 8 (v.toNat / 256)) (BitVec.ofNat 8 v.toNat)) = v := by
  rw [word16_pair_bytes _ v.isLt, BitVec.ofNat_toNat, BitVec.setWidth_eq]

/-! ## The round trip of a command -/

/-- The parameters of a command in a good format: an item has the most, 70 bytes. -/
theorem Command.params_length_le {c : Command} (h : c.formatGood = true) : c.params.length ≤ 70 := by
  cases c
  case stage item => exact Sys2Proof.Laws.RowsOfCommands.length_le_of_itemFormat item h
  all_goals simp [Command.params, bytes2, bytes4]

/-- A framed content of at most 72 bytes is well-formed (R171). -/
theorem wellFormedContent_stuff {content : List Byte} (h : content.length ≤ 72) :
    wellFormedContent (stuff (content ++ crcBytes content)) false = some content := by
  have short : overLong (stuff (content ++ crcBytes content)) = false := by
    rw [overLong, unstuff_stuff]
    exact decide_eq_false (by simp [crcBytes, bytes2]; omega)
  rw [wellFormedContent, short, deframe_stuff]
  rfl

/-- The code and the parameter bytes of a command in a good format are read as that command. -/
theorem parseCommand_params {c : Command} (h : c.formatGood = true) : parseCommand c.code c.params = some c := by
  cases c
  case stage item => exact if_pos h
  case floor zone level minutes =>
    exact congrArg (fun m => some (Command.floor zone level m)) (ofNat_word16_toNat minutes)
  case silence zone minutes =>
    exact congrArg (fun m => some (Command.silence zone m)) (ofNat_word16_toNat minutes)
  case readLogAt seq => exact congrArg (fun n => some (Command.readLogAt n)) (ofNat_word16_pair_toNat seq)
  all_goals rfl

/-- Settles O51: the stuffing and the CRC are taken off again, and code and parameters name the command. -/
theorem commandRoundTrip : Obligations.CommandRoundTrip := by
  intro c tag tagged good
  have params := Command.params_length_le good
  refine ⟨wellFormedContent_stuff (Nat.succ_le_succ (Nat.succ_le_succ params)), ?_⟩
  rw [Command.content, commandOf, if_neg tagged, parseCommand_params good]

/-! ## The order of the judgement -/

/-- Settles O41: tag and format come first, then the role, then the owner. -/
theorem commandsAreJudgedInOrder : Obligations.CommandsAreJudgedInOrder :=
  fun s port tag c =>
    ⟨fun malformed => ⟨_, exec_malformed port tag c s malformed, .plain ..⟩,
      fun tagged good barred => ⟨_, exec_refusedRole port tag c s tagged good barred, .plain ..⟩,
      fun tagged good allowed => exec_runs port tag c s tagged good allowed⟩

end Sys2Proof.Machine

/-! # The receiver and the holding of a port (R171, R172, R180) -/

namespace Sys2Proof.Machine

/-! ## What a port queues -/

/-- Response frames leave the notices of their port. -/
theorem PortState.queueFrames_notices (now : Time) {frames : List TxFrame} (p : PortState) (h : frames ≠ []) :
    (p.queueFrames now frames).notices = p.notices ∧ (p.queueFrames now frames).dropped = p.dropped := by
  obtain ⟨f, rest, responses⟩ := List.exists_cons_of_ne_nil (List.append_ne_nil_of_right_ne_nil p.responses h)
  cases sending : p.sending with
  | none =>
    rw [PortState.queueFrames,
      PortState.arbitrate_response (p := { p with responses := p.responses ++ frames }) now sending responses]
    exact ⟨rfl, rfl⟩
  | some x =>
    rw [PortState.queueFrames,
      PortState.arbitrate_sending (p := { p with responses := p.responses ++ frames }) now (by simp [sending])]
    exact ⟨rfl, rfl⟩

section
variable (now : Time) (content : List Byte) (p : PortState)

theorem PortState.refuseBusy_holding : p.SameHolding (p.refuseBusy now content) := by
  unfold PortState.refuseBusy
  split
  · exact PortState.queueFrames_holding ..
  · exact .refl p

theorem PortState.refuseBusy_notices :
    (p.refuseBusy now content).notices = p.notices ∧ (p.refuseBusy now content).dropped = p.dropped := by
  unfold PortState.refuseBusy
  split
  · exact p.queueFrames_notices now (by simp)
  · exact ⟨rfl, rfl⟩

/-- Two busy refusals wait at most (R172). -/
theorem PortState.refuseBusy_outgoing :
    (p.refuseBusy now content).outgoing = p.outgoing ++
      (if (p.responses.filter (fun f => f.busy)).length < 2 then [busyFrame content] else []) := by
  unfold PortState.refuseBusy
  split
  · exact PortState.queueFrames_outgoing now _ p (by simp)
  · exact (List.append_nil _).symm

end

/-! ## The watchdog of a port that hears its master (R180) -/

section
variable (s : State) (port : Port)

theorem State.restartWatch_eq :
    s.restartWatch port = if (s.pif.watch port).map (fun w => w.master) = some .silent then
      (s.heardOn port).raise .routine (.site (.masterRestored port)) else s.heardOn port := by
  cases port with
  | t => simp only [Pif.watch, Option.map_some, Option.some.injEq]; rfl
  | q => simp only [Pif.watch, Option.map_some, Option.some.injEq]; rfl
  | s => rfl

theorem State.heardOn_port (o : Port) : (s.heardOn port).pif.port o = s.pif.port o := by
  cases port <;> cases o <;> rfl

/-- MASTER_RESTORED does not go to the port of its own master (R179). -/
theorem State.restartWatch_port : (s.restartWatch port).pif.port port = s.pif.port port := by
  have own : (Notice.site (.masterRestored port)).routed port = false := bne_self_eq_false port
  rw [State.restartWatch_eq]
  split
  · rw [State.raise_port, PortState.notify_unrouted _ _ _ _ own, State.heardOn_port]
  · exact s.heardOn_port port port

theorem State.setReceiver_port (r : Receiver) :
    (s.setReceiver port r).pif.port port = { s.pif.port port with receiver := r } := Pif.port_updPort_same ..

theorem State.setReceiver_watch (r : Receiver) (o : Port) : (s.setReceiver port r).pif.watch o = s.pif.watch o := by
  cases port <;> cases o <;> rfl

/-! ## The holding of a port (R172) -/

variable {s port} {content : List Byte}

theorem State.holdContent_taken (h : (s.pif.port port).executing = none) :
    s.holdContent port content =
      (s.updPort port (fun p => { p with executing := some content })).takeContent port content true := by
  rw [State.holdContent, h]

theorem State.holdContent_waits (h : (s.pif.port port).executing ≠ none) (w : (s.pif.port port).waiting = none) :
    s.holdContent port content = s.updPort port (fun p => { p with waiting := some content }) := by
  obtain ⟨c, executing⟩ := Option.ne_none_iff_exists'.mp h
  rw [State.holdContent, executing, w]

theorem State.holdContent_busy (h : (s.pif.port port).executing ≠ none) (w : (s.pif.port port).waiting ≠ none) :
    s.holdContent port content = s.updPort port (fun p => p.refuseBusy s.now content) := by
  obtain ⟨c, executing⟩ := Option.ne_none_iff_exists'.mp h
  obtain ⟨d, waiting⟩ := Option.ne_none_iff_exists'.mp w
  rw [State.holdContent, executing, waiting]

end

/-- A flag opens a frame where the receiver hunts, where no byte stands before it, and where the frame before it
is over-long or past its limit (R171). -/
theorem Receiver.opensFrame_of {now : Time} {bytes : List Byte} {r : Receiver}
    (h : r = .hunting ∨ ∃ since, r = .inside since ∧ (bytes = [] ∨ overLong bytes = true ∨ since + 100000 < now)) :
    r.opensFrame now bytes = true := by
  rcases h with rfl | ⟨since, rfl, rfl | long | late⟩
  · rfl
  · rfl
  · simp [Receiver.opensFrame, long]
  · simp [Receiver.opensFrame, frameLimit, late]

theorem State.timeoutFrame_inside {s : State} {port : Port} {since : Time}
    (h : (s.pif.port port).receiver = .inside since) :
    s.timeoutFrame port = (s.reach (since + 100000)).setReceiver port .hunting := by
  simp only [State.timeoutFrame, h, frameLimit]

/-- Settles O42: the receiver first, then the watchdog, then the holding by what it holds. -/
theorem framesAreHeldOrRefused : Obligations.FramesAreHeldOrRefused := by
  refine ⟨fun s port bytes stopBitError => ⟨fun opens => ?_, fun since inside bytes_ne short inTime => ?_⟩,
    fun s port => ⟨_, rfl, State.updPort_keeps .., rfl⟩, fun s port => ⟨_, rfl, State.updPort_keeps .., rfl⟩,
    fun s port since inside => ⟨_, rfl, State.timeoutFrame_keeps port s, ?_, ?_⟩⟩
  · exact congrArg Host.Outcome.next (State.receiveFrame_opens _ (Receiver.opensFrame_of opens))
  · have closes : (s.pif.port port).receiver.opensFrame s.now bytes = false := by
      rw [inside]; exact Receiver.opensFrame_inside bytes_ne short inTime
    obtain ⟨dropped, taken⟩ := State.receiveFrame_closes (s := s) stopBitError closes
    refine ⟨fun bad => congrArg Host.Outcome.next (dropped bad), ?_⟩
    rintro content u v good rfl hu
    have heard : u = (s.setReceiver port .hunting).restartWatch port := by
      rw [hu, State.restartWatch_eq, State.setReceiver_watch]
    have ports : u.pif.port port = { s.pif.port port with receiver := .hunting } := by
      rw [heard, State.restartWatch_port, State.setReceiver_port]
    have run : exec (.portFrame port bytes stopBitError) s = .next (u.holdContent port content) := by
      rw [heard]; exact congrArg Host.Outcome.next (taken content good)
    refine ⟨fun free => ?_, fun busy room => ?_, fun busy full => ⟨_, run, ?_⟩, by rw [ports]⟩
    · rw [run, State.holdContent_taken (by rwa [ports])]
    · rw [run, State.holdContent_waits (by rwa [ports]) (by rwa [ports])]
    · rw [State.holdContent_busy (by rwa [ports]) (by rwa [ports])]
      have refused := fun now : Time => PortState.refuseBusy_holding now content (u.pif.port port)
      have notices := fun now : Time => PortState.refuseBusy_notices now content (u.pif.port port)
      have kept : KeepsBut [.pif] s u := by
        rw [heard]; exact (State.updPort_keeps ..).trans (State.restartWatch_keeps ..)
      refine ⟨kept.trans (State.updPort_keeps ..), Pif.updPort_watchT .., Pif.updPort_watchQ ..,
        fun o other => Pif.port_updPort_other _ other _, ?_⟩
      rw [State.updPort, Pif.port_updPort_same]
      refine ⟨?_, ?_, ?_, (notices _).1, (notices _).2, PortState.refuseBusy_outgoing ..⟩
      · rw [(refused _).receiver, ports]
      · rw [(refused _).waiting, ports]
      · rw [(refused _).executing, ports]
  · rw [State.timeoutFrame_inside inside]; rfl
  · rw [State.timeoutFrame_inside inside]; rfl

end Sys2Proof.Machine

/-! # The end of a frame that a port sends (R172, R176) -/

namespace Sys2Proof.Machine

/-! ## The port after its frame -/

/-- A port that has sent its frame: the transmitter is idle, and the arbiter chooses. -/
def PortState.afterFrame (now : Time) (p : PortState) : PortState := { p with sending := none }.arbitrate now

section
variable (now : Time) (p : PortState)

theorem PortState.afterFrame_holding : p.SameHolding (p.afterFrame now) :=
  PortState.SameHolding.trans (q := { p with sending := none }) ⟨rfl, rfl, rfl⟩ (PortState.arbitrate_holding now _)

variable {p}

theorem PortState.afterFrame_response {f : TxFrame} {rest : List TxFrame} (responses : p.responses = f :: rest) :
    p.afterFrame now = { p with
      responses := rest, sending := some { frame := f, ends := now + txTime f.content } } :=
  PortState.arbitrate_response (p := { p with sending := none }) now rfl responses

theorem PortState.afterFrame_notice {n : Queued} {rest : List Queued} (responses : p.responses = [])
    (notices : p.notices = n :: rest) :
    p.afterFrame now = { p with
      notices := rest
      sending := some { frame := { content := noticeContent n.cls n.notice, releases := false, busy := false },
                        ends := now + txTime (noticeContent n.cls n.notice) } } :=
  PortState.arbitrate_notice (p := { p with sending := none }) now rfl responses notices

theorem PortState.afterFrame_idle (responses : p.responses = []) (notices : p.notices = []) :
    p.afterFrame now = { p with sending := none } :=
  PortState.arbitrate_none (p := { p with sending := none }) now responses notices

end

/-! ## The machine after a frame -/

section
variable {s : State} {port : Port}

theorem State.updPort_port_same (f : PortState → PortState) :
    (s.updPort port f).pif.port port = f (s.pif.port port) := Pif.port_updPort_same ..

/-- Two changes of a port are one. -/
theorem State.updPort_updPort (f g : PortState → PortState) :
    (s.updPort port f).updPort port g = s.updPort port (fun p => g (f p)) := by cases port <;> rfl

/-- A change of a port is what it makes of that port. -/
theorem State.updPort_congr {f g : PortState → PortState} (h : f (s.pif.port port) = g (s.pif.port port)) :
    s.updPort port f = s.updPort port g := by
  have same : s.pif.updPort f port = s.pif.updPort g port := by
    cases port with
    | t => exact congrArg (fun p => { s.pif with t := p }) h
    | q => exact congrArg (fun p => { s.pif with q := p }) h
    | s => exact congrArg (fun p => { s.pif with s := p }) h
  exact congrArg (fun p => { s with pif := p }) same

theorem State.releaseHolding_empty (h : (s.pif.port port).waiting = none) :
    s.releaseHolding port = s.updPort port (fun p => { p with executing := none, waiting := none }) := by
  simp only [State.releaseHolding, h]
  exact State.updPort_congr (by rw [h])

theorem State.releaseHolding_next {content : List Byte} (h : (s.pif.port port).waiting = some content) :
    s.releaseHolding port =
      (s.updPort port (fun p => { p with executing := some content, waiting := none })).takeContent port
        content true := by
  simp only [State.releaseHolding, h]
  exact congrArg (State.takeContent port content true) (State.updPort_congr (by rw [h]))

variable {x : Sending} (sending : (s.pif.port port).sending = some x)
include sending

theorem State.completeFrame_sent (h : x.frame.releases = false) :
    s.completeFrame port = (s.reach x.ends).updPort port (PortState.afterFrame (max s.now x.ends)) := by
  simp only [State.completeFrame, sending, h]
  rfl

theorem State.completeFrame_released (h : x.frame.releases = true) :
    s.completeFrame port =
      ((s.reach x.ends).updPort port (PortState.afterFrame (max s.now x.ends))).releaseHolding port := by
  simp only [State.completeFrame, sending, h]
  rfl

theorem State.completeFrame_empty (h : x.frame.releases = false ∨ (s.pif.port port).waiting = none) :
    ∃ f : PortState → PortState, s.completeFrame port = (s.reach x.ends).updPort port f
      ∧ f (s.pif.port port) =
        { (s.pif.port port).afterFrame (max s.now x.ends) with
          executing := if x.frame.releases then none else (s.pif.port port).executing } := by
  have holding := (s.pif.port port).afterFrame_holding (max s.now x.ends)
  cases releases : x.frame.releases with
  | false =>
    refine ⟨_, State.completeFrame_sent sending releases, ?_⟩
    rw [if_neg (by decide), ← holding.executing]
  | true =>
    have empty := h.resolve_left (by simp [releases])
    refine ⟨fun p => { p.afterFrame (max s.now x.ends) with executing := none, waiting := none }, ?_, ?_⟩
    · rw [State.completeFrame_released sending releases, State.releaseHolding_empty, State.updPort_updPort]
      rw [State.updPort_port_same]
      exact holding.waiting.trans empty
    · rw [if_pos rfl, ← empty, ← holding.waiting]

end

/-- Settles O43: the arbiter chooses first; the holding is released by the last frame of a response. -/
theorem transmitterSendsResponsesFirst : Obligations.TransmitterSendsResponsesFirst := by
  intro s port x sending
  have holding := (s.pif.port port).afterFrame_holding (max s.now x.ends)
  refine ⟨fun h => ?_, fun content releases waiting => ?_⟩
  · obtain ⟨f, run, port_eq⟩ := State.completeFrame_empty sending h
    refine ⟨_, congrArg Host.Outcome.next run, (State.reach_keeps ..).mono (by decide) |>.trans
      ((State.updPort_keeps ..).mono (by decide)), rfl, fun p other => Pif.port_updPort_other _ other _, ?_⟩
    have after : ((s.reach x.ends).updPort port f).pif.port port = _ :=
      (Pif.port_updPort_same ..).trans port_eq
    rw [after]
    refine ⟨rfl, holding.waiting, fun g rest responses => ?_, fun n rest responses notices => ?_,
      fun responses notices => ?_⟩
    · rw [PortState.afterFrame_response _ responses]
      exact ⟨rfl, rfl, rfl⟩
    · rw [PortState.afterFrame_notice _ responses notices]
      exact ⟨rfl, rfl⟩
    · rw [PortState.afterFrame_idle _ responses notices]
  · refine congrArg Host.Outcome.next ((State.completeFrame_released sending releases).trans ?_)
    rw [State.releaseHolding_next, State.updPort_updPort]
    · rfl
    · rw [State.updPort_port_same]
      exact holding.waiting.trans waiting

end Sys2Proof.Machine

/-! # The master-silence expiry of a port (R134, R180, R82, R162) -/

namespace Sys2Proof.Machine

/-! ## An operation on every configured zone -/

/-- An operation that changes the zone of its number by `g`, and no other. -/
def ActsOnZones (f : State → Nat → State) (g : Zone → Zone) : Prop :=
  ∀ s k n, (f s k).zone n = if n = k then (s.zone n).map g else s.zone n

section
variable {f : State → Nat → State} {g : Zone → Zone}

/-- Such an operation from what it makes of the zone of its number. -/
theorem ActsOnZones.intro (absent : ∀ s k, s.zone k = none → f s k = s)
    (present : ∀ s k z, s.zone k = some z → ZoneBecomes k (g z) s (f s k)) : ActsOnZones f g := by
  intro s k n
  cases zone : s.zone k with
  | none =>
    rw [absent s k zone]
    split
    · rename_i same
      rw [same, zone]; rfl
    · rfl
  | some z =>
    have becomes := present s k z zone
    split
    · rename_i same
      rw [same, zone]; exact becomes.zone
    · rename_i other
      exact becomes.others n other

/-- Where a second change changes nothing more, the zones of a list of numbers are changed once. -/
theorem ActsOnZones.foldl (acts : ActsOnZones f g) (twice : ∀ z, g (g z) = g z) :
    ∀ (l : List Nat) (s : State) (n : Nat), (l.foldl f s).zone n = if n ∈ l then (s.zone n).map g else s.zone n
  | [], _, _ => by simp
  | k :: rest, s, n => by
    rw [List.foldl_cons, acts.foldl twice rest, acts s k n]
    by_cases same : n = k
    · subst same
      cases s.zone n <;> simp [twice]
    · simp [same]

/-- The operation on every configured zone. -/
theorem ActsOnZones.zoneNumbers (acts : ActsOnZones f g) (twice : ∀ z, g (g z) = g z) (s : State) (n : Nat) :
    (s.zoneNumbers.foldl f s).zone n = (s.zone n).map g := by
  rw [acts.foldl twice]
  split
  · rfl
  · rename_i absent
    have unconfigured : s.zone n = none := findKey_eq_none.mpr absent
    rw [unconfigured]; rfl

end

theorem State.deriveDemand_acts : ActsOnZones (fun s n => s.deriveDemand n) Zone.shown :=
  .intro (fun s k absent => by simp only [State.deriveDemand, absent]) fun _ _ _ zone => State.deriveDemand_becomes zone

theorem Zone.shown_shown (z : Zone) : z.shown.shown = z.shown := rfl

/-! ## The zones of a silent master (R134) -/

/-- A zone after the master-silence expiry of a port (R134). -/
def Zone.silenced (port : Port) (z : Zone) : Zone :=
  if z.touchedBySilence port then (z.masterSilent port).shown else z

theorem Zone.masterSilent_t (z : Zone) :
    z.masterSilent .t = { z with tFloor := none, dwell := if z.tFloor.isSome then 0 else z.dwell } := by
  cases floor : z.tFloor with
  | none =>
    simp only [Zone.masterSilent, floor, Option.isSome_none, Bool.false_eq_true, if_false]
    rw [← floor]
  | some f => simp [Zone.masterSilent, floor]

/-- What a silent master leaves of a zone. -/
theorem Zone.masterSilent_kept (port : Port) (z : Zone) : (z.masterSilent port).level = z.level
    ∧ (z.masterSilent port).cfg = z.cfg ∧ (z.masterSilent port).alert = z.alert
    ∧ (z.masterSilent port).service = z.service ∧ (z.masterSilent port).last = z.last := by
  cases port with
  | t => rw [Zone.masterSilent_t]; exact ⟨rfl, rfl, rfl, rfl, rfl⟩
  | q => exact ⟨rfl, rfl, rfl, rfl, rfl⟩
  | s => exact ⟨rfl, rfl, rfl, rfl, rfl⟩

/-- What the expiry takes is gone after it. -/
theorem Zone.silenced_untouched (port : Port) (z : Zone) : (z.silenced port).touchedBySilence port = false := by
  unfold Zone.silenced
  split
  · cases port with
    | t => rw [Zone.masterSilent_t]; rfl
    | q => rfl
    | s => rfl
  · rename_i untouched
    simpa using untouched

theorem Zone.silenced_silenced (port : Port) (z : Zone) : (z.silenced port).silenced port = z.silenced port :=
  if_neg (by rw [Zone.silenced_untouched]; decide)

theorem State.silenceZone_acts (port : Port) : ActsOnZones (fun s n => s.silenceZone port n) (Zone.silenced port) := by
  refine .intro (fun s k absent => by simp only [State.silenceZone, absent]) fun s k z zone => ?_
  simp only [State.silenceZone, zone, Zone.silenced]
  split
  · have silent := State.updZone_becomes zone (Zone.masterSilent port) fun z => (z.masterSilent_kept port).2.1
    have derived := silent.trans (State.deriveDemand_becomes silent.zone)
    exact derived.trans (.ofZwc ((State.raiseZone_keeps ..).zwc (by decide)) derived.zone)
  · exact .ofZwc rfl zone

/-! ## The parts of the expiry (R180) -/

/-- The watchdog is stopped, and the expiry is recorded and raised (R180). -/
def State.silenceNoted (port : Port) (s : State) : State :=
  (({ s with pif := s.pif.stopWatch port }).record (.action .masterSilent port)).raise .urgent
    (.site (.masterSilent port))

section
variable (s : State) (port : Port)

theorem State.silenceMaster_eq :
    s.silenceMaster port = (((s.silenceNoted port).silenceZones port).silencePiles port).silenceSet port := rfl

theorem State.silenceMaster_wrl : (s.silenceMaster port).wrl = s.logged (.action .masterSilent port) := by
  rw [State.silenceMaster_eq, (State.silenceSet_keeps ..).wrl (by decide),
    (State.silencePiles_keeps ..).wrl (by decide), (State.silenceZones_keeps ..).wrl (by decide)]
  rfl

theorem State.silenceMaster_zone (n : Nat) : (s.silenceMaster port).zone n = (s.zone n).map (Zone.silenced port) := by
  rw [State.silenceMaster_eq, State.zone_congr ((State.silenceSet_keeps ..).zwc (by decide)),
    State.zone_congr ((State.silencePiles_keeps ..).zwc (by decide))]
  exact (State.silenceZone_acts port).zoneNumbers (Zone.silenced_silenced port) (s.silenceNoted port) n

theorem State.silenceMaster_spm : (s.silenceMaster port).spm = ((s.silenceNoted port).silencePiles port).spm := by
  have zones : ((s.silenceNoted port).silenceZones port).spm = (s.silenceNoted port).spm :=
    (State.silenceZones_keeps ..).spm (by decide)
  rw [State.silenceMaster_eq, (State.silenceSet_keeps ..).spm (by decide)]
  cases port with
  | t => simp only [State.silencePiles, zones]
  | q => exact zones
  | s => exact zones

theorem State.silenceMaster_cau :
    (s.silenceMaster port).cau = if s.cau.state ≠ .free ∧ s.cau.owner = some port then s.cau.freed else s.cau := by
  have before : (((s.silenceNoted port).silenceZones port).silencePiles port).cau = s.cau := by
    rw [(State.silencePiles_keeps ..).cau (by decide), (State.silenceZones_keeps ..).cau (by decide)]
    rfl
  rw [State.silenceMaster_eq, State.silenceSet, before]
  split
  · exact congrArg Cau.freed before
  · exact before

/-- The blocks leave the receivers, the holdings and the watchdogs as the stop of the watchdog leaves them. -/
theorem State.silenceMaster_quiet : PortsQuiet { s with pif := s.pif.stopWatch port } (s.silenceMaster port) := by
  have noted : PortsQuiet { s with pif := s.pif.stopWatch port } (s.silenceNoted port) := by
    unfold State.silenceNoted
    exact (PortsQuiet.ofPif (State.record_pif ..)).trans (State.raise_quiet ..)
  exact ((noted.trans (State.silenceZones_quiet ..)).trans
    (.ofPif ((State.silencePiles_keeps ..).pif (by decide)))).trans (State.silenceSet_quiet ..)

variable {s port}

theorem PortsQuiet.watch {t : State} (h : PortsQuiet s t) (o : Port) : t.pif.watch o = s.pif.watch o := by
  cases o with
  | t => exact congrArg some h.watchT
  | q => exact congrArg some h.watchQ
  | s => rfl

theorem Pif.stopWatch_watch_same {p : Pif} {w : Watchdog} (h : p.watch port = some w) :
    (p.stopWatch port).watch port = some { w with expiry := none, master := .silent } := by
  cases port with
  | t => cases h; rfl
  | q => cases h; rfl
  | s => cases h

theorem Pif.stopWatch_watch_other (p : Pif) {o : Port} (h : o ≠ port) : (p.stopWatch port).watch o = p.watch o := by
  cases port <;> cases o
  case t.t | q.q => exact absurd rfl h
  all_goals rfl

theorem Pif.stopWatch_port (p : Pif) (o : Port) : (p.stopWatch port).port o = p.port o := by
  cases port <;> cases o <;> rfl

end

/-- What the expiry leaves of a zone, and what of it goes. -/
theorem Zone.silenced_spec (port : Port) (z : Zone) : (z.silenced port).level = z.level
    ∧ (z.silenced port).cfg = z.cfg ∧ (z.silenced port).alert = z.alert ∧ (z.silenced port).service = z.service
    ∧ (z.silenced port).last = z.last
    ∧ (z.silenced port ≠ z → (z.silenced port).sign = (z.silenced port).signDemand
      ∧ (z.silenced port).siren = (z.silenced port).sirenDemand) := by
  unfold Zone.silenced
  split
  · obtain ⟨level, cfg, alert, service, last⟩ := z.masterSilent_kept port
    exact ⟨level, cfg, alert, service, last, fun _ => ⟨rfl, rfl⟩⟩
  · exact ⟨rfl, rfl, rfl, rfl, rfl, fun changed => absurd rfl changed⟩

theorem Zone.silenced_t (z : Zone) : (z.silenced .t).tFloor = none ∧ (z.silenced .t).qFloor = z.qFloor
    ∧ (z.silenced .t).silence = z.silence ∧ (z.silenced .t).testEnd = z.testEnd
    ∧ (z.silenced .t).dwell = (if z.tFloor.isSome then 0 else z.dwell) := by
  cases floor : z.tFloor <;> simp [Zone.silenced, Zone.touchedBySilence, Zone.masterSilent, Zone.shown, floor]

theorem Zone.silenced_q (z : Zone) : (z.silenced .q).qFloor = none ∧ (z.silenced .q).silence = none
    ∧ (z.silenced .q).testEnd = none ∧ (z.silenced .q).tFloor = z.tFloor
    ∧ (z.silenced .q).dwell = (if z.qFloor.isSome then 0 else z.dwell) := by
  unfold Zone.silenced
  split
  · exact ⟨rfl, rfl, rfl, rfl, rfl⟩
  · rename_i untouched
    simp only [Zone.touchedBySilence, Bool.or_eq_true, not_or, Option.not_isSome_iff_eq_none] at untouched
    obtain ⟨⟨floor, silence⟩, test⟩ := untouched
    exact ⟨floor, silence, test, rfl, by rw [floor]; rfl⟩

/-- Settles O6: the watchdog stops, and each block withdraws what the master holds. -/
theorem masterSilenceWithdrawsTheMaster : Obligations.MasterSilenceWithdrawsTheMaster := by
  intro s port w e watch expiry
  have run : s.expireWatch port = (s.reach (e * 1000000)).silenceMaster port := by
    simp only [State.expireWatch, watch, Option.bind_some, expiry, tickTime]
  have quiet := (s.reach (e * 1000000)).silenceMaster_quiet port
  have now : ((s.reach (e * 1000000)).silenceMaster port).now = max s.now (e * 1000000) :=
    (State.silenceMaster_keeps ..).now (by decide)
  have spm := (s.reach (e * 1000000)).silenceMaster_spm port
  have cau := (s.reach (e * 1000000)).silenceMaster_cau port
  refine ⟨_, congrArg Host.Outcome.next run,
    ((State.reach_keeps ..).mono (by decide)).trans ((State.silenceMaster_keeps ..).mono (by decide)), now,
    ?_, fun o other => ?_, fun o => ⟨?_, ?_, ?_⟩, ?_, fun n z zone => ⟨z.silenced port, ?_, ?_⟩, ?_, ?_, ?_, ?_⟩
  · exact (quiet.watch port).trans (Pif.stopWatch_watch_same watch)
  · exact (quiet.watch o).trans (Pif.stopWatch_watch_other _ other)
  · exact (quiet.executing o).trans (congrArg _ (Pif.stopWatch_port ..))
  · exact (quiet.waiting o).trans (congrArg _ (Pif.stopWatch_port ..))
  · exact (quiet.receivers o).trans (congrArg _ (Pif.stopWatch_port ..))
  · rw [State.silenceMaster_wrl, now]; rfl
  · rw [State.silenceMaster_zone]; exact congrArg _ zone
  · obtain ⟨level, cfg, alert, service, last, demand⟩ := z.silenced_spec port
    refine ⟨level, cfg, alert, service, last, ?_, ?_, demand⟩
    · rintro rfl; exact z.silenced_t
    · rintro rfl; exact z.silenced_q
  · rintro rfl; exact spm
  · intro other
    refine spm.trans ?_
    cases port with
    | t => exact absurd rfl other
    | q => rfl
    | s => rfl
  · exact fun held owner => cau.trans (if_pos ⟨held, owner⟩)
  · exact fun other => cau.trans (if_neg fun own => other own.2)

end Sys2Proof.Machine

/-! # RESTART (R181, R21, R43, R67, R86, R110, R133, R150, R162, R187) -/

namespace Sys2Proof.Machine

/-! ## The lines at new demands (R139, R150) -/

/-- A line that has followed its demands: the rest of its record stays, and a line that waits for a retry or is
latched does not follow. -/
structure Line.Follows (l l' : Line) : Prop where
  fields : l' = { l with demand := l'.demand, state := l'.state, driveStart := l'.driveStart }
  held : l.state = .retryWait ∨ l.state = .latched → l'.state = l.state ∧ l'.driveStart = l.driveStart

theorem Line.Follows.refl (l : Line) : l.Follows l := ⟨rfl, fun _ => ⟨rfl, rfl⟩⟩

theorem Line.Follows.trans {l m k : Line} (h : l.Follows m) (h' : m.Follows k) : l.Follows k := by
  refine ⟨by rw [h'.fields, h.fields], fun held => ?_⟩
  obtain ⟨state, drive⟩ := h.held held
  obtain ⟨state', drive'⟩ := h'.held (by rwa [state])
  exact ⟨state'.trans state, drive'.trans drive⟩

theorem Line.setDemand_follows (o : Oda) (now : Time) (d : Demand) (l : Line) : l.Follows (l.setDemand o now d) := by
  unfold Line.setDemand
  split
  · exact .refl l
  · refine ⟨by rw [Line.follow_fields], ?_⟩
    rintro (state | state) <;> simp [Line.follow, state]

/-- Demands alone have reached the lines. -/
structure LinesFollow (s t : State) : Prop where
  oda : t.oda = { s.oda with lines := t.oda.lines }
  lines : ∀ n l, s.line n = some l → ∃ l', t.line n = some l' ∧ l.Follows l'

section
variable {s t u : State}

theorem LinesFollow.ofOda (e : t.oda = s.oda) : LinesFollow s t :=
  ⟨by rw [e], fun n l hl => ⟨l, by rwa [State.line_congr e], .refl l⟩⟩

theorem LinesFollow.trans (h : LinesFollow s t) (k : LinesFollow t u) : LinesFollow s u := by
  refine ⟨by rw [k.oda, h.oda], fun n l hl => ?_⟩
  obtain ⟨m, hm, follows⟩ := h.lines n l hl
  obtain ⟨l', hl', follows'⟩ := k.lines n m hm
  exact ⟨l', hl', follows.trans follows'⟩

theorem LinesFollow.foldl {f : State → Nat → State} (h : ∀ s n, LinesFollow s (f s n)) :
    ∀ (l : List Nat) (s : State), LinesFollow s (l.foldl f s)
  | [], _ => .ofOda rfl
  | n :: rest, s => (h s n).trans (LinesFollow.foldl h rest (f s n))

theorem State.demandLine_follow (s : State) (n : Nat) (d : Demand) : LinesFollow s (s.demandLine n d) := by
  refine ⟨rfl, fun m l hl => ?_⟩
  have line : (s.demandLine n d).line m = if m = n then (s.line m).map (Line.setDemand s.oda s.now d) else s.line m :=
    s.line_updLine n m _ (Line.setDemand_line s.oda s.now d)
  rw [line, hl]
  split
  · exact ⟨_, rfl, Line.setDemand_follows ..⟩
  · exact ⟨l, rfl, .refl l⟩

theorem State.deriveDemand_follow (s : State) (n : Nat) : LinesFollow s (s.deriveDemand n) := by
  unfold State.deriveDemand
  split
  · exact .ofOda rfl
  · have zone : LinesFollow s (s.updZone n Zone.shown) := .ofOda rfl
    exact (zone.trans (State.demandLine_follow ..)).trans (State.demandLine_follow ..)

end

/-! ## The blocks (R181) -/

section
variable (s : State)

theorem State.restartWind_wgt : s.restartWind.wgt =
    { s.wgt with
      masts := s.wgt.masts.map (fun m => Mast.created m.slot)
      site := .blind, windBlind := true, gusts := [], lastClose := none } := by
  unfold State.restartWind
  dsimp only
  split <;> rfl

theorem State.restartZones_zone (n : Nat) : s.restartZones.zone n = (s.zone n).map fun z => z.restarted.shown := by
  have numbers : ({ s with zwc.zones := s.zwc.zones.map Zone.restarted }).zoneNumbers = s.zoneNumbers := by
    simp only [State.zoneNumbers, List.map_map]
    rfl
  have zone : ({ s with zwc.zones := s.zwc.zones.map Zone.restarted }).zone n = (s.zone n).map Zone.restarted :=
    findKey_map (fun _ => rfl) n s.zwc.zones
  rw [State.restartZones, ← numbers, State.deriveDemand_acts.zoneNumbers Zone.shown_shown, zone, Option.map_map]
  rfl

theorem State.restartZones_follow : LinesFollow s s.restartZones :=
  LinesFollow.trans (t := { s with zwc.zones := s.zwc.zones.map Zone.restarted }) (.ofOda rfl)
    (.foldl State.deriveDemand_follow _ _)

theorem State.restartSet_cau : s.restartSet.cau = if s.cau.state = .free then s.cau else s.cau.freed := by
  unfold State.restartSet
  split <;> rfl

/-- The blocks before the zones leave the zones, the lines and the pending set. -/
theorem State.restartBlocks_before :
    KeepsBut [.srg, .wgt, .spm, .rke, .pif] s s.restartStations.restartWind.restartSite.restartRisk :=
  ((((State.restartStations_keeps s).mono (by decide)).trans ((State.restartWind_keeps _).mono (by decide))).trans
    ((State.restartSite_keeps _).mono (by decide))).trans ((State.restartRisk_keeps _).mono (by decide))

/-- The blocks after the assessment leave the stations, the wind, the site and the results. -/
theorem State.restartBlocks_after :
    KeepsBut [.zwc, .oda, .cau, .pif] s.restartStations.restartWind.restartSite.restartRisk s.restartBlocks :=
  ((State.restartZones_keeps _).mono (by decide)).trans ((State.restartSet_keeps _).mono (by decide))

theorem State.restartBlocks_srg : s.restartBlocks.srg = s.restartStations.srg := by
  rw [s.restartBlocks_after.srg (by decide), (State.restartRisk_keeps _).srg (by decide),
    (State.restartSite_keeps _).srg (by decide), (State.restartWind_keeps _).srg (by decide)]

theorem State.restartBlocks_wgt : s.restartBlocks.wgt = s.restartWind.wgt := by
  rw [s.restartBlocks_after.wgt (by decide), (State.restartRisk_keeps _).wgt (by decide),
    (State.restartSite_keeps _).wgt (by decide), State.restartWind_wgt, State.restartWind_wgt]
  rfl

theorem State.restartBlocks_spm : s.restartBlocks.spm = s.restartSite.spm := by
  have before : s.restartStations.restartWind.spm = s.spm := (State.restartWind_keeps _).spm (by decide)
  rw [s.restartBlocks_after.spm (by decide), (State.restartRisk_keeps _).spm (by decide)]
  simp only [State.restartSite, before]

theorem State.restartBlocks_rke : s.restartBlocks.rke = s.restartRisk.rke := by
  have before : s.restartStations.restartWind.restartSite.rke = s.rke :=
    ((State.restartSite_keeps _).rke (by decide)).trans ((State.restartWind_keeps _).rke (by decide))
  rw [s.restartBlocks_after.rke (by decide)]
  simp only [State.restartRisk, before]

theorem State.restartBlocks_zone (n : Nat) : s.restartBlocks.zone n = (s.zone n).map fun z => z.restarted.shown := by
  rw [State.restartBlocks, State.zone_congr ((State.restartSet_keeps _).zwc (by decide)), State.restartZones_zone,
    State.zone_congr (s.restartBlocks_before.zwc (by decide))]

theorem State.restartBlocks_follow : LinesFollow s s.restartBlocks :=
  ((LinesFollow.ofOda (s.restartBlocks_before.oda (by decide))).trans (State.restartZones_follow _)).trans
    (.ofOda ((State.restartSet_keeps _).oda (by decide)))

theorem State.restartBlocks_cau : s.restartBlocks.cau = if s.cau.state = .free then s.cau else s.cau.freed := by
  have before : s.restartStations.restartWind.restartSite.restartRisk.restartZones.cau = s.cau :=
    ((State.restartZones_keeps _).cau (by decide)).trans (s.restartBlocks_before.cau (by decide))
  rw [State.restartBlocks, State.restartSet_cau, before]

end

/-! ## The response (R174, R181) -/

section
variable {s t : State} {a : Asked} {r : Result} {units : List (List Byte)}

theorem State.Answers.ofPif (h : s.Answers a r units) (e : t.pif = s.pif) : t.Answers a r units := by
  rwa [State.Answers, e]

/-- A notice raised after a response goes out after it. -/
theorem State.Answers.raise (h : s.Answers a r units) (cls : NoticeClass) (n : Notice) :
    (s.raise cls n).Answers a r units := by
  have sends : (s.pif.port a.port).outgoing ≠ [] := by
    intro idle
    rw [State.Answers, idle, List.suffix_nil] at h
    exact responseFrames_ne_nil a r 1 (packUnits_ne_nil units []) h
  rw [State.Answers, State.raise_port, PortState.notify_outgoing _ _ _ _ _ sends]
  exact h

/-- WIND_BLIND and CONFIG DISCARDED are all that the blocks raise (R67, R162). -/
theorem State.Answers.restartBlocks (h : s.Answers a r units) : s.restartBlocks.Answers a r units := by
  have wind : s.restartStations.restartWind.Answers a r units := by
    unfold State.restartWind
    dsimp only
    split
    · exact h.ofPif rfl
    · exact State.Answers.raise (h.ofPif rfl) ..
  have zones : s.restartStations.restartWind.restartSite.restartRisk.restartZones.Answers a r units :=
    wind.ofPif ((State.restartZones_keeps _).pif (by decide))
  unfold State.restartBlocks State.restartSet
  split
  · exact zones
  · exact State.Answers.raise (zones.ofPif rfl) ..

end

/-! ## The command -/

theorem State.record_spec (s : State) (body : EntryBody) :
    (s.record body).wrl.entries.getLast? = some
        { seq := s.wrl.nextSeq, epoch := s.wrl.epoch, round := s.flc.round, time := s.seconds, body := body }
      ∧ (s.record body).wrl.nextSeq = s.wrl.nextSeq + 1 ∧ (s.record body).wrl.epoch = s.wrl.epoch :=
  Wrl.append_spec _ s.wrl

/-- The epoch goes up and the RESTART is recorded under it (R187). -/
theorem State.markRestart_spec (s : State) (port : Port) :
    (s.markRestart port).wrl.entries.getLast? = some
        { seq := s.wrl.nextSeq, epoch := s.wrl.epoch + 1, round := s.flc.round, time := s.seconds,
          body := .restart port }
      ∧ (s.markRestart port).wrl.nextSeq = s.wrl.nextSeq + 1 ∧ (s.markRestart port).wrl.epoch = s.wrl.epoch + 1 :=
  State.record_spec { s with wrl := { s.wrl with epoch := s.wrl.epoch + 1 } } (.restart port)

section
variable (a : Asked) (s : State)

/-- What the response of a RESTART leaves to the blocks: the loop listens, and the RESTART is recorded. -/
def State.restartAnswered : State :=
  (s.restartLoop.markRestart a.port).reply a .done [[(s.restartLoop.markRestart a.port).wrl.epoch]]

theorem restartCommand_eq : restartCommand a s = (s.restartAnswered a).restartBlocks := rfl

theorem restartCommand_flc : (restartCommand a s).flc = Flc.restarted s.now s.cau.site.attempts :=
  (State.restartBlocks_keeps (s.restartAnswered a)).flc (by decide)

theorem restartCommand_wrl : (restartCommand a s).wrl = (s.restartLoop.markRestart a.port).wrl :=
  (State.restartBlocks_keeps (s.restartAnswered a)).wrl (by decide)

theorem restartCommand_answers : (restartCommand a s).Answers a .done [[s.wrl.epoch + 1]] := by
  have answered : (s.restartAnswered a).Answers a .done [[(s.restartLoop.markRestart a.port).wrl.epoch]] :=
    State.reply_answers ..
  rw [(s.restartLoop.markRestart_spec a.port).2.2] at answered
  exact answered.restartBlocks

end

theorem restart_row (s : State) (port : Port) (tag : Byte) :
    RowResult [.flc, .wrl, .srg, .wgt, .spm, .rke, .zwc, .oda, .cau] s port tag .restart .done [[s.wrl.epoch + 1]]
      (restartCommand (rowAsked s port tag .restart) (s.held port (Command.restart.content tag))) where
  answers := by
    have answers := restartCommand_answers (rowAsked s port tag .restart) (s.held port (Command.restart.content tag))
    rwa [State.held_eq] at answers ⊢
  ports := .ofQuiet (restartCommand_quiet ..)
  keeps := ((State.held_keeps ..).mono (by decide)).trans ((restartCommand_keeps ..).mono (by decide))

/-- Settles O5: each block restarts its own records, and the zones and lines keep what is not of the run. -/
theorem restartKeepsLevelsAndPiles : Obligations.RestartKeepsLevelsAndPiles := by
  intro s port tag tagged master
  have run : exec (.restart port tag) s =
      .next (restartCommand (rowAsked s port tag .restart) (s.held port (Command.restart.content tag))) :=
    exec_runs port tag .restart s tagged rfl (bne_iff_ne.mpr master)
  refine ⟨_, run, restart_row s port tag, ?_⟩
  rw [State.held_eq]
  generalize (s.held port (Command.restart.content tag)).pif = p
  generalize asked : rowAsked s port tag .restart = a
  obtain rfl : a.port = port := by rw [← asked]; rfl
  have flc := restartCommand_flc a { s with pif := p }
  have wrl := restartCommand_wrl a { s with pif := p }
  obtain ⟨entry, nextSeq, epoch⟩ := ({ s with pif := p }.restartLoop).markRestart_spec a.port
  have answered := restartCommand_eq a { s with pif := p }
  have srg := State.restartBlocks_srg ({ s with pif := p }.restartAnswered a)
  have wgt := (State.restartBlocks_wgt ({ s with pif := p }.restartAnswered a)).trans (State.restartWind_wgt _)
  have spm := State.restartBlocks_spm ({ s with pif := p }.restartAnswered a)
  have rke := State.restartBlocks_rke ({ s with pif := p }.restartAnswered a)
  have zone := State.restartBlocks_zone ({ s with pif := p }.restartAnswered a)
  have follow := State.restartBlocks_follow ({ s with pif := p }.restartAnswered a)
  have cau : (({ s with pif := p }.restartAnswered a).restartBlocks).cau =
      if s.cau.state = .free then s.cau else s.cau.freed := State.restartBlocks_cau _
  rw [← answered] at srg wgt spm rke follow cau
  simp only [← answered] at zone
  generalize restartCommand a { s with pif := p } = t at *
  rw [flc, wrl, srg, wgt, spm, rke]
  refine ⟨rfl, rfl, rfl, rfl, rfl, rfl, rfl, rfl, rfl, epoch, nextSeq, entry, rfl, rfl, rfl, rfl, rfl, ?_, ?_, rfl,
    rfl, rfl, rfl, rfl, rfl, ?_, ?_, ?_, ?_, rfl, rfl, rfl, fun n z hz => ⟨z.restarted.shown, ?_, ?_⟩, follow.oda,
    fun n l hl => ?_, ?_, ?_, ?_, ?_⟩
  · exact List.map_map
  · exact List.forall_mem_map.mpr fun m _ => ⟨rfl, rfl, rfl, rfl, rfl, rfl⟩
  · exact List.map_map
  · exact List.forall_mem_map.mpr fun g _ => rfl
  · exact List.map_map
  · exact List.forall_mem_map.mpr fun m _ => ⟨rfl, rfl, rfl, rfl⟩
  · exact (zone n).trans (congrArg _ hz)
  · exact ⟨rfl, rfl, rfl, rfl, rfl, rfl, rfl, rfl, rfl, rfl, rfl, rfl, rfl, rfl, rfl, rfl, rfl, rfl, rfl, rfl⟩
  · obtain ⟨l', hl', fields, held⟩ := follow.lines n l hl
    exact ⟨l', hl', fields, held⟩
  · rw [cau]; split
    · assumption
    · rfl
  · exact fun held => cau.trans (if_neg held)
  · rw [cau]; split <;> rfl
  · rw [cau]; split <;> rfl

end Sys2Proof.Machine

/-! # The warning record: one write (R184, R186, R188) -/

namespace Sys2Proof.Machine

section
variable {w : Wrl} {e : Entry}

/-- A record with a place left only grows (R186). -/
theorem Wrl.append_room (room : w.entries.length < 256) :
    w.append e = { w with entries := w.entries ++ [e], nextSeq := w.nextSeq + 1 } := by
  unfold Wrl.append
  split
  · rename_i empty
    rw [empty]
    rfl
  · exact if_neg (Nat.not_le.mpr room)

/-- A full record loses its oldest entry (R186). -/
theorem Wrl.append_full {oldest : Entry} {rest : List Entry} (entries : w.entries = oldest :: rest)
    (full : 256 ≤ w.entries.length) :
    w.append e = { w.overwritten oldest.seq with entries := rest ++ [e], nextSeq := w.nextSeq + 1 } := by
  unfold Wrl.append
  rw [entries] at full ⊢
  exact if_pos full

/-- An entry that is lost after it was read leaves the read point and the gap (R188). -/
theorem Wrl.overwritten_read {lost : Seq} (read : w.readPoint ≠ lost) : w.overwritten lost = w := if_neg read

/-- An entry that is lost unread moves the read point past it; a gap keeps the number first lost (R188). -/
theorem Wrl.overwritten_unread {lost : Seq} (unread : w.readPoint = lost) :
    w.overwritten lost = { w with readPoint := lost + 1, gap := some (w.gap.getD lost) } := by
  unfold Wrl.overwritten
  rw [if_pos unread]
  cases w.gap <;> rfl

/-- The newest entry outlives the next write: a full record loses its oldest (R186). -/
theorem Wrl.mem_append_append (d e : Entry) (w : Wrl) : d ∈ ((w.append d).append e).entries := by
  obtain ⟨newest, -, -⟩ := w.append_spec d
  obtain ⟨before, entries⟩ := List.getLast?_eq_some_iff.mp newest
  generalize w.append d = v at entries ⊢
  by_cases room : v.entries.length < 256
  · rw [Wrl.append_room room, entries]
    simp
  · cases before with
    | nil => simp [entries] at room
    | cons oldest rest =>
      rw [Wrl.append_full entries (Nat.not_lt.mp room)]
      simp

/-- A chain runs on with the number after its last. -/
theorem chainFrom_append_one : ∀ {n : Seq} {l : List Entry}, chainFrom n l → e.seq = n + BitVec.ofNat 32 l.length →
    chainFrom n (l ++ [e])
  | n, [], _, number => ⟨by simpa using number, trivial⟩
  | n, _ :: l, ⟨first, rest⟩, number => by
    refine ⟨first, chainFrom_append_one rest (number.trans ?_)⟩
    rw [List.length_cons]
    bv_omega

/-- An entry that carries the next number keeps the record numbered without a hole (R184, R186). -/
theorem Wrl.RecordOk.append (h : w.RecordOk) (number : e.seq = w.nextSeq) : (w.append e).RecordOk := by
  obtain ⟨held, bound, chain⟩ := h
  by_cases room : w.entries.length < 256
  · rw [Wrl.append_room room]
    refine ⟨by simp, by simpa using room, ?_⟩
    have start : w.nextSeq + 1 - BitVec.ofNat 32 (w.entries ++ [e]).length
        = w.nextSeq - BitVec.ofNat 32 w.entries.length := by
      rw [List.length_append, List.length_singleton]
      bv_omega
    rw [start]
    exact chainFrom_append_one chain (by bv_omega)
  · obtain ⟨oldest, rest, entries⟩ := List.exists_cons_of_length_pos held
    have full : rest.length + 1 = 256 := by
      rw [← List.length_cons (a := oldest), ← entries]
      omega
    rw [Wrl.append_full entries (Nat.not_lt.mp room)]
    rw [entries, List.length_cons, full] at chain
    obtain ⟨-, chain⟩ := chain
    have length : (rest ++ [e]).length = 256 := by rw [List.length_append, List.length_singleton, full]
    refine ⟨by rw [length]; decide, length.le, ?_⟩
    have start : w.nextSeq + 1 - BitVec.ofNat 32 (rest ++ [e]).length = w.nextSeq - BitVec.ofNat 32 256 + 1 := by
      rw [length]
      bv_omega
    rw [start]
    exact chainFrom_append_one chain (by bv_omega)

end

/-! ## The record at a change of level (R118) -/

section
variable {s : State} {n : Nat} {z : Zone} {new : Level}

/-- A test that is aborted is recorded, and nothing else is (R118 step 3, R128). -/
theorem State.abortTest_wrl (s : State) (n : Nat) (new : Level) :
    (s.abortTest n new).wrl = s.wrl ∨ (s.abortTest n new).wrl = s.logged (.action (.testEnd n .aborted) .q) := by
  unfold State.abortTest
  split
  · exact .inl rfl
  · split
    · exact .inr rfl
    · exact .inl rfl

/-- The LEVEL entry, and after it what the end of a test writes (R118). -/
theorem State.changeLevel_wrl (hz : s.zone n = some z) (cause : LevelCause) :
    (s.changeLevel n new cause).wrl =
      (((s.record (z.levelEntry new cause)).updZone n (Zone.atLevel new cause s.wrl.nextSeq)).abortTest n new).wrl := by
  unfold State.changeLevel
  rw [hz]
  dsimp only
  split <;> rfl

/-- The LEVEL entry of a change stays held, whether or not a test ends with it (R118, R186). -/
theorem State.changeLevel_holds (hz : s.zone n = some z) (cause : LevelCause) :
    ∃ e ∈ (s.changeLevel n new cause).wrl.entries, e.seq = s.wrl.nextSeq ∧ e.body = z.levelEntry new cause := by
  refine ⟨⟨s.wrl.nextSeq, s.wrl.epoch, s.flc.round, s.seconds, z.levelEntry new cause⟩, ?_, rfl, rfl⟩
  rw [State.changeLevel_wrl hz]
  rcases State.abortTest_wrl ((s.record (z.levelEntry new cause)).updZone n
    (Zone.atLevel new cause s.wrl.nextSeq)) n new with same | aborted
  · rw [same]
    exact List.mem_of_getLast? (s.record_spec _).1
  · rw [aborted]
    exact Wrl.mem_append_append ..

end

theorem Zone.changed_levelSeq (new : Level) (cause : LevelCause) (seq : Seq) (z : Zone) :
    (z.changed new cause seq).levelSeq = some seq := by
  unfold Zone.changed Zone.aborted
  split <;> rfl

/-- Settles O49: a write finds a place or overwrites the oldest entry; of a level change the test that it aborts is
recorded after the LEVEL entry. -/
theorem recordWritesAppendAndOverwrite : Obligations.RecordWritesAppendAndOverwrite := by
  refine ⟨?_, fun s n z level cause hz => ?_⟩
  · rintro s body new rfl
    obtain ⟨-, nextSeq, epoch⟩ := s.record_spec body
    refine ⟨State.record_keeps .., nextSeq, epoch, fun room => ?_, fun oldest rest entries full =>
      ⟨?_, fun read => ?_, fun unread => ?_⟩⟩
    · rw [State.record_wrl, State.logged, Wrl.append_room room]
      exact ⟨rfl, rfl, rfl⟩
    all_goals rw [State.record_wrl, State.logged, Wrl.append_full entries full]
    · rw [Wrl.overwritten_read read]
      exact ⟨rfl, rfl⟩
    · rw [Wrl.overwritten_unread unread]
      exact ⟨rfl, rfl⟩
  · obtain ⟨e, held, number, body⟩ := State.changeLevel_holds (new := level) hz cause
    exact ⟨_, e, (State.changeLevel_becomes hz level cause).zone, Zone.changed_levelSeq .., held, number, body⟩

end Sys2Proof.Machine

/-! # What every command of a master keeps, the ports keep (R172, R173) -/

namespace Sys2Proof.Machine

/-- A property of the state that looks neither at the ports nor at the clock, and that the owner of every command
keeps. -/
structure KeptByCommands (P : State → Prop) : Prop where
  frame : ∀ {s t : State}, KeepsBut [.now, .pif] s t → P s → P t
  run : ∀ (c : Command) (a : Asked) {s : State}, P s → P (runCommand c a s)

namespace KeptByCommands

variable {P : State → Prop} (k : KeptByCommands P) {s : State} (h : P s) (port : Port)
include k h

theorem ports {t : State} (same : KeepsBut [.pif] s t) : P t := k.frame (same.mono (by decide)) h

theorem judgeCommand (c : Option Command) (a : Asked) : P (judgeCommand c a s) := by
  rcases judgeCommand_cases a s c with ⟨r, e⟩ | ⟨x, _, e⟩
  · rw [e]; exact k.ports h (State.reply_keeps ..)
  · rw [e]; exact k.run x a h

theorem issue (tag : Byte) (c : Command) : P (s.issue port tag c) := by
  rw [State.issue_eq]
  exact k.judgeCommand (k.ports h (State.held_keeps ..)) ..

theorem takeContent (content : List Byte) (releases : Bool) : P (s.takeContent port content releases) := by
  unfold State.takeContent
  split
  · exact k.ports h (State.reply_keeps ..)
  · exact k.judgeCommand h ..

theorem updPort (f : PortState → PortState) : P (s.updPort port f) := k.ports h (State.updPort_keeps ..)

theorem holdContent (content : List Byte) : P (s.holdContent port content) := by
  unfold State.holdContent
  split
  · exact k.takeContent (k.updPort h port _) ..
  · exact k.updPort h ..
  · exact k.updPort h ..

theorem receiveFrame (bytes : List Byte) (stopBitError : Bool) : P (s.receiveFrame port bytes stopBitError) := by
  unfold State.receiveFrame State.judgeFrame
  split
  · exact k.ports h (State.openFrame_keeps ..)
  · dsimp only
    split
    · exact k.updPort h ..
    · exact k.holdContent (k.ports (k.updPort h port _) (State.restartWatch_keeps port _)) ..

theorem releaseHolding : P (s.releaseHolding port) := by
  unfold State.releaseHolding
  dsimp only
  split
  · exact k.updPort h ..
  · exact k.takeContent (k.updPort h port _) ..

theorem completeFrame : P (s.completeFrame port) := by
  unfold State.completeFrame
  split
  · exact h
  · rename_i x _
    have reached : P (s.reach x.ends) := k.frame ((State.reach_keeps ..).mono (by decide)) h
    dsimp only
    split
    · exact k.releaseHolding (k.updPort reached port _) port
    · exact k.updPort reached ..

end KeptByCommands

end Sys2Proof.Machine

/-! # Every step keeps the record (R184, R186) -/

namespace Sys2Proof.Machine

section
variable {s t u : State}

/-- The record is in order after an operation if it was before it. -/
structure RecordKept (s t : State) : Prop where
  ok : s.wrl.RecordOk → t.wrl.RecordOk

theorem RecordKept.trans (h : RecordKept s t) (k : RecordKept t u) : RecordKept s u := ⟨fun ok => k.ok (h.ok ok)⟩

/-- An operation that leaves the record. -/
theorem RecordKept.ofWrl (h : t.wrl = s.wrl) : RecordKept s t := ⟨fun ok => h ▸ ok⟩

/-- An operation whose changes do not reach the record. -/
theorem KeepsBut.recordKept {ps : List Part} (k : KeepsBut ps s t) (h : Part.wrl ∉ ps := by decide) :
    RecordKept s t := .ofWrl (k.wrl h)

/-- An operation that writes one entry. -/
theorem RecordKept.ofLogged {body : EntryBody} (h : t.wrl = s.logged body) : RecordKept s t :=
  ⟨fun ok => h ▸ ok.append rfl⟩

theorem RecordKept.foldl {α : Type} {f : State → α → State} (h : ∀ s a, RecordKept s (f s a)) (l : List α)
    (s : State) : RecordKept s (l.foldl f s) := ⟨foldl_holds (fun s a => (h s a).ok) l⟩

end

section
variable (s : State) (n : Nat)

theorem State.record_recordKept (body : EntryBody) : RecordKept s (s.record body) := .ofLogged rfl

/-! ## The zones (R115 to R132) -/

theorem State.abortTest_recordKept (new : Level) : RecordKept s (s.abortTest n new) := by
  rcases s.abortTest_wrl n new with same | aborted
  · exact .ofWrl same
  · exact .ofLogged aborted

theorem State.changeLevel_recordKept (new : Level) (cause : LevelCause) :
    RecordKept s (s.changeLevel n new cause) := by
  cases hz : s.zone n with
  | none => exact .ofWrl (by rw [State.changeLevel, hz])
  | some z =>
    refine RecordKept.trans (RecordKept.trans ?_ (State.abortTest_recordKept ..))
      (.ofWrl (State.changeLevel_wrl hz cause))
    exact (s.record_recordKept (z.levelEntry new cause)).trans (State.updZone_keeps ..).recordKept

theorem State.decideLevel_recordKept (r : Nat) : RecordKept s (s.decideLevel n r) := by
  unfold State.decideLevel
  split
  · exact .ofWrl rfl
  · split
    · exact (State.updZone_keeps ..).recordKept.trans (State.changeLevel_recordKept ..)
    · split
      · dsimp only
        split
        · exact (State.updZone_keeps ..).recordKept.trans (State.changeLevel_recordKept ..)
        · exact (State.updZone_keeps ..).recordKept
      · exact (State.updZone_keeps ..).recordKept

theorem State.deliverRisk_recordKept (d : Delivery) : RecordKept s (s.deliverRisk d) :=
  (State.updZone_keeps ..).recordKept.trans
    ((State.decideLevel_recordKept ..).trans (State.deriveDemand_keeps ..).recordKept)

theorem State.actOn_recordKept (f : Zone → Zone) (action : Action) (event : LevelEvent) :
    RecordKept s (s.actOn n f action event) := .ofLogged (State.actOn_wrl ..)

theorem State.endFloor_recordKept (role : Port) (byExpiry : Bool) : RecordKept s (s.endFloor n role byExpiry) := by
  cases hz : s.zone n with
  | none => exact .ofWrl (by rw [State.endFloor, hz])
  | some z =>
    cases hf : z.floorOf role with
    | none => exact .ofWrl (by simp only [State.endFloor, hz, hf])
    | some f => exact .ofLogged (State.endFloor_noticed hz hf byExpiry).2

/-- A floor is recorded before the rise to it (R121). -/
theorem State.setFloor_recordKept (role : Port) (l : Level) (minutes : Nat) :
    RecordKept s (s.setFloor n role l minutes) := by
  have recorded : RecordKept s (s.floorRecorded n role l minutes) := .ofLogged rfl
  unfold State.setFloor
  split
  · exact .ofWrl rfl
  · refine RecordKept.trans ?_ (State.deriveDemand_keeps ..).recordKept
    refine recorded.trans ?_
    split
    · exact (State.updZone_keeps ..).recordKept.trans (State.changeLevel_recordKept ..)
    · split
      · exact (State.updZone_keeps ..).recordKept.trans (State.raiseZone_keeps ..).recordKept
      · exact (State.raiseZone_keeps ..).recordKept

theorem State.dropZone_recordKept : RecordKept s (s.dropZone n) := by
  unfold State.dropZone
  split
  · exact .ofWrl rfl
  · dsimp only
    split
    · exact .ofLogged rfl
    · exact .ofWrl rfl

/-! ## The expiries (R122, R125, R128, R180) -/

theorem State.expireFloor_recordKept (role : Port) : RecordKept s (s.expireFloor n role) := by
  unfold State.expireFloor
  split
  · exact .ofWrl rfl
  · split
    · exact .ofWrl rfl
    · exact (State.reach_keeps ..).recordKept.trans (State.endFloor_recordKept ..)

theorem State.expireSilence_recordKept : RecordKept s (s.expireSilence n) := by
  unfold State.expireSilence
  split
  · exact .ofWrl rfl
  · split
    · exact .ofWrl rfl
    · exact (State.reach_keeps ..).recordKept.trans (State.actOn_recordKept ..)

theorem State.completeTest_recordKept : RecordKept s (s.completeTest n) := by
  unfold State.completeTest
  split
  · exact .ofWrl rfl
  · split
    · exact .ofWrl rfl
    · exact (State.reach_keeps ..).recordKept.trans (State.actOn_recordKept ..)

theorem State.expireWatch_recordKept (port : Port) : RecordKept s (s.expireWatch port) := by
  unfold State.expireWatch
  split
  · exact .ofWrl rfl
  · exact (State.reach_keeps ..).recordKept.trans (.ofLogged (State.silenceMaster_wrl ..))

/-! ## The round close (R107, R163, R166) -/

theorem State.assess_recordKept : RecordKept s s.assess := by
  have results : RecordKept s s.beforeZones.assessZones :=
    s.beforeZones_keeps.recordKept.trans (State.assessZones_keeps _).recordKept
  exact results.trans (.foldl (fun t r => t.deliverRisk_recordKept _) _ _)

/-- Of the removals that of a zone alone may write, the end of its test (R132). -/
theorem State.applyOut_recordKept (x : Item) : RecordKept s (s.applyOut x) := by
  cases x with
  | remove k =>
    cases k with
    | station n => exact (State.dropStation_keeps n s).recordKept.trans (State.changeOccupant_keeps ..).recordKept
    | pile n => exact (State.dropPile_keeps n s).recordKept.trans (State.dropWind_keeps ..).recordKept
    | zone n => exact (s.dropZone_recordKept n).trans (State.dropZoneResult_keeps ..).recordKept
    | path p z => exact (State.dropPath_keeps ..).recordKept
    | site => exact .ofWrl rfl
  | _ => exact .ofWrl rfl

theorem State.applyPut_recordKept (x : Item) : RecordKept s (s.applyPut x) := by
  cases x with
  | remove k => exact .ofWrl rfl
  | station c => exact (State.applyStation_keeps c s).recordKept.trans (State.changeOccupant_keeps ..).recordKept
  | pile c => exact (State.applyPile_keeps c s).recordKept.trans (State.applyWind_keeps ..).recordKept
  | zone c => exact (State.applyZone_keeps c s).recordKept.trans (State.applyZoneResult_keeps ..).recordKept
  | path c => exact (State.applyPath_keeps ..).recordKept
  | site p => exact .ofWrl rfl

theorem State.applySet_recordKept : RecordKept s s.applySet := by
  have items : RecordKept s (s.applyItems s.cau.items) :=
    RecordKept.trans (.foldl State.applyOut_recordKept _ _) (.foldl State.applyPut_recordKept _ _)
  unfold State.applySet
  split
  · split
    · exact (State.freeSet_keeps ..).recordKept
    · exact items.trans ((State.record_recordKept ..).trans (State.freeSet_keeps ..).recordKept)
  · exact .ofWrl rfl
  · exact .ofWrl rfl
  · exact .ofWrl rfl

/-- At a round close the apply writes, and the level changes of the deliveries do. -/
theorem State.closeBlocks_recordKept : RecordKept s s.closeBlocks :=
  s.applySet_recordKept.trans ((State.closeLoop_keeps _).recordKept.trans ((State.closeWind_keeps _).recordKept.trans
    ((State.closeSite_keeps _).recordKept.trans (State.assess_recordKept _))))

theorem State.closeRound_recordKept : RecordKept s s.closeRound := by
  unfold State.closeRound
  split
  · exact .ofWrl rfl
  · split
    · refine RecordKept.trans ?_ (State.closeBlocks_recordKept _)
      exact .ofWrl rfl
    · exact .ofWrl rfl

end

/-! ## The commands of the masters -/

section
variable (a : Asked) (s : State)

theorem State.reply_recordKept (r : Result) (units : List (List Byte)) : RecordKept s (s.reply a r units) := .ofWrl rfl

theorem State.replyRange_recordKept (index : Nat) : RecordKept s (s.replyRange a index) := .ofWrl rfl

theorem floorCommand_recordKept (zone level : Byte) (minutes : BitVec 16) :
    RecordKept s (floorCommand zone level minutes a s) := by
  unfold floorCommand
  split
  · split
    · exact s.replyRange_recordKept a ..
    · split
      · exact s.reply_recordKept a ..
      · split
        · exact s.reply_recordKept a ..
        · split
          · exact (State.endFloor_recordKept ..).trans (State.reply_recordKept ..)
          · exact (State.setFloor_recordKept ..).trans (State.reply_recordKept ..)
  · exact s.replyRange_recordKept a ..

theorem ackAlertCommand_recordKept (zone : Byte) : RecordKept s (ackAlertCommand zone a s) := by
  unfold ackAlertCommand
  split
  · split
    · exact s.reply_recordKept a ..
    · split
      · exact (State.actOn_recordKept ..).trans (State.reply_recordKept ..)
      · exact s.reply_recordKept a ..
  · exact s.replyRange_recordKept a ..

theorem silenceCommand_recordKept (zone : Byte) (minutes : BitVec 16) :
    RecordKept s (silenceCommand zone minutes a s) := by
  unfold silenceCommand
  split
  · split
    · exact s.reply_recordKept a ..
    · exact (State.actOn_recordKept ..).trans (State.reply_recordKept ..)
  · exact s.replyRange_recordKept a ..

theorem serviceCommand_recordKept (zone state : Byte) : RecordKept s (serviceCommand zone state a s) := by
  unfold serviceCommand
  split
  · split
    · exact s.replyRange_recordKept a ..
    · split
      · exact s.reply_recordKept a ..
      · split
        · exact s.reply_recordKept a ..
        · rw [State.putService_eq]
          exact (State.actOn_recordKept ..).trans (State.reply_recordKept ..)
  · exact s.replyRange_recordKept a ..

theorem testCommand_recordKept (zone : Byte) : RecordKept s (testCommand zone a s) := by
  unfold testCommand
  split
  · split
    · exact s.reply_recordKept a ..
    · split
      · exact (State.actOn_recordKept ..).trans (State.reply_recordKept ..)
      · exact s.reply_recordKept a ..
  · exact s.replyRange_recordKept a ..

theorem clearLineCommand_recordKept (line : Byte) : RecordKept s (clearLineCommand line a s) := by
  unfold clearLineCommand
  split
  · split
    · exact s.replyRange_recordKept a ..
    · rename_i l hl
      split
      · exact RecordKept.trans (.ofLogged (State.clearLatch_becomes hl _).2.2) (State.reply_recordKept ..)
      · exact s.reply_recordKept a ..
  · exact s.replyRange_recordKept a ..

/-- RESTART raises the epoch, then writes its mark (R187). -/
theorem restartCommand_recordKept : RecordKept s (restartCommand a s) := by
  have raised : RecordKept s { s.restartLoop with wrl.epoch := s.wrl.epoch + 1 } := ⟨id⟩
  exact raised.trans (.ofLogged (body := .restart a.port) (restartCommand_wrl a s))

/-- READ LOG NEXT moves the read point and clears the gap alone (R189). -/
theorem readLogNextCommand_recordKept : RecordKept s (readLogNextCommand a s) := ⟨id⟩

/-- FLOOR, the Q-port's commands on a zone, CLEAR LINE and RESTART write to the record, READ LOG NEXT moves its read
point, and no other command reaches it. -/
theorem runCommand_recordKept (c : Command) : RecordKept s (runCommand c a s) := by
  cases c with
  | floor => exact floorCommand_recordKept ..
  | ackAlert => exact ackAlertCommand_recordKept ..
  | silence => exact silenceCommand_recordKept ..
  | service => exact serviceCommand_recordKept ..
  | test => exact testCommand_recordKept ..
  | clearLine => exact clearLineCommand_recordKept ..
  | restart => exact restartCommand_recordKept ..
  | readLogNext => exact readLogNextCommand_recordKept ..
  | ackLoss => exact (ackLossCommand_keeps ..).recordKept
  | reportWetting => exact (reportWettingCommand_keeps ..).recordKept
  | reportActivity => exact (reportActivityCommand_keeps ..).recordKept
  | stage => exact (stageCommand_keeps ..).recordKept
  | discard => exact (discardCommand_keeps ..).recordKept
  | propose => exact (proposeCommand_keeps ..).recordKept
  | accept => exact (acceptCommand_keeps ..).recordKept
  | refuse => exact (refuseCommand_keeps ..).recordKept
  | status => exact (statusCommand_keeps ..).recordKept
  | readZone => exact (readZoneCommand_keeps ..).recordKept
  | readPile => exact (readPileCommand_keeps ..).recordKept
  | readStations => exact (readStationsCommand_keeps ..).recordKept
  | readStrangers => exact (readStrangersCommand_keeps ..).recordKept
  | readGusts => exact (readGustsCommand_keeps ..).recordKept
  | readPaths => exact (readPathsCommand_keeps ..).recordKept
  | readConfigItem => exact (readConfigItemCommand_keeps ..).recordKept
  | readLoop => exact (readLoopCommand_keeps ..).recordKept
  | readLogAt => exact (readLogAtCommand_keeps ..).recordKept

end

/-! ## The step -/

theorem recordOk_keptByCommands : KeptByCommands fun s => s.wrl.RecordOk where
  frame k := k.recordKept.ok
  run c a s := (runCommand_recordKept a s c).ok

theorem Wrl.RecordOk.ofNext {s t u : State} (h : s.wrl.RecordOk)
    (he : (.next u : Host.Outcome State Fault Refusal) = .next t) (hu : RecordKept s u) : t.wrl.RecordOk := by
  cases he
  exact hu.ok h

/-- Every command keeps the record: a round close, the expiries of zones and masters and what reaches a port may write
to it. -/
theorem exec_recordOk (i : Instr) {s t : State} (h : s.wrl.RecordOk) (he : exec i s = .next t) : t.wrl.RecordOk := by
  cases i
  case power => cases he; exact Wrl.afterPower_recordOk
  case roundClose => exact h.ofNext he s.closeRound_recordKept
  case floorExpiry n role => exact h.ofNext he (s.expireFloor_recordKept n role)
  case silenceExpiry n => exact h.ofNext he (s.expireSilence_recordKept n)
  case testEnd n => exact h.ofNext he (s.completeTest_recordKept n)
  case masterSilenceExpiry port => exact h.ofNext he (s.expireWatch_recordKept port)
  case portFrame port bytes e =>
    exact h.ofNext he ⟨fun ok => recordOk_keptByCommands.receiveFrame ok port bytes e⟩
  case transmitComplete port => exact h.ofNext he ⟨fun ok => recordOk_keptByCommands.completeFrame ok port⟩
  case listenPeriodEnd => exact h.ofNext he (State.endListen_keeps s).recordKept
  case foreignBeaconHeard => exact h.ofNext he (State.hearForeign_keeps s).recordKept
  case backOffEnd => exact h.ofNext he (State.endBackOff_keeps s).recordKept
  case roundStart => exact h.ofNext he (State.startRound_keeps s).recordKept
  case phaseBOut => exact h.ofNext he (State.startPhaseB_keeps s).recordKept
  case loopCopy side w e bytes => exact h.ofNext he (State.takeCopy_keeps side w e bytes s).recordKept
  case slotEnd n => exact h.ofNext he (State.endSlot_keeps n s).recordKept
  case short n => exact h.ofNext he (State.shortLine_keeps n s).recordKept
  case retryWaitEnd n => exact h.ofNext he (State.endRetry_keeps n s).recordKept
  case patternPhaseChange g => exact h.ofNext he (State.changePhase_keeps g s).recordKept
  case lineCheck sense => exact h.ofNext he (State.checkLines_keeps sense s).recordKept
  case cleanCountTick => exact h.ofNext he (State.cleanTick_keeps s).recordKept
  case idleExpiry => exact h.ofNext he (State.expireIdle_keeps s).recordKept
  case proposalExpiry => exact h.ofNext he (State.expireProposal_keeps s).recordKept
  case portFrameTimeout port => exact h.ofNext he (State.timeoutFrame_keeps port s).recordKept
  case portOpeningFlag port => exact h.ofNext he (State.openFrame_keeps port s).recordKept
  case portFrameOverlength port => exact h.ofNext he (State.discardLong_keeps port s).recordKept
  all_goals exact h.ofNext he ⟨fun ok => recordOk_keptByCommands.issue ok ..⟩

/-- Settles O54: every command writes its entries in number, and a full record loses them in number. -/
theorem stepKeepsTheRecord : Obligations.StepKeepsTheRecord :=
  fun _ _ h hstep => step_keeps (P := fun s => s.wrl.RecordOk) (fun _ _ h => h) (fun i _ _ h he => exec_recordOk i h he)
    h hstep

end Sys2Proof.Machine

/-! # The reads of the masters (R178, R189 to R192) -/

namespace Sys2Proof.Machine

/-! ## What a response leaves of the ports -/

section
variable (s : State) (a : Asked) (r : Result) (segments units : List (List Byte))

/-- A response cut into segments ends what its port sends. -/
theorem State.replySegments_outgoing (nonempty : segments ≠ []) :
    responseFrames a r 1 segments <:+ ((s.replySegments a r segments).pif.port a.port).outgoing := by
  rw [State.replySegments, State.updPort_port_same,
    PortState.queueFrames_outgoing _ _ _ (responseFrames_ne_nil a r 1 nonempty)]
  exact List.suffix_append _ _

theorem State.reply_other {o : Port} (other : o ≠ a.port) : (s.reply a r units).pif.port o = s.pif.port o :=
  Pif.port_updPort_other _ other _

/-- A response leaves the notices and the notices-dropped flag of its port. -/
theorem State.reply_notices :
    ((s.reply a r units).pif.port a.port).notices = (s.pif.port a.port).notices
      ∧ ((s.reply a r units).pif.port a.port).dropped = (s.pif.port a.port).dropped := by
  rw [State.reply, State.replySegments, State.updPort_port_same]
  exact PortState.queueFrames_notices _ _ (responseFrames_ne_nil a r 1 (packUnits_ne_nil units []))

end

/-! ## What the holding leaves of the ports -/

section
variable (s : State) (port : Port) (content : List Byte)

theorem State.held_other {o : Port} (other : o ≠ port) : (s.held port content).pif.port o = s.pif.port o := by
  unfold State.held
  split
  · exact Pif.port_updPort_other _ other _
  · rfl

theorem State.held_notices (o : Port) :
    ((s.held port content).pif.port o).notices = (s.pif.port o).notices
      ∧ ((s.held port content).pif.port o).dropped = (s.pif.port o).dropped := by
  unfold State.held
  split
  · by_cases same : o = port
    · rw [same, State.updPort_port_same]
      exact ⟨rfl, rfl⟩
    · rw [State.updPort, Pif.port_updPort_other _ same]
      exact ⟨rfl, rfl⟩
  · exact ⟨rfl, rfl⟩

/-- The port part of STATUS does not look at the holding (R182). -/
theorem State.held_portPart (o : Port) : (s.held port content).portPart o = s.portPart o := by
  unfold State.held
  split
  · cases port <;> cases o <;> rfl
  · rfl

/-- Of the ports STATUS looks at what its port part holds alone (R191). -/
theorem State.held_statusUnits (o : Port) : (s.held port content).statusUnits o = s.statusUnits o := by
  have ports := s.held_portPart port content o
  rw [State.held_eq] at ports ⊢
  rw [State.statusUnits, ports]
  rfl

end

/-! ## The rows -/

/-- The row of a read that its owner answers alone, from any port. -/
theorem readAnswers_of_run {row : Port → Byte → Instr} {c : Command} {units : State → List (List Byte)}
    (hrow : ∀ port tag, row port tag = rowOf port tag c) (hf : c.formatGood = true) (ha : ∀ port, c.allowed port = true)
    (run : ∀ a s p, runCommand c a { s with pif := p } = State.reply a .done (units s) { s with pif := p }) :
    ReadAnswers row c units := by
  intro s port tag ht
  refine ⟨(s.held port (c.content tag)).reply (rowAsked s port tag c) .done (units s), ?_, .plain .., fun o other => ?_,
    ?_, ?_⟩
  · rw [hrow, exec_runs port tag c s ht hf (ha port), State.held_eq, run]
  · rw [State.reply_other _ _ _ _ other, s.held_other port _ other]
  · exact (State.reply_notices _ (rowAsked s port tag c) _ _).1.trans (s.held_notices port _ port).1
  · exact (State.reply_notices _ (rowAsked s port tag c) _ _).2.trans (s.held_notices port _ port).2

/-- The row of a STATUS, from any port: forming the response clears the flag of that port (R178, R191). -/
theorem exec_status (s : State) (port : Port) {tag : Byte} (ht : tag ≠ 0) :
    exec (.status port tag) s =
      .next (((s.held port (Command.status.content tag)).updPort port (fun p => { p with dropped := false })).reply
        (rowAsked s port tag .status) .done (s.statusUnits port)) := by
  rw [← s.held_statusUnits port (Command.status.content tag)]
  exact exec_runs port tag .status s ht rfl rfl

theorem readZoneCommand_configured {zone : Byte} {a : Asked} {s : State} {z : Zone} (low : 1 ≤ zone.toNat)
    (high : zone.toNat ≤ 16) (hz : s.zone zone.toNat = some z) :
    readZoneCommand zone a s = s.reply a .done (s.zoneUnits z) := by
  have within := (zoneInRange_iff zone).mpr ⟨low, high⟩
  simp only [readZoneCommand, within, hz, if_true]

/-- Settles O45: STATUS clears the flag and answers; every other read answers alone. -/
theorem readsAnswerAndChangeNothing : Obligations.ReadsAnswerAndChangeNothing := by
  refine ⟨fun s port tag ht => ⟨_, exec_status s port ht, .ofReply ?_ (State.clearDropped_quiet ..), ?_,
    fun o other => ?_, ?_⟩, ?_, ?_, ?_, ?_, ?_, ?_, fun s port tag zone z ht low high hz => ?_⟩
  · exact State.updPort_keeps ..
  · refine (State.reply_notices _ (rowAsked s port tag .status) _ _).2.trans ?_
    exact congrArg PortState.dropped (State.updPort_port_same _)
  · rw [State.reply_other _ _ _ _ other, State.updPort, Pif.port_updPort_other _ other, s.held_other port _ other]
  · refine (State.reply_notices _ (rowAsked s port tag .status) _ _).1.trans ?_
    exact (congrArg PortState.notices (State.updPort_port_same _)).trans (s.held_notices port _ port).1
  iterate 6 exact readAnswers_of_run (fun _ _ => rfl) rfl (fun _ => rfl) fun _ _ _ => rfl
  · exact exec_answers (c := .readZone zone) ht rfl rfl fun p => readZoneCommand_configured low high hz

/-! ## The record (R189, R190) -/

/-- READ LOG NEXT delivers the entries that it moves the read point past, the gap first (R189, R197). -/
theorem readLogNextCommand_answers (a : Asked) (s : State) :
    responseFrames a .done 1 (packEntries (s.wrl.nextEntries.map Entry.bytes) s.wrl.gapBytes)
      <:+ ((readLogNextCommand a s).pif.port a.port).outgoing :=
  State.replySegments_outgoing _ a .done _ (packEntries_ne_nil _ _)

/-- Settles O47: the record after the command, and the response that it forms from the record before. -/
theorem logIsReadForward : Obligations.LogIsReadForward := by
  intro s tag ht
  have wrl := State.held_wrl .s (Command.readLogNext.content tag) s
  have answers := readLogNextCommand_answers (rowAsked s .s tag .readLogNext)
    (s.held .s (Command.readLogNext.content tag))
  have read : (runCommand .readLogNext (rowAsked s .s tag .readLogNext)
      (s.held .s (Command.readLogNext.content tag))).wrl = s.wrl.afterNext := congrArg Wrl.afterNext wrl
  rw [wrl] at answers
  refine ⟨_, exec_runs .s tag .readLogNext s ht rfl rfl,
    ((State.held_keeps ..).mono (by decide)).trans (readLogNextCommand_keeps ..),
    .ofQuiet (readLogNextCommand_quiet ..), ?_⟩
  rw [read]
  exact ⟨rfl, rfl, rfl, rfl, rfl, List.length_take_le .., answers⟩

/-- Settles O48: the entry of the number is found, or no entry has it. -/
theorem logIsReadAtANumber : Obligations.LogIsReadAtANumber := by
  intro s port tag n ht
  refine ⟨fun e found => exec_answers (c := .readLogAt n) ht rfl rfl fun p => ?_,
    fun absent => exec_answers (c := .readLogAt n) ht rfl rfl fun p => ?_⟩
  · simp only [runCommand, readLogAtCommand, found]
  · have missing : s.wrl.entries.find? (fun e => e.seq == n) = none := by simpa using absent
    simp only [runCommand, readLogAtCommand, missing]

end Sys2Proof.Machine

/-! # The framing (R194) -/

namespace Sys2Proof.Machine

/-- Settles O50: `unstuff_stuff` gives back content and CRC, and the last two bytes are the CRC of the bytes
before them. -/
theorem framingRoundTrip : Obligations.FramingRoundTrip :=
  fun content => deframe_stuff content

end Sys2Proof.Machine

/-! # One step: the front command, or the clock's next event (section 2.2, sections 3 to 3.2) -/

namespace Sys2Proof.Machine

/-! ## The clock's next event -/

/-- The clock brings nothing only where nothing is due. -/
theorem earliest_eq_none_iff {ds : List Due} : earliest ds = none ↔ ds = [] := by
  cases ds with
  | nil => exact iff_of_true rfl rfl
  | cons d rest =>
    refine iff_of_false ?_ (List.cons_ne_nil d rest)
    unfold earliest
    split
    · nofun
    · split <;> nofun

/-- The slow pattern never stops: its next phase change is always due (R138). -/
theorem State.slowPhase_mem_due (s : State) :
    { time := s.oda.nextPhase .slow, event := .patternPhaseChange .slow } ∈ s.due := by
  simp [State.due, Oda.due]

/-- The clock always brings a next event. -/
theorem State.exists_nextEvent (s : State) : ∃ i, s.nextEvent = some i := by
  have due : earliest s.due ≠ none :=
    fun nothing => List.ne_nil_of_mem s.slowPhase_mem_due (earliest_eq_none_iff.mp nothing)
  obtain ⟨d, hd⟩ := Option.ne_none_iff_exists'.mp due
  exact ⟨d.event, congrArg (Option.map Due.event) hd⟩

/-! ## The step, by its two cases -/

theorem step_of_pending_cons {s : State} {c : Instr} {rest : List Instr} (waiting : s.pending = c :: rest) :
    step s = exec c { s with pending := rest } := by
  rw [step, waiting]

theorem step_of_pending_nil {s : State} (idles : s.pending = []) : step s = idle s := by
  rw [step, idles]

theorem idle_of_nextEvent {s : State} {i : Instr} (next : s.nextEvent = some i) : idle s = exec i s := by
  rw [idle, next]

/-- Settles O1: the case of the step in which a command waits. -/
theorem stepTakesTheFrontCommand : Obligations.StepTakesTheFrontCommand :=
  fun _ _ _ waiting => step_of_pending_cons waiting

/-- Settles O2: something is always due, and an idle step executes the earliest of it. -/
theorem emptyQueueRunsTheClock : Obligations.EmptyQueueRunsTheClock := by
  intro s idles
  obtain ⟨i, next⟩ := s.exists_nextEvent
  exact ⟨i, next, (step_of_pending_nil idles).trans (idle_of_nextEvent next)⟩

end Sys2Proof.Machine
